-- ==== Sys2Proof/Word.lean ====
section
/-!
DEFINITION. The plain bit types of the model: bytes, 32-bit register words (R32) and 80-bit ticks of
the timebase counter (R11).
-/
namespace Sys2Proof

/-- One byte. -/
abbrev Byte := BitVec 8

/-- One 32-bit register word (R32). -/
abbrev Word := BitVec 32

/-- A tick of the 80-bit timebase counter, 1/16 ns (R11). -/
abbrev Tick := BitVec 80

end Sys2Proof
end

