-- ==== Sys2Proof/Syntax.lean ====
section
/-!
DEFINITION. The commands of the block and their operands. A command is an act of a master, an event on a
pin or a lane, or an act of one of the device's own engines; what the outside supplies is an operand.
-/
namespace Sys2Proof

/-- The masters of R41. -/
inductive Master where
  | svc
  | net (session : Fin 8)
  | twin
  | engine
  deriving DecidableEq, Repr

/-- The rings that spill to a basin under R710; a health ring belongs to a bar. -/
inductive SpillRing where
  | audit
  | defect
  | health (bar : Fin 8)
  | loop
  deriving DecidableEq, Repr

/-- What a step of LOAD finds (R660): three samples of the straps in SYS_STRAP order; TREF as measured,
Hz; the lock of the timebase PLL and the
time since RESET_N rose, us; whether the OTP data outside R87 is valid; the sensors started; the
camera rails, mV. -/
inductive LoadResult where
  | straps (s1 s2 s3 : BitVec 6)
  | tref (hz : Nat)
  | locked (ok : Bool) (us : Nat)
  | otp (otherOk : Bool)
  | sensors
  | camera (mvA mvB : Nat)
  deriving DecidableEq, Repr

/-- What a step of BUILD finds (R662 to R664): calibration and PLLs, with the failing item; the SRAM test,
with the failing bank group, whether a word was uncorrectable and the count of corrected words; DRAM
training, with the failing subchannel; the fabric self-check, with WEIR_SPEED; initialisation, with
the VOUT_MODE that the regulator answers, if it does (R670). -/
inductive BuildResult where
  | calibrated (fail : Option (Fin 5))
  | sram (group : Fin 16) (uncorrectable : Bool) (corrected : Nat)
  | dram (fail : Option (Fin 8)) (margins : List (BitVec 32))
  | fabric (answers : Bool) (speed : BitVec 16)
  | initialised (voutMode : Option (BitVec 8))
  deriving DecidableEq, Repr

/-- A PTP message as the assist sees it (R124, R128): the fields that the accepted profile tests and the
timestamps it carries. -/
structure PtpMsg where
  lane : Fin 4
  dst : BitVec 48
  version : BitVec 4
  minor : BitVec 4
  majorSdo : BitVec 4
  domain : BitVec 8
  tags : Fin 4
  source : BitVec 80
  seq : BitVec 16
  twoStep : Bool
  correction : BitVec 64
  seconds : BitVec 48
  nanos : BitVec 32
  logInterval : BitVec 8
  requesting : BitVec 80
  grandmaster : BitVec 64
  deriving DecidableEq, Repr

/-- A HELLO frame (R575, R582). -/
structure Hello where
  pairId : Word
  cap : Word
  serial : BitVec 64
  roleSel : Bool
  sysState : Word
  epoch : Word
  deriving DecidableEq, Repr

/-- A HEART frame (R575, R578): launch pair tick, receive pair tick of the last HEART it answers,
committed slot of each bar, X0 and the announce reason. -/
structure Heart where
  launch : Tick
  epoch : Word
  sysState : Word
  received : Tick
  committed : List (BitVec 48)
  x0 : BitVec 64
  reason : BitVec 4
  deriving DecidableEq, Repr

/-- A resistance reading that the active device passes on (R588). -/
structure Reading where
  bar : Fin 8
  tile : Fin 22
  row : Fin 4
  col : BitVec 13
  value : BitVec 16
  temp : BitVec 16
  deriving DecidableEq, Repr

/-- The kinds of DELTA (R575, R584, R590). -/
inductive Delta where
  | mirror (addr : BitVec 24) (value : Word)
  | nozzle (bar : Fin 8) (index : BitVec 19) (bits mask : Word) (stamp : BitVec 48)
  | reading (r : Reading)
  | consumed (counts : List (Fin 32 × BitVec 64))
  | session (s : Fin 8) (isOpen : Bool) (lane : Fin 4) (mac : BitVec 48) (expected next : Word)
  deriving DecidableEq, Repr

/-- The content of a FETCH frame (R590): a request for a byte range of a basin, or its bytes. -/
inductive Fetch where
  | request (basin : Fin 32) (first : BitVec 64) (count : Nat)
  | data (basin : Fin 32) (first : BitVec 64) (bytes : List Byte)
  deriving DecidableEq, Repr

/-- An ALIGN frame (R589): X0, both encoder counts, the stretch in force and the pair tick. -/
structure Align where
  x0 : BitVec 64
  enc0 : BitVec 64
  enc1 : BitVec 64
  stretch : BitVec 32
  tick : Tick
  deriving DecidableEq, Repr

/-- A serial sensor word as sampled (R173 to R176): the tick of the first falling clock edge, the
acknowledge bit, the position, error and warning bits and the CRC bits as received. -/
structure SsnWord where
  first : Tick
  ack : Bool
  position : BitVec 40
  err : Bool
  warn : Bool
  crc : BitVec 16
  deriving DecidableEq, Repr

/-- What the error-correcting code finds in a DRAM read (R551): nothing, a correction of one or two bits, or an
uncorrectable error, with the burst, the word in it and the syndrome. -/
inductive ReadEcc where
  | clean
  | corrected (burst : Fin 4) (word : Fin 8) (two : Bool) (syndrome : BitVec 16)
  | uncorrectable (burst : Fin 4) (word : Fin 8) (syndrome : BitVec 16)
  deriving DecidableEq, Repr

/-- A DRAM transaction that a word completes as the Weir admits it (R526, R532): address, port, bursts less one, write,
whether a burst is covered in part, and the bar of a delay-line port. -/
structure DramReq where
  pa : BitVec 35
  port : Fin 11
  len : Fin 4
  write : Bool
  part : Bool
  bar : Fin 8
  deriving DecidableEq, Repr

/-- Where SRAM scrubbing finds an error (R20, R22): an entry of the nozzle table, or another allocation. -/
inductive SramSite where
  | nozzle (bar : Fin 8) (index : Fin 422400)
  | other
  deriving DecidableEq, Repr

/-- One pixel-clock cycle of a camera line: FV and DV at the pins and the data (R446, R447). -/
structure CamCycle where
  fv : Bool
  dv : Bool
  d : BitVec 24
  deriving DecidableEq, Repr


/-- The commands of the block: one constructor for each row of the table of operations and events.
Every command carries the timebase tick `t` at which it happens (log entry 1). -/
inductive Instr where
  /-- PWRGOOD_RISE (R25). PWRGOOD goes high and the device moves from OFF to RESET. -/
  | pwrgoodRise (t : Tick)
  /-- PWRGOOD_FALL (R25). PWRGOOD goes low and the device enters OFF from any state. -/
  | pwrgoodFall (t : Tick)
  /-- RESET_N_FALL (R25). RESET_N goes low and the device enters RESET from any state except OFF. -/
  | resetNFall (t : Tick)
  /-- RESET_N_RISE (R25). RESET_N rises with PWRGOOD high and the device enters LOAD. -/
  | resetNRise (t : Tick)
  /-- LOAD_STEP_COMPLETE (R660). A LOAD step completes: straps, TREF selection, PLL lock, OTP read, sensors or camera bank check; after the last step the device enters BUILD. -/
  | loadStepComplete (t : Tick) (r : LoadResult)
  /-- BUILD_STEP_COMPLETE (R662). A BUILD step completes: calibration and PLLs, SRAM test, DRAM training, fabric self-check or initialisation; after step 11 the device enters LINKUP. -/
  | buildStepComplete (t : Tick) (r : BuildResult)
  /-- ENTER_READY (R666). When the host lanes are up, the twin lanes are up where configured and the role is decided, the device enters READY. -/
  | enterReady (t : Tick)
  /-- REGISTER_WRITE (R33). A whole-word write to a register that has no row of its own, resolved under the access-type and privilege rules. -/
  | registerWrite (t : Tick) (m : Master) (addr : BitVec 24) (v : Word)
  /-- AUDIT_SPILL_COPY (R710). An unspilled ring entry is copied to its spill basin once space exists there. -/
  | auditSpillCopy (t : Tick) (ring : SpillRing)
  /-- BLOCK_RESET (R704). PG_CTL.RST returns the page and its block to their reset state, with the stated exceptions. -/
  | blockReset (t : Tick) (m : Master) (page : BitVec 12)
  /-- EVENT_CLEAR (R74). A PG_EVTCLR write clears the masked flags whose remembered sequence is not newer than SEQ. -/
  | eventClear (t : Tick) (m : Master) (page : BitVec 12) (v : Word)
  /-- APPLY_COMMIT (R81). PG_APPLY.COMMIT moves staging to the committed set, or merges it into a set already waiting. -/
  | applyCommit (t : Tick) (m : Master) (page : BitVec 12) (v : Word)
  /-- APPLY_DISCARD (R707). PG_APPLY.DISCARD returns staging to the values in force. -/
  | applyDiscard (t : Tick) (m : Master) (page : BitVec 12) (v : Word)
  /-- MAILBOX_SNAPSHOT (R68). A PG_MBXSEL write with DIR 0 captures the item and sets VALID. -/
  | mailboxSnapshot (t : Tick) (m : Master) (page : BitVec 12) (item : BitVec 12)
  /-- MAILBOX_WRITE (R71). A PG_MBXSEL write with DIR 1 writes the data words to the item at its apply class. -/
  | mailboxWrite (t : Tick) (m : Master) (page : BitVec 12) (item : BitVec 12)
  /-- SVC_READ (R55). A service-port read request (OP 0x03) is checked and answered with sync, STATUS, the words and a CRC. -/
  | svcRead (t : Tick) (req : List Byte)
  /-- SVC_WRITE (R55). A service-port write request (OP 0x02) is checked and its words are performed in order. -/
  | svcWrite (t : Tick) (req : List Byte)
  /-- SVC_UNKNOWN_OP (R709). A service-port request with an unknown OP is answered with STATUS 0x06 and nothing is performed. -/
  | svcUnknownOp (t : Tick) (req : List Byte)
  /-- SVC_ABORT (R57). SVC_CS_N rises before the last request CRC bit; nothing is performed and ABORT is counted. -/
  | svcAbort (t : Tick) (req : List Byte) (nbits : Nat)
  /-- HOST_FRAME_RECEIVE (R194). An Ethernet frame arrives on a host lane; its length and FCS are checked and it is classified, dropped at a full FIFO, or passed on. -/
  | hostFrameReceive (t : Tick) (lane : Fin 4) (frame : List Byte)
  /-- PAUSE_RECEIVE (R196). A received PAUSE stops transmission on the lane for the quanta requested. -/
  | pauseReceive (t : Tick) (lane : Fin 4) (quanta : BitVec 16)
  /-- PAUSE_END (R196). The pause quanta expire and transmission on the lane resumes. -/
  | pauseEnd (t : Tick) (lane : Fin 4)
  /-- HOST_LANE_UP (R193). A host lane comes up. -/
  | hostLaneUp (t : Tick) (lane : Fin 4)
  /-- HOST_LANE_DOWN (R60). A host lane goes down and its sessions close. -/
  | hostLaneDown (t : Tick) (lane : Fin 4)
  /-- HOST_LANE_RECONFIG (R197). A change of HLNK_CTL.MODE or FEC takes the lane down and up again. -/
  | hostLaneReconfig (t : Tick) (m : Master) (lane : Fin 4) (v : Word)
  /-- INGEST_DRAIN (R228). The ingest FIFO drains into DRAM within its budget, and D advances. -/
  | ingestDrain (t : Tick) (lane : Fin 4)
  /-- CREDIT_PERIODIC (R225). A CREDIT is sent at the end of each CREDINT interval. -/
  | creditPeriodic (t : Tick) (lane : Fin 4)
  /-- YRT_OPEN (R200). An OPEN creates a session, or repeats its CHALLENGE, or is refused. -/
  | yrtOpen (t : Tick) (lane : Fin 4)
  /-- YRT_PROVE (R62). A PROVE is checked against M_h and answered with GRANT, making the session privileged or counting a failure. -/
  | yrtProve (t : Tick) (lane : Fin 4)
  /-- PROVE_TIMEOUT (R58). 100 ms pass after a CHALLENGE without a PROVE; the privileged place is freed and a failure is counted. -/
  | proveTimeout (t : Tick) (sess : Fin 8)
  /-- AUTHFAIL_HOLD_EXPIRY (R63). The 10 s hold ends and privileged opens are accepted again. -/
  | authfailHoldExpiry (t : Tick)
  /-- YRT_CLOSE (R60). A CLOSE frame closes the session. -/
  | yrtClose (t : Tick) (lane : Fin 4)
  /-- YRT_DATA (R208). A DATA frame is accepted into its basin, advancing P, or refused with a NAK carrying its reason. -/
  | yrtData (t : Tick) (lane : Fin 4)
  /-- YRT_REGREQ (R59). A REGREQ performs a register access once per sequence number and is answered with REGRESP. -/
  | yrtRegreq (t : Tick) (lane : Fin 4)
  /-- YRT_READ (R219). A READ is answered with READDATA frames and may advance C. -/
  | yrtRead (t : Tick) (lane : Fin 4)
  /-- YRT_NAK_RECEIVE (R209). A NAK from the host makes the device retransmit from its SEQ onwards. -/
  | yrtNakReceive (t : Tick) (lane : Fin 4)
  /-- YRT_ACK_RECEIVE (R210). An ACK advances the host's ACKSEQ and releases kept frames. -/
  | yrtAckReceive (t : Tick) (lane : Fin 4)
  /-- YRT_INVALID_FRAME (R712). A frame of an unknown or device-only TYPE, or a malformed OPEN or PROVE, is discarded and counted. -/
  | yrtInvalidFrame (t : Tick) (lane : Fin 4)
  /-- GAP_NAK_REPEAT (R206). NAKTMO expires without the expected frame and the gap NAK is repeated. -/
  | gapNakRepeat (t : Tick) (sess : Fin 8)
  /-- YRT_RETRANSMIT_TIMEOUT (R210). RTO expires without ACKSEQ advancing; the oldest frame is retransmitted, or the session closes after RETRYMAX. -/
  | yrtRetransmitTimeout (t : Tick) (sess : Fin 8)
  /-- DELAYED_ACK (R211). ACKINT expires after an ACKSEQ advance that no frame has carried, and an ACK is sent. -/
  | delayedAck (t : Tick) (sess : Fin 8)
  /-- SESSION_IDLE_TIMEOUT (R60). A session with no frame for PRIV_SESSTMO ms is closed. -/
  | sessionIdleTimeout (t : Tick) (sess : Fin 8)
  /-- SESSION_CLOSE_CMD (R60). PRIV_SESSCLOSE.CLOSE closes the named session. -/
  | sessionCloseCmd (t : Tick) (m : Master) (sess : Fin 8)
  /-- OTP_CHANGE_GO (R89). PRIV_OTPCMD.GO starts a limited-change setting change, which is accepted, refused, or started as an OTP record. -/
  | otpChangeGo (t : Tick) (m : Master) (setting : BitVec 4)
  /-- OTP_RECORD_DONE (R92). An OTP record and its commit mark are written; the value applies and BUSY clears. -/
  | otpRecordDone (t : Tick)
  /-- PTP_SYNC_RECEIVE (R130). A Sync from the selected master is time-stamped and gives an offset sample, directly or after its Follow_Up. -/
  | ptpSyncReceive (t : Tick) (msg : PtpMsg)
  /-- PTP_FOLLOW_UP_RECEIVE (R128). A Follow_Up completes a two-step Sync and gives its sample. -/
  | ptpFollowUpReceive (t : Tick) (msg : PtpMsg)
  /-- PTP_DELAY_RESP_RECEIVE (R129). A Delay_Resp gives a delay sample, which is filtered or discarded as an outlier. -/
  | ptpDelayRespReceive (t : Tick) (msg : PtpMsg)
  /-- PTP_ANNOUNCE_RECEIVE (R122). An Announce selects a master port, or records a master change. -/
  | ptpAnnounceReceive (t : Tick) (msg : PtpMsg)
  /-- DELAY_REQ_SEND (R127). A Delay_Req is transmitted at the randomised mean interval. -/
  | delayReqSend (t : Tick) (launch : Tick)
  /-- FOLLOW_UP_TIMEOUT (R128). 100 ms pass without the Follow_Up; the Sync gives no sample and FUTMO is set. -/
  | followUpTimeout (t : Tick)
  /-- SYNC_TIMEOUT (R120). No valid Sync arrives for PTPA_TMO.SYNC; SYNCTMO is set and ARMED or TRACK moves to FREE. -/
  | syncTimeout (t : Tick)
  /-- ANNOUNCE_TIMEOUT (R126). No Announce arrives from the selected port for PTPA_TMO.ANN; the selection is dropped. -/
  | announceTimeout (t : Tick)
  /-- DELAY_RESP_TIMEOUT (R124). A Delay_Req has no Delay_Resp within 1 s and flag NORESP is set. -/
  | delayRespTimeout (t : Tick)
  /-- PPS_IN_EDGE (R138). A PPS_IN edge is captured and gives the servo a sub-second offset sample. -/
  | ppsInEdge (t : Tick) (rising : Bool)
  /-- PPS_MISS_TIMEOUT (R121). 1.5 s pass without a PPS_IN edge; PPSMISS is set and ARMED or TRACK moves to FREE. -/
  | ppsMissTimeout (t : Tick)
  /-- TIME_ARM (R109). TIME_CTL.ARM moves the time unit to ARMED, or is refused during a job. -/
  | timeArm (t : Tick) (m : Master) (v : Word)
  /-- TIME_FREE (R110). TIME_CTL.FREE moves the time unit to FREE and keeps the rate in force. -/
  | timeFree (t : Tick) (m : Master) (v : Word)
  /-- TIME_MODE_CHANGE (R110). A write that changes TIME_CTL.MODE moves the time unit to FREE. -/
  | timeModeChange (t : Tick) (m : Master) (v : Word)
  /-- HOST_TIME_STEP (R113). A write of TIME item 3 in MODE 0 and ARMED steps network time and enters SLEW, or is refused. -/
  | hostTimeStep (t : Tick) (m : Master) (step : BitVec 128)
  /-- HOST_RATE_WRITE (R115). A write of TIME item 2 sets the rate, clamped to RATEMAX, or is refused in MODE 1. -/
  | hostRateWrite (t : Tick) (m : Master) (rate : BitVec 48)
  /-- TICK_CONVERT (R108). A write of a tick to TIME item 7 selects it for conversion to network time. -/
  | tickConvert (t : Tick) (m : Master) (tick : Tick)
  /-- TREF_LOSS (R101). TREF stops or leaves ±200 ppm; the PLL holds over and TREFLOSS is set. -/
  | trefLoss (t : Tick)
  /-- PPS_OUT_PULSE_START (R136). Network time reaches a whole second and PPS_OUT rises. -/
  | ppsOutPulseStart (t : Tick)
  /-- PPS_OUT_PULSE_END (R136). The PPS_OUT pulse width expires and PPS_OUT falls. -/
  | ppsOutPulseEnd (t : Tick)
  /-- CAPTURE_CELL_EDGE (R135). A general capture cell records an edge, and sets OVR when the previous capture is unread. -/
  | captureCellEdge (t : Tick) (source : BitVec 6) (rising : Bool)
  /-- FRAME_LAUNCH (R131). A launch cell starts a queued frame at the first block boundary at or after its launch tick, and counts it if it is late. -/
  | frameLaunch (t : Tick) (lane : Fin 48)
  /-- POS_EDGE_CAPTURE (R144). An edge on an encoder or Hall input is captured and held pending, or cancels a pending opposite edge. -/
  | posEdgeCapture (t : Tick) (input : Fin 9) (level : Bool)
  /-- EDGE_HOLD_EXPIRY (R145). A pending edge completes its MINSP hold and is accepted at its captured tick. -/
  | edgeHoldExpiry (t : Tick) (input : Fin 9)
  /-- STANDSTILL_TIMEOUT (R164). STANDTMO passes since the last counting edge and the speed decays. -/
  | standstillTimeout (t : Tick)
  /-- STANDSTILL_DECLARE (R165). The speed bound falls below STANDV and standstill is declared. -/
  | standstillDeclare (t : Tick)
  /-- STRETCH_WINDOW (R182). A stretch window of WIN mm completes and its sample updates the stretch target. -/
  | stretchWindow (t : Tick)
  /-- SSN_REQUEST (R173). A serial sensor request is issued at the start of each PERIOD window. -/
  | ssnRequest (t : Tick) (sensor : Fin 2)
  /-- SSN_WORD_RECEIVE (R176). A serial sensor word completes and is judged as used, recorded with an error, or discarded. -/
  | ssnWordReceive (t : Tick) (sensor : Fin 2) (w : SsnWord)
  /-- SSN_WORD_TIMEOUT (R176). TMO passes without a start bit or data high again; the word is discarded. -/
  | ssnWordTimeout (t : Tick) (sensor : Fin 2)
  /-- CLEAR_ENCODER_FAULT (R152). POS_CTL.CLRFLTn clears the encoder fault and restarts its counts. -/
  | clearEncoderFault (t : Tick) (m : Master) (enc : Fin 2)
  /-- CLEAR_HALL_FAULT (R169). POS_CTL.CLRHALL clears the Hall fault. -/
  | clearHallFault (t : Tick) (m : Master)
  /-- CLEAR_SSN_FAULT (R177). POS_CTL.CLRSSNn clears the serial sensor fault. -/
  | clearSsnFault (t : Tick) (m : Master) (sensor : Fin 2)
  /-- POS_ENABLE_WRITE (R711). A write of the POS PG_CTL.EN starts or stops counting, or is refused during a job. -/
  | posEnableWrite (t : Tick) (m : Master) (en : Bool)
  /-- POS_X0_WRITE (R180). A DIR 1 write of POS item 0 moves the X0 offset, or is refused during a job. -/
  | posX0Write (t : Tick) (m : Master) (x0 : BitVec 64)
  /-- COMMAND_RECORD_WAIT (R715). Command records waiting in their basins are taken once the device enters READY, PRINTING or HALTED. -/
  | commandRecordWait (t : Tick)
  /-- JOB_RECORD (R232). A JOB record is accepted as running or queued, waits for a free place, or is refused with a reason. -/
  | jobRecord (t : Tick)
  /-- HALT_RECORD (R236). A HALT record halts the running job it names. -/
  | haltRecord (t : Tick)
  /-- RESUME_RECORD (R236). A RESUME record resumes the halted job it names. -/
  | resumeRecord (t : Tick)
  /-- ABORT_RECORD (R236). An ABORT record aborts the running job or removes the queued job. -/
  | abortRecord (t : Tick)
  /-- END_RECORD (R236). An END record sets the end of an unbounded live job or of a product-trigger job. -/
  | endRecord (t : Tick)
  /-- HOST_HALT (R236). BASN_CMD.HALT halts the running job and the device enters HALTED. -/
  | hostHalt (t : Tick) (m : Master) (v : Word)
  /-- HOST_RESUME (R236). BASN_CMD.RESUME returns a halted job to PRINTING. -/
  | hostResume (t : Tick) (m : Master) (v : Word)
  /-- HOST_ABORT (R236). BASN_CMD.ABORT aborts the running job. -/
  | hostAbort (t : Tick) (m : Master) (v : Word)
  /-- JOB_START (R235). A job takes the running place at a JOB boundary, unless web-ready holds it. -/
  | jobStart (t : Tick)
  /-- JOB_END (R235). The running job ends when its last line is fired or skipped, or at ABORT. -/
  | jobEnd (t : Tick)
  /-- BASIN_ENABLE (R215). A BASN_RCFG write sets EN and enables the basin with P and C at 0, or is refused. -/
  | basinEnable (t : Tick) (m : Master) (b : Fin 32) (v : Word)
  /-- BASIN_DISABLE (R215). A BASN_RCFG write clears EN, unless a job names the basin. -/
  | basinDisable (t : Tick) (m : Master) (b : Fin 32) (v : Word)
  /-- BASIN_CONSUME (R217). A DIR 1 write of BASN item 4b + 1 advances C of a device-produced basin, or is refused. -/
  | basinConsume (t : Tick) (m : Master) (b : Fin 32) (value : BitVec 128)
  /-- BAND_LAND (R249). A band lands in its basin and is checked; a band that fails is marked bad or replaces a bad one. -/
  | bandLand (t : Tick) (queued : Bool)
  /-- DECODE_LINE (R252). A decompressor channel decodes and delivers a line once pacing and landing allow. -/
  | decodeLine (t : Tick) (ch : Fin 40)
  /-- LINE_DUE (R253). A line becomes due; if it was not delivered it is late data and the stop sequence starts. -/
  | lineDue (t : Tick) (ch : Fin 40)
  /-- CMP_START (R271). Compressor START checks its arguments and enters RUN, or ERROR. -/
  | cmpStart (t : Tick) (m : Master) (ch : Fin 8) (v : Word)
  /-- CMP_RESUME (R265). Compressor RESUME continues a STOPPED stream into the new destination. -/
  | cmpResume (t : Tick) (m : Master) (ch : Fin 8) (v : Word)
  /-- CMP_ABORT (R270). Compressor ABORT discards the unwritten block and enters IDLE. -/
  | cmpAbort (t : Tick) (m : Master) (ch : Fin 8) (v : Word)
  /-- CMP_SAVE (R272). Compressor SAVE starts writing the window and state record to the save area. -/
  | cmpSave (t : Tick) (m : Master) (ch : Fin 8) (v : Word)
  /-- CMP_RESTORE (R272). Compressor RESTORE starts checking a save area and rebuilding the history. -/
  | cmpRestore (t : Tick) (m : Master) (ch : Fin 8) (v : Word)
  /-- CMP_SAVE_DONE (R272). SAVE completes and the channel returns to its previous state. -/
  | cmpSaveDone (t : Tick) (ch : Fin 8)
  /-- CMP_RESTORE_DONE (R272). RESTORE completes into STOPPED or DONE, or fails its CRC. -/
  | cmpRestoreDone (t : Tick) (ch : Fin 8)
  /-- CMP_BLOCK_DONE (R264). A compressor block is formed and written, or does not fit and the channel enters STOPPED. -/
  | cmpBlockDone (t : Tick) (ch : Fin 8)
  /-- MAP_BAR_LINE (R294). The raster path maps one bar line into planes and side entries, reading the nozzle table as it stands. -/
  | mapBarLine (t : Tick) (bar : Fin 8)
  /-- NOZZLE_TABLE_WRITE (R302). A RAST_NTDATA write replaces bits [15:0] of the addressed entry and mirrors it to the twin. -/
  | nozzleTableWrite (t : Tick) (m : Master) (bar : Fin 8) (v : Word)
  /-- THRESHOLD_TABLE_WRITE (R280). A RAST_THRDATA write sets four threshold entries, or is refused during a job. -/
  | thresholdTableWrite (t : Tick) (m : Master) (v : Word)
  /-- FIRE_FRAME_SEND (R309). The FIRE frames of a slot are sent once the bar's lead allows it and the slot's nozzle lines are complete. -/
  | fireFrameSend (t : Tick) (bar : Fin 8)
  /-- PACE_FRAME_LAUNCH (R313). A PACE frame with map, ADV, FIRELIM and NOMAP is built and launched on every lane on the grid. -/
  | paceFrameLaunch (t : Tick)
  /-- TILE_STATUS (R387). A STAT STATUS from a tile is consumed: temperature, supply, events, skips and missing slots. -/
  | tileStatus (t : Tick) (lane : Fin 40) (frame : List Byte)
  /-- TEMP_STALE (R336). No temperature report arrives for STALE ms; TEMPSTALE is set and SPEED_LIMIT asserted. -/
  | tempStale (t : Tick) (bar : Fin 8) (tile : Fin 22)
  /-- INSPECTION_MARK_START (R344). X0 reaches a pending defect's inspection point and the mark output is asserted. -/
  | inspectionMarkStart (t : Tick)
  /-- INSPECTION_MARK_END (R344). The inspection mark width expires and the output is deasserted. -/
  | inspectionMarkEnd (t : Tick)
  /-- TILE_CAP (R387). A CAP from a tile is recorded, and a new serial number is handled. -/
  | tileCap (t : Tick) (lane : Fin 40) (frame : List Byte)
  /-- TILE_LINK_REPORT (R387). A STAT LINK report of PRBS errors, CRC errors, lock losses and FOM is recorded. -/
  | tileLinkReport (t : Tick) (lane : Fin 40) (frame : List Byte)
  /-- TIME_ECHO (R380). An ECHO gives a wire-delay sample, which is averaged and sent in DELAY. -/
  | timeEcho (t : Tick) (lane : Fin 40) (frame : List Byte)
  /-- OTHER_DEVICE_FRAME (R397). A frame from the chain for the devices is consumed, or discarded when it comes from the other device. -/
  | otherDeviceFrame (t : Tick) (lane : Fin 40) (frame : List Byte)
  /-- LANE_BRINGUP (R353). TLNK_CTL.BRINGUP restarts the lane at rate code 0, or is refused during a job. -/
  | laneBringup (t : Tick) (m : Master) (lane : Fin 40) (v : Word)
  /-- LANE_LOCK (R350). A device receiver gets lock; the lane sends ENUM and CAPREQ and proceeds. -/
  | laneLock (t : Tick) (lane : Fin 40) (valid : Bool)
  /-- LANE_LOCK_LOSS (R350). A device receiver loses lock and hunts again. -/
  | laneLockLoss (t : Tick) (lane : Fin 40)
  /-- RATE_SWITCH_TIMEOUT (R356). A lane not locked 5 ms after a rate switch returns to the previous rate. -/
  | rateSwitchTimeout (t : Tick) (lane : Fin 40)
  /-- TRAIN_DWELL_END (R357). The PRBS dwell ends; the rate step is judged and the lead end steps up, down or settles. -/
  | trainDwellEnd (t : Tick) (lane : Fin 40)
  /-- LANE_UP (R359). The lane reaches UP once the rate is settled, the tiles have answered and are provisioned and in time. -/
  | laneUp (t : Tick) (lane : Fin 40)
  /-- TIME_SYNC_SEND (R383). A TIME SYNC is sent every SYNCINT µs. -/
  | timeSyncSend (t : Tick) (lane : Fin 40)
  /-- TIME_PROBE_SEND (R380). A TIME PROBE is sent to the next tile every PROBEINT ms. -/
  | timeProbeSend (t : Tick) (lane : Fin 40)
  /-- EPOCH_SEND (R389). An active or solo device sends EPOCH at least every 1 ms. -/
  | epochSend (t : Tick)
  /-- IDLE_SEND (R392). An IDLE frame is sent on a lane with no other frame for 10 µs. -/
  | idleSend (t : Tick) (lane : Fin 40)
  /-- IDLE_PRBS_SEND (R362). A PRBS frame is sent in an idle gap of at least 10 µs. -/
  | idlePrbsSend (t : Tick) (lane : Fin 42)
  /-- CHAIN_BREAK (R398). A break is declared on unlocked port reports or a 3 ms STATUS silence; the lane enters DEGRADED. -/
  | chainBreak (t : Tick) (lane : Fin 40) (hop : Fin 8) (farUp : Bool)
  /-- MEAS_ISSUE (R402). The next resistance MEAS command is issued to a tile after INT µs. -/
  | measIssue (t : Tick) (bar : Fin 8) (tile : Fin 22)
  /-- MEAS_RESULT (R405). A MEAS result is processed into class, drift and status, or retried. -/
  | measResult (t : Tick) (lane : Fin 40) (frame : List Byte)
  /-- MEAS_TIMEOUT (R405). No result arrives within TMO ms; the loss is counted and the command retried. -/
  | measTimeout (t : Tick) (bar : Fin 8) (tile : Fin 22)
  /-- HLTH_REBASE (R416). HLTH_CMD.REBASE sets the baselines to n_f. -/
  | hlthRebase (t : Tick) (m : Master) (bar : Fin 8) (v : Word)
  /-- HLTH_CLRSUM (R418). HLTH_CMD.CLRSUM clears the temperature and supply extremes. -/
  | hlthClrsum (t : Tick) (m : Master) (bar : Fin 8) (v : Word)
  /-- WARMUP_CHECK (R423). ℓ_b first reaches W and the tiles' temperatures are checked against TREADY. -/
  | warmupCheck (t : Tick) (bar : Fin 8)
  /-- SB_BACKED (R433). Every waiting bar passes the back-up distance; REV_PERMIT is released and the sequence enters WAITING. -/
  | sbBacked (t : Tick)
  /-- SB_RETURNING (R435). With standstill, data, no hard stop and PRINTING, STOP_REQ is released and the sequence enters RETURNING. -/
  | sbReturning (t : Tick)
  /-- SB_RETRY (R438). A bar passes σ_b − ARMGAP without re-arming; the sequence returns to STOPPING or enters FAILED. -/
  | sbRetry (t : Tick) (bar : Fin 8)
  /-- SB_REARM_CMD (R439). FIRE_SBCMD.REARM leaves FAILED and re-enters STOPPING. -/
  | sbRearmCmd (t : Tick) (m : Master) (v : Word)
  /-- CAM_LINE_COMPLETE (R448). A camera line ends at LV; it is stored with its trigger, discarded for its length, or dropped for space. -/
  | camLineComplete (t : Tick) (port : Fin 2) (cycles : List CamCycle)
  /-- CAM_FRAME_START (R450). A camera frame starts; its number advances and FRAME-class settings and table swaps apply. -/
  | camFrameStart (t : Tick) (port : Fin 2)
  /-- CAM_PCLK_LOSS (R451). No PCLK edge for 10 µs ends the frame and clears PCLKOK. -/
  | camPclkLoss (t : Tick) (port : Fin 2)
  /-- CAM_TRIGGER (R453). A position or time trigger falls due and is issued or skipped. -/
  | camTrigger (t : Tick) (port : Fin 2)
  /-- CAM_SOFTWARE_TRIGGER (R454). CAM_SWTRIG.GO issues one trigger in TMODE 3. -/
  | camSoftwareTrigger (t : Tick) (m : Master) (port : Fin 2) (v : Word)
  /-- CAM_TRIGGER_PULSE_END (R455). The trigger pulse width EXP × 10 ns expires. -/
  | camTriggerPulseEnd (t : Tick) (port : Fin 2)
  /-- PIPELINE_LINE (R461). The image pipeline takes the next stored line, processes it and taps it. -/
  | pipelineLine (t : Tick)
  /-- CAM_TABLE_SWAP (R465). CAM_TBLSWAP.SWAPA or SWAPB requests the inactive tables to become active at the next frame start. -/
  | camTableSwap (t : Tick) (m : Master) (v : Word)
  /-- LOOP_CYCLE (R490). A correction cycle of a bar integrates the error into trims once its strip records are delivered. -/
  | loopCycle (t : Tick) (bar : Fin 8)
  /-- LOOP_RELEARN (R489). LOOP_CMD.RELEARN restarts learning. -/
  | loopRelearn (t : Tick) (m : Master) (v : Word)
  /-- LOOP_RESETINT (R493). LOOP_CMD.RESETINT sets every acc to 0. -/
  | loopResetint (t : Tick) (m : Master) (v : Word)
  /-- LOOP_REBASE (R493). LOOP_CMD.REBASE sets each nozzle's base to its current TRIM. -/
  | loopRebase (t : Tick) (m : Master) (v : Word)
  /-- WEIR_PERIOD_START (R509). A budget period starts: budgets are checked and applied, banks and levels refilled, spare computed. -/
  | weirPeriodStart (t : Tick) (speed : BitVec 16)
  /-- WEIR_ADMIT (R510). A waiting word is admitted on a level, bank and spare token, or keeps waiting. -/
  | weirAdmit (t : Tick) (act : Fin 24) (txn : Option DramReq)
  /-- WEIR_FLOOR_OVERRIDE (R516). A privileged write of WEIR_FLOOROVR replaces F1 from the next period start. -/
  | weirFloorOverride (t : Tick) (m : Master) (v : Word)
  /-- DRAM_COMMAND_SLOT (R537). A subchannel issues the highest-ranked ready work at a command slot. -/
  | dramCommandSlot (t : Tick) (sc : Fin 8) (wr : List Nat) (rd : List Nat)
  /-- DRAM_READ_DATA (R551). Read data is checked by ECC, corrected and recorded, or the controller freezes. -/
  | dramReadData (t : Tick) (sc : Fin 8) (ecc : ReadEcc)
  /-- CA_PARITY_ERROR (R554). A command/address parity error from the PHY or a die freezes the controller. -/
  | caParityError (t : Tick) (sc : Fin 8) (code : Word)
  /-- REFRESH_INTERVAL_END (R540). A refresh interval ends and the subchannel's debt rises, forcing a refresh at DEBTMAX. -/
  | refreshIntervalEnd (t : Tick) (sc : Fin 8)
  /-- RETRAIN_STEP_DONE (R547). A retraining step ends; it passes and moves the setting, or fails and may degrade the subchannel. -/
  | retrainStepDone (t : Tick) (sc : Fin 8) (ok : Bool) (rd : BitVec 8) (wr : BitVec 8) (vref : BitVec 8) (centre : BitVec 8)
  /-- SCRUB_READ (R552). A scrub interval elapses and one 256-byte block is read, and written back if corrected. -/
  | scrubRead (t : Tick) (sc : Fin 8)
  /-- PAGE_IDLE_PRECHARGE (R533). A bank idle for IDLE ns is precharged. -/
  | pageIdlePrecharge (t : Tick) (sc : Fin 8) (bank : Fin 16)
  /-- FREEZE_RELEASE (R557). DRAM_FRZCTL.RELEASE retrains every subchannel and discards queues and job basins. -/
  | freezeRelease (t : Tick) (m : Master) (v : Word)
  /-- FREEZE_RELEASE_DONE (R557). Release training completes; the device enters READY, or stays FROZEN on failure. -/
  | freezeReleaseDone (t : Tick) (fail : Option (Fin 8)) (margins : List (BitVec 32))
  /-- SRAM_SCRUB (R21). SRAM scrubbing finds an error; an uncorrectable one masks the nozzle entry or is fatal. -/
  | sramScrub (t : Tick) (site : SramSite) (uncorrectable : Bool)
  /-- CHK_TAP_BYTE (R559). A tap byte updates a running CRC value, completes a unit and compares it with the expected value. -/
  | chkTapByte (t : Tick) (src : BitVec 8) (inst : BitVec 8) (byte : Byte) (first : Bool) (last : Bool) (expected : Option (BitVec 32))
  /-- CHK_PRESET (R562). CHK_CFGn.PRESET loads a CRC model. -/
  | chkPreset (t : Tick) (m : Master) (n : Fin 20) (v : Word)
  /-- CHK_ENABLE (R571). A change of CHK_CFGn.EN to 1 starts the channel, keeping or loading its running values. -/
  | chkEnable (t : Tick) (m : Master) (n : Fin 20) (v : Word)
  /-- CHK_VALUE_WRITE (R573). A DIR 1 write of a running value replaces it. -/
  | chkValueWrite (t : Tick) (m : Master) (item : BitVec 12) (value : BitVec 128)
  /-- TWIN_HELLO (R582). A HELLO is received; the pair forms and roles are decided, or PAIRFAULT is set. -/
  | twinHello (t : Tick) (lane : Fin 2) (crcOk : Bool) (h : Hello)
  /-- TWIN_HEART (R578). A HEART updates the pair offset, epoch and committed slots, or declares failure on an announcement. -/
  | twinHeart (t : Tick) (lane : Fin 2) (crcOk : Bool) (h : Heart)
  /-- TWIN_SUM (R592). A SUM frame's slot summaries are compared with the standby's own. -/
  | twinSum (t : Tick) (crcOk : Bool) (bar : Fin 8) (first : BitVec 48) (sums : List Word)
  /-- TWIN_DELTA (R584). A DELTA is applied: a mirror write, a nozzle write, a reading, basin counts or session state. -/
  | twinDelta (t : Tick) (crcOk : Bool) (seq : Word) (d : Delta)
  /-- TWIN_FETCH (R590). A FETCH request is answered from the basin, or its data is taken by the standby. -/
  | twinFetch (t : Tick) (crcOk : Bool) (f : Fetch)
  /-- TWIN_RELAY (R612). A RELAY frame is sent into the far end of a chain, or a relayed STAT is consumed. -/
  | twinRelay (t : Tick) (crcOk : Bool) (lane : Fin 40) (frame : List Byte)
  /-- TWIN_ALIGN (R589). An ALIGN sets the standby's X0 offset and stretch. -/
  | twinAlign (t : Tick) (crcOk : Bool) (a : Align)
  /-- TWIN_ALIGN_CMD (R589). TWIN_CMD.ALIGN makes the active device send ALIGN. -/
  | twinAlignCmd (t : Tick) (m : Master)
  /-- DELTA_GAP_TIMEOUT (R576). A DELTA gap not filled within 1 ms is counted and the standby leaves step. -/
  | deltaGapTimeout (t : Tick)
  /-- HEARTBEAT_ISSUE (R596). A heartbeat is issued on both paths every PERIOD µs when the device is live. -/
  | heartbeatIssue (t : Tick)
  /-- HEARTBEAT_PATH_SILENT (R597). A heartbeat path reaches its deadline; an alarm is raised, or failure is declared when both are silent. -/
  | heartbeatPathSilent (t : Tick) (pin : Bool)
  /-- TAKEOVER (R606). With SLUICE_IN low, the standby becomes active, takes a new epoch and sends EPOCH, FIRE and PACE. -/
  | takeover (t : Tick)
  /-- SLUICE_WAIT_TIMEOUT (R607). SLUICE_IN stays high SLUICEWAIT µs after the declaration and SLUICEHELD is set. -/
  | sluiceWaitTimeout (t : Tick)
  /-- SLUICE_IN_FENCE (R605). SLUICE_IN high for 2 µs or 40 µs fences an active device. -/
  | sluiceInFence (t : Tick) (level : Bool)
  /-- SLUICE_MONOSTABLE_EXPIRY (R602). The 20 µs monostable expires; SLUICE_OUT falls and an active device fences itself. -/
  | sluiceMonostableExpiry (t : Tick)
  /-- HOST_RELEASE (R25). The host release command returns a FENCED device to READY as standby or solo. -/
  | hostRelease (t : Tick) (m : Master)
  /-- TWIN_HANDOVER (R611). TWIN_CMD.HANDOVER announces reason 6, stops FIRE transmission and fences the device. -/
  | twinHandover (t : Tick) (m : Master) (peerInStep : Bool)
  /-- TWIN_HEALTH_PERIOD (R595). Each health period the TWIN_HEALTH registers are updated and HEALTH is set. -/
  | twinHealthPeriod (t : Tick)
  /-- TWIN_LANE_LOCK (R575). A twin lane gains or loses lock. -/
  | twinLaneLock (t : Tick) (lane : Fin 2) (locked : Bool)
  /-- THERMAL_SAMPLE (R621). A sensor sample is converted and checked against limits and rate, raising the level and its actions. -/
  | thermalSample (t : Tick) (sensor : Fin 40) (count : Option (BitVec 16)) (peerInStep : Bool)
  /-- THERMAL_LIMIT_WRITE (R623). A write of THRM_DIELIM or THRM_DRAMLIM is checked for order and maximum. -/
  | thermalLimitWrite (t : Tick) (m : Master) (dram : Bool) (v : Word)
  /-- AVS_INTERVAL (R671). At each INT interval the VCORE loop raises, lowers or keeps the target and reads back VOUT and IOUT. -/
  | avsInterval (t : Tick) (mvOut : BitVec 10) (iOut : BitVec 16) (failures : Fin 5) (pecFails : Fin 5)
  /-- PMB_ALERT (R674). PMB_ALERT_N falls; STATUS_WORD is read and CLEAR_FAULTS sent. -/
  | pmbAlert (t : Tick) (statusWord : BitVec 16) (failures : Fin 5) (pecFails : Fin 5)
  /-- AVS_OVERRIDE_WRITE (R675). A write of SYS_AVSOVR fixes VCORE and stops the loop, or releases the fixed value. -/
  | avsOverrideWrite (t : Tick) (m : Master) (v : Word) (failures : Fin 5) (pecFails : Fin 5)
  /-- AVS_ENABLE (R673). Writing SYS_AVSCFG.EN from 0 to 1 restarts the loop. -/
  | avsEnable (t : Tick) (m : Master) (v : Word)
  /-- PIO_INPUT_TRANSITION (R678). A press input transition is captured and held, or cancels a held transition as a glitch. -/
  | pioInputTransition (t : Tick) (input : Fin 16) (level : Bool)
  /-- PIO_EDGE_ACCEPT (R678). The FILT hold ends and the edge is accepted and passed to the input functions. -/
  | pioEdgeAccept (t : Tick) (input : Fin 16)
  /-- HB_IN_PULSE (R597). A heartbeat pulse arrives on HB_IN_P/N and restarts the pin path's deadline, ending its silence. -/
  | hbInPulse (t : Tick)
  /-- TREF_RETURN (R101). TREF comes back within range after a loss; TIME_STAT.TREFLOSS clears and the timebase PLL follows TREF again. -/
  | trefReturn (t : Tick)
  /-- CAM_PCLK_RETURN (R451). CAMx_PCLK edges resume after a loss; PCLKOK is set again and the next frame takes the next number. -/
  | camPclkReturn (t : Tick) (port : Fin 2)
  /-- CAM_FRAME_END (R449). FV becomes inactive in FRMODE 0; the frame ends, the port goes IDLE, and the next trigger becomes the first trigger of a frame. -/
  | camFrameEnd (t : Tick) (port : Fin 2)
  /-- LANE_HUNT_TIMEOUT (R353). A tile lane gets no lock at rate code 0 within 100 ms, or no tile answers, and LSTATE enters FAIL. -/
  | laneHuntTimeout (t : Tick) (lane : Fin 40)
  /-- PRBS_FRAME_RECEIVE (R361). A TEST PRBS frame arrives at a device receiver; its bit errors and CRC are counted for TLNK_PRBSERR and for adaptation. -/
  | prbsFrameReceive (t : Tick) (lane : Fin 42) (frame : List Byte)
  /-- ADAPTATION_STEP (R364). A receiver equalisation adaptation step is kept or undone by PRBS errors or FOM, and FOMLOW is set when the FOM falls below FOMMIN. -/
  | adaptationStep (t : Tick) (lane : Fin 40) (fom : BitVec 8)
  /-- HELLO_SEND (R575). A HELLO is sent on each twin lane every 1 ms until the pair forms. -/
  | helloSend (t : Tick)
  /-- VIO33_RISE (R636). VIO33 rises and every press-output keeper takes the low level. -/
  | vio33Rise (t : Tick)
  deriving DecidableEq, Repr

end Sys2Proof
end

