-- ==== Sys2Proof/Decode.lean ====
section
/-!
DEFINITION. Decoding of table words. The table of operations and events gives none of its rows bits, so no word spells
a command.
-/
namespace Sys2Proof

/-- The command that a word of the table spells: none, since no row has an encoding. -/
def decodeTableWord (_nbits _w : Nat) : Option Instr := none

end Sys2Proof
end

