-- ==== Sys2Proof/Machine/Bits.lean ====
section
/-!
DEFINITION. Bit fields, byte orders and saturating counts used by every block. Multi-byte fields of
records are little-endian (R77, R95); Ethernet and PTP fields are big-endian.
-/
namespace Sys2Proof.Machine

/-- Bits `[lo + w - 1 : lo]` of a number. -/
def bitsOf (n lo w : Nat) : Nat := n / 2 ^ lo % 2 ^ w

/-- One bit of a number. -/
def bitOf (n i : Nat) : Bool := n / 2 ^ i % 2 == 1

/-- `n` with bits `[lo + w - 1 : lo]` replaced by the low `w` bits of `v`. -/
def setBits (n lo w v : Nat) : Nat :=
  n % 2 ^ lo + (v % 2 ^ w) * 2 ^ lo + n / 2 ^ (lo + w) * 2 ^ (lo + w)

/-- 1 for true, 0 for false. -/
def b2n (b : Bool) : Nat := if b then 1 else 0

/-- The two's complement reading of the low `w` bits. -/
def sgn (w n : Nat) : Int :=
  if n % 2 ^ w < 2 ^ (w - 1) then (n % 2 ^ w : Nat) else (n % 2 ^ w : Nat) - (2 ^ w : Nat)

/-- The low `w` bits of a signed number, as an unsigned one. -/
def uns (w : Nat) (i : Int) : Nat := (i % (2 ^ w : Nat)).toNat

/-- Clamps a signed number to a range. -/
def clampI (lo hi i : Int) : Int := if i < lo then lo else if hi < i then hi else i

/-- Clamps a number to a range. -/
def clampN (lo hi n : Nat) : Nat := if n < lo then lo else if hi < n then hi else n

/-- A counter of `w` bits that saturates. -/
def satInc (w n : Nat) : Nat := if n + 1 < 2 ^ w then n + 1 else 2 ^ w - 1

/-- A saturating counter raised by `k`. -/
def satAdd (w n k : Nat) : Nat := if n + k < 2 ^ w then n + k else 2 ^ w - 1

/-- Division rounded to the nearest, halves away from zero. -/
def divRound (a : Int) (b : Nat) : Int :=
  if b = 0 then 0
  else if 0 ≤ a then ((2 * a.toNat + b) / (2 * b) : Nat) else -((2 * (-a).toNat + b) / (2 * b) : Nat)

/-- The `k` bytes of a number, least significant first. -/
def leBytes : Nat → Nat → List Byte
  | _, 0 => []
  | n, k + 1 => BitVec.ofNat 8 n :: leBytes (n / 256) k

/-- The number that bytes spell, least significant first. -/
def leNat : List Byte → Nat
  | [] => 0
  | b :: bs => b.toNat + 256 * leNat bs

/-- The `k` bytes of a number, most significant first. -/
def beBytes (n k : Nat) : List Byte := (leBytes n k).reverse

/-- The number that bytes spell, most significant first. -/
def beNat (bs : List Byte) : Nat := leNat bs.reverse

/-- `n` bytes from offset `o`. -/
def sub (bs : List Byte) (o n : Nat) : List Byte := (bs.drop o).take n

/-- Byte `o` of a list, 0 beyond its end. -/
def byteAt (bs : List Byte) (o : Nat) : Nat := ((bs.drop o).headD 0#8).toNat

/-- A little-endian field of `n` bytes at offset `o`. -/
def leAt (bs : List Byte) (o n : Nat) : Nat := leNat (sub bs o n)

/-- A big-endian field of `n` bytes at offset `o`. -/
def beAt (bs : List Byte) (o n : Nat) : Nat := beNat (sub bs o n)

/-- `n` zero bytes. -/
def zeros (n : Nat) : List Byte := List.replicate n 0#8

/-- The bytes padded with zeros to a length. -/
def padTo (bs : List Byte) (n : Nat) : List Byte := bs ++ zeros (n - bs.length)

/-- Element `i` of a list, with a default. -/
def nth {α : Type} (d : α) (l : List α) (i : Nat) : α := (l.drop i).headD d

/-- A list with element `i` replaced. -/
def setNth {α : Type} : List α → Nat → α → List α
  | [], _, _ => []
  | _ :: t, 0, v => v :: t
  | a :: t, i + 1, v => a :: setNth t i v

/-- The sum of a list. -/
def sumN : List Nat → Nat
  | [] => 0
  | a :: t => a + sumN t

/-- The sum of a list of signed numbers. -/
def sumI : List Int → Int
  | [] => 0
  | a :: t => a + sumI t

/-- Number of ones among the low bits of a number. -/
def popCount (n : Nat) : Nat → Nat
  | 0 => 0
  | k + 1 => n % 2 + popCount (n / 2) k

end Sys2Proof.Machine
end

