-- ==== Sys2Proof/Machine/Crc.lean ====
section
/-!
DEFINITION. Check values: CRC-32C of YRT frames, records and bands (R198), CRC-32 of the Ethernet FCS,
CRC-16 of the service port (R50), and the general model of the check-value units (R559).
-/
namespace Sys2Proof.Machine

/-- The low `w` bits in reverse order. -/
def reflect (n : Nat) : Nat → Nat
  | 0 => 0
  | w + 1 => n % 2 * 2 ^ w + reflect (n / 2) w

/-- One bit of a reflected CRC register with reflected polynomial `p`. -/
def crcStepR (p r : Nat) : Nat := if r % 2 = 1 then Nat.xor (r / 2) p else r / 2

/-- `k` bits of a reflected CRC register. -/
def crcStepsR (p : Nat) : Nat → Nat → Nat
  | 0, r => r
  | k + 1, r => crcStepsR p k (crcStepR p r)

/-- A reflected CRC register run over bytes. -/
def crcRunR (p : Nat) : Nat → List Byte → Nat
  | r, [] => r
  | r, b :: bs => crcRunR p (crcStepsR p 8 (Nat.xor r b.toNat)) bs

/-- CRC-32C: polynomial 0x1EDC_6F41 reflected, initial value and final inversion of all ones (R198). -/
def crc32c (bs : List Byte) : Nat := Nat.xor (crcRunR 0x82F63B78 0xFFFFFFFF bs) 0xFFFFFFFF

/-- The Ethernet frame check sequence of IEEE 802.3, as the host lanes use it (R194). -/
def fcs32 (bs : List Byte) : Nat := Nat.xor (crcRunR 0xEDB88320 0xFFFFFFFF bs) 0xFFFFFFFF

/-- One bit of an unreflected CRC register of `w` bits with polynomial `p`. -/
def crcStepL (w p r : Nat) : Nat :=
  if bitOf r (w - 1) then Nat.xor (r * 2 % 2 ^ w) p else r * 2 % 2 ^ w

/-- `k` bits of an unreflected CRC register. -/
def crcStepsL (w p : Nat) : Nat → Nat → Nat
  | 0, r => r
  | k + 1, r => crcStepsL w p k (crcStepL w p r)

/-- CRC-16 with polynomial 0x1021 and initial value 0xFFFF, unreflected (R50). -/
def crc16Run : Nat → List Byte → Nat
  | r, [] => r
  | r, b :: bs => crc16Run (crcStepsL 16 0x1021 8 (Nat.xor r (b.toNat * 256))) bs

/-- The CRC-16 of a service-port request or response (R50). -/
def crc16 (bs : List Byte) : Nat := crc16Run 0xFFFF bs

end Sys2Proof.Machine
end

