-- ==== Sys2Proof/Machine/RegNames.lean ====
section
/-!
DEFINITION. The registers and fields by the manual's names, transcribed from the field tables of spec/01
to spec/21: page-relative offset, lowest bit and width. A register of an array takes its index.
-/
namespace Sys2Proof.Machine

/-- A field of a register: the page-relative offset, the lowest bit and the width in bits. -/
structure Fld where
  off : Nat
  lo : Nat
  w : Nat
  deriving DecidableEq, Repr

namespace R

/-! Fields of the SYS page (spec/20 and 01). -/

/-- Register SYS_CAP. -/
def SYS_CAP : Fld := ⟨0x40, 0, 32⟩
def SYS_CAP_BARS : Fld := ⟨0x40, 0, 4⟩
def SYS_CAP_TWIN : Fld := ⟨0x40, 4, 1⟩
def SYS_CAP_DIEREV : Fld := ⟨0x40, 8, 8⟩
/-- Register SYS_STRAP. -/
def SYS_STRAP : Fld := ⟨0x44, 0, 32⟩
def SYS_STRAP_BOOT_MODE : Fld := ⟨0x44, 0, 2⟩
def SYS_STRAP_NETPRIV : Fld := ⟨0x44, 2, 1⟩
def SYS_STRAP_ROLE_SEL : Fld := ⟨0x44, 3, 1⟩
def SYS_STRAP_CAMA_VSEL : Fld := ⟨0x44, 4, 1⟩
def SYS_STRAP_CAMB_VSEL : Fld := ⟨0x44, 5, 1⟩
def SYS_STRAP_VALID : Fld := ⟨0x44, 8, 1⟩
/-- Register SYS_STATE. -/
def SYS_STATE : Fld := ⟨0x48, 0, 32⟩
def SYS_STATE_STATE : Fld := ⟨0x48, 0, 4⟩
def SYS_STATE_ROLE : Fld := ⟨0x48, 4, 2⟩
def SYS_STATE_PRIOR : Fld := ⟨0x48, 8, 4⟩
def SYS_STATE_CAUSE : Fld := ⟨0x48, 12, 4⟩
def SYS_STATE_TRANSEQ : Fld := ⟨0x48, 16, 8⟩
/-- Register SYS_START. -/
def SYS_START : Fld := ⟨0x4c, 0, 32⟩
def SYS_START_STEP : Fld := ⟨0x4c, 0, 4⟩
def SYS_START_FAIL : Fld := ⟨0x4c, 4, 1⟩
def SYS_START_EXTBUILD : Fld := ⟨0x4c, 5, 1⟩
def SYS_START_DETAIL : Fld := ⟨0x4c, 8, 8⟩
/-- Register SYS_RSTCNT. -/
def SYS_RSTCNT : Fld := ⟨0x50, 0, 32⟩
def SYS_RSTCNT_PIN : Fld := ⟨0x50, 0, 16⟩
def SYS_RSTCNT_LASTPOR : Fld := ⟨0x50, 16, 1⟩
/-- Register SYS_VCORE. -/
def SYS_VCORE : Fld := ⟨0x54, 0, 32⟩
def SYS_VCORE_TARGET : Fld := ⟨0x54, 0, 10⟩
def SYS_VCORE_VOUT : Fld := ⟨0x54, 16, 10⟩
/-- Register SYS_IOUT. -/
def SYS_IOUT : Fld := ⟨0x58, 0, 32⟩
def SYS_IOUT_IOUT : Fld := ⟨0x58, 0, 16⟩
/-- Register SYS_AVSCFG. -/
def SYS_AVSCFG : Fld := ⟨0x5c, 0, 32⟩
def SYS_AVSCFG_EN : Fld := ⟨0x5c, 0, 1⟩
def SYS_AVSCFG_STEP : Fld := ⟨0x5c, 1, 4⟩
def SYS_AVSCFG_INT : Fld := ⟨0x5c, 8, 8⟩
def SYS_AVSCFG_LOMARG : Fld := ⟨0x5c, 16, 8⟩
def SYS_AVSCFG_HIMARG : Fld := ⟨0x5c, 24, 8⟩
/-- Register SYS_PMBCFG. -/
def SYS_PMBCFG : Fld := ⟨0x60, 0, 32⟩
def SYS_PMBCFG_ADDR : Fld := ⟨0x60, 0, 7⟩
def SYS_PMBCFG_PEC : Fld := ⟨0x60, 7, 1⟩
def SYS_PMBCFG_FAST : Fld := ⟨0x60, 8, 1⟩
/-- Register SYS_PMBCNT. -/
def SYS_PMBCNT : Fld := ⟨0x64, 0, 32⟩
def SYS_PMBCNT_NACK : Fld := ⟨0x64, 0, 16⟩
def SYS_PMBCNT_PECERR : Fld := ⟨0x64, 16, 16⟩
/-- Register SYS_SVCERR. -/
def SYS_SVCERR : Fld := ⟨0xc0, 0, 32⟩
def SYS_SVCERR_CRCERR : Fld := ⟨0xc0, 0, 16⟩
def SYS_SVCERR_ABORT : Fld := ⟨0xc0, 16, 16⟩
/-- Register SYS_AVSOVR. -/
def SYS_AVSOVR : Fld := ⟨0x100, 0, 32⟩
def SYS_AVSOVR_MV : Fld := ⟨0x100, 0, 10⟩
def SYS_AVSOVR_FIX : Fld := ⟨0x100, 31, 1⟩

/-! Fields of the PRIV page (spec/02). -/

/-- Register PRIV_MASTER. -/
def PRIV_MASTER : Fld := ⟨0x40, 0, 32⟩
def PRIV_MASTER_MASTER : Fld := ⟨0x40, 0, 4⟩
def PRIV_MASTER_PRIVILEGED : Fld := ⟨0x40, 4, 1⟩
/-- Register PRIV_SESSIONS. -/
def PRIV_SESSIONS : Fld := ⟨0x44, 0, 32⟩
def PRIV_SESSIONS_OPEN : Fld := ⟨0x44, 0, 8⟩
def PRIV_SESSIONS_PRIVSESS : Fld := ⟨0x44, 8, 8⟩
/-- Register PRIV_REFUSED. -/
def PRIV_REFUSED : Fld := ⟨0x48, 0, 32⟩
/-- Register PRIV_AUTHFAIL. -/
def PRIV_AUTHFAIL : Fld := ⟨0x4c, 0, 32⟩
def PRIV_AUTHFAIL_COUNT : Fld := ⟨0x4c, 0, 16⟩
def PRIV_AUTHFAIL_HOLD : Fld := ⟨0x4c, 16, 1⟩
/-- Register PRIV_OTPLEFT. -/
def PRIV_OTPLEFT : Fld := ⟨0x50, 0, 32⟩
def PRIV_OTPLEFT_PAIR_ID : Fld := ⟨0x50, 0, 8⟩
def PRIV_OTPLEFT_BAR_MAP : Fld := ⟨0x50, 8, 8⟩
def PRIV_OTPLEFT_SESSION_KEY : Fld := ⟨0x50, 16, 8⟩
def PRIV_OTPLEFT_AUDIT_ROLLOVER : Fld := ⟨0x50, 24, 8⟩
/-- Register PRIV_AUDITSTAT. -/
def PRIV_AUDITSTAT : Fld := ⟨0x54, 0, 32⟩
def PRIV_AUDITSTAT_UNSPILLED : Fld := ⟨0x54, 0, 11⟩
/-- Register PRIV_AUDITSEQ. -/
def PRIV_AUDITSEQ : Fld := ⟨0x58, 0, 32⟩
/-- Register PRIV_AUDITLOST. -/
def PRIV_AUDITLOST : Fld := ⟨0x5c, 0, 32⟩
/-- Register PRIV_OTPCMD. -/
def PRIV_OTPCMD : Fld := ⟨0x80, 0, 32⟩
def PRIV_OTPCMD_SETTING : Fld := ⟨0x80, 0, 4⟩
def PRIV_OTPCMD_GO : Fld := ⟨0x80, 4, 1⟩
/-- Register PRIV_OTPSTAT. -/
def PRIV_OTPSTAT : Fld := ⟨0x84, 0, 32⟩
def PRIV_OTPSTAT_BUSY : Fld := ⟨0x84, 0, 1⟩
def PRIV_OTPSTAT_DONE : Fld := ⟨0x84, 1, 1⟩
def PRIV_OTPSTAT_FAIL : Fld := ⟨0x84, 2, 1⟩
/-- Register PRIV_PAIRSTG. -/
def PRIV_PAIRSTG : Fld := ⟨0x88, 0, 32⟩
/-- Register PRIV_BARSTG. -/
def PRIV_BARSTG : Fld := ⟨0x8c, 0, 32⟩
/-- Register PRIV_AUDITCTL. -/
def PRIV_AUDITCTL : Fld := ⟨0x90, 0, 32⟩
def PRIV_AUDITCTL_BASIN : Fld := ⟨0x90, 0, 5⟩
def PRIV_AUDITCTL_FULLPOL : Fld := ⟨0x90, 8, 1⟩
def PRIV_AUDITCTL_SPILLEN : Fld := ⟨0x90, 9, 1⟩
/-- Register PRIV_SESSTMO. -/
def PRIV_SESSTMO : Fld := ⟨0x94, 0, 32⟩
def PRIV_SESSTMO_MS : Fld := ⟨0x94, 0, 16⟩
/-- Register PRIV_SESSCLOSE. -/
def PRIV_SESSCLOSE : Fld := ⟨0x98, 0, 32⟩
def PRIV_SESSCLOSE_SESS : Fld := ⟨0x98, 0, 3⟩
def PRIV_SESSCLOSE_CLOSE : Fld := ⟨0x98, 3, 1⟩

/-! Fields of the WEIR page (spec/14). -/

/-- Register WEIR_CTL. -/
def WEIR_CTL : Fld := ⟨0x40, 0, 32⟩
def WEIR_CTL_PERIOD : Fld := ⟨0x40, 0, 18⟩
/-- Register WEIR_STAT. -/
def WEIR_STAT : Fld := ⟨0x44, 0, 32⟩
def WEIR_STAT_THROT : Fld := ⟨0x44, 0, 1⟩
def WEIR_STAT_UNGUAR : Fld := ⟨0x44, 1, 1⟩
def WEIR_STAT_OVERSUB : Fld := ⟨0x44, 2, 1⟩
def WEIR_STAT_RTSTALL : Fld := ⟨0x44, 3, 1⟩
/-- Register WEIR_FLOOR. -/
def WEIR_FLOOR : Fld := ⟨0x48, 0, 32⟩
def WEIR_FLOOR_TOKENS : Fld := ⟨0x48, 0, 24⟩
/-- Register WEIR_DRAMFLOOR. -/
def WEIR_DRAMFLOOR : Fld := ⟨0x4c, 0, 32⟩
def WEIR_DRAMFLOOR_TOKENS : Fld := ⟨0x4c, 0, 24⟩
/-- Register WEIR_SUM. -/
def WEIR_SUM : Fld := ⟨0x50, 0, 32⟩
def WEIR_SUM_TOKENS : Fld := ⟨0x50, 0, 24⟩
/-- Register WEIR_SPARE. -/
def WEIR_SPARE : Fld := ⟨0x54, 0, 32⟩
def WEIR_SPARE_TOKENS : Fld := ⟨0x54, 0, 24⟩
/-- Register WEIR_SPEED. -/
def WEIR_SPEED : Fld := ⟨0x58, 0, 32⟩
def WEIR_SPEED_SPEED : Fld := ⟨0x58, 0, 16⟩
/-- Register WEIR_THROT. -/
def WEIR_THROT : Fld := ⟨0x5c, 0, 32⟩
def WEIR_THROT_SCALE : Fld := ⟨0x5c, 0, 8⟩
/-- Register WEIR_FLOOROVR. -/
def WEIR_FLOOROVR : Fld := ⟨0x80, 0, 32⟩
def WEIR_FLOOROVR_F1 : Fld := ⟨0x80, 0, 24⟩
/-- Register WEIR_LOCK. -/
def WEIR_LOCK : Fld := ⟨0x84, 0, 32⟩
def WEIR_LOCK_LOCK : Fld := ⟨0x84, 0, 1⟩
/-- Register WEIR_BUDGET0 to WEIR_BUDGET23. -/
def WEIR_BUDGET (n : Nat) : Fld := ⟨0x100 + 8 * n, 0, 32⟩
def WEIR_BUDGET_BUDGET (n : Nat) : Fld := ⟨0x100 + 8 * n, 0, 24⟩
/-- Register WEIR_ACTCFG0 to WEIR_ACTCFG23. -/
def WEIR_ACTCFG (n : Nat) : Fld := ⟨0x104 + 8 * n, 0, 32⟩
def WEIR_ACTCFG_BURST (n : Nat) : Fld := ⟨0x104 + 8 * n, 0, 24⟩
def WEIR_ACTCFG_RT (n : Nat) : Fld := ⟨0x104 + 8 * n, 24, 1⟩
def WEIR_ACTCFG_DRAM (n : Nat) : Fld := ⟨0x104 + 8 * n, 25, 1⟩

/-! Fields of the THRM page (spec/18). -/

/-- Register THRM_STAT. -/
def THRM_STAT : Fld := ⟨0x40, 0, 32⟩
def THRM_STAT_DIELEVEL : Fld := ⟨0x40, 0, 3⟩
def THRM_STAT_DRAMLEVEL : Fld := ⟨0x40, 3, 3⟩
def THRM_STAT_FAST : Fld := ⟨0x40, 6, 1⟩
def THRM_STAT_THERMN : Fld := ⟨0x40, 7, 1⟩
def THRM_STAT_NFAULT : Fld := ⟨0x40, 8, 6⟩
/-- Register THRM_MAX. -/
def THRM_MAX : Fld := ⟨0x44, 0, 32⟩
def THRM_MAX_DIE : Fld := ⟨0x44, 0, 16⟩
def THRM_MAX_DRAM : Fld := ⟨0x44, 16, 16⟩
/-- Register THRM_SAMPCFG. -/
def THRM_SAMPCFG : Fld := ⟨0x48, 0, 32⟩
def THRM_SAMPCFG_MARGIN : Fld := ⟨0x48, 0, 4⟩
/-- Register THRM_DIELIM. -/
def THRM_DIELIM : Fld := ⟨0x80, 0, 32⟩
def THRM_DIELIM_THROT : Fld := ⟨0x80, 0, 8⟩
def THRM_DIELIM_SLOW : Fld := ⟨0x80, 8, 8⟩
def THRM_DIELIM_FAIL : Fld := ⟨0x80, 16, 8⟩
def THRM_DIELIM_CRIT : Fld := ⟨0x80, 24, 8⟩
/-- Register THRM_DRAMLIM. -/
def THRM_DRAMLIM : Fld := ⟨0x84, 0, 32⟩
def THRM_DRAMLIM_THROT : Fld := ⟨0x84, 0, 8⟩
def THRM_DRAMLIM_SLOW : Fld := ⟨0x84, 8, 8⟩
def THRM_DRAMLIM_FAIL : Fld := ⟨0x84, 16, 8⟩
def THRM_DRAMLIM_CRIT : Fld := ⟨0x84, 24, 8⟩
/-- Register THRM_RATE. -/
def THRM_RATE : Fld := ⟨0x88, 0, 32⟩
def THRM_RATE_DIERATE : Fld := ⟨0x88, 0, 8⟩
def THRM_RATE_DRAMRATE : Fld := ⟨0x88, 8, 8⟩
def THRM_RATE_WIN : Fld := ⟨0x88, 16, 8⟩
def THRM_RATE_ACT : Fld := ⟨0x88, 24, 3⟩
/-- Register THRM_CTL. -/
def THRM_CTL : Fld := ⟨0x8c, 0, 32⟩
def THRM_CTL_HYST : Fld := ⟨0x8c, 0, 4⟩
def THRM_CTL_ACTEN : Fld := ⟨0x8c, 8, 4⟩

/-! Fields of the HLNK page (spec/05). -/

/-- Register HLNK_CTL. -/
def HLNK_CTL : Fld := ⟨0x40, 0, 32⟩
def HLNK_CTL_MODE : Fld := ⟨0x40, 0, 2⟩
def HLNK_CTL_FEC : Fld := ⟨0x40, 2, 2⟩
def HLNK_CTL_PAUSEEN : Fld := ⟨0x40, 4, 1⟩
/-- Register HLNK_STAT. -/
def HLNK_STAT : Fld := ⟨0x44, 0, 32⟩
def HLNK_STAT_UP : Fld := ⟨0x44, 0, 1⟩
def HLNK_STAT_BLOCKLOCK : Fld := ⟨0x44, 1, 1⟩
def HLNK_STAT_FECLOCK : Fld := ⟨0x44, 2, 1⟩
def HLNK_STAT_PAUSED : Fld := ⟨0x44, 3, 1⟩
def HLNK_STAT_LEVEL : Fld := ⟨0x44, 8, 18⟩
/-- Register HLNK_MAXFRM. -/
def HLNK_MAXFRM : Fld := ⟨0x48, 0, 32⟩
def HLNK_MAXFRM_BYTES : Fld := ⟨0x48, 0, 14⟩
/-- Register HLNK_RXERR. -/
def HLNK_RXERR : Fld := ⟨0x4c, 0, 32⟩
def HLNK_RXERR_FCS : Fld := ⟨0x4c, 0, 16⟩
def HLNK_RXERR_LENGTH : Fld := ⟨0x4c, 16, 16⟩
/-- Register HLNK_FEC. -/
def HLNK_FEC : Fld := ⟨0x50, 0, 32⟩
def HLNK_FEC_CORR : Fld := ⟨0x50, 0, 16⟩
def HLNK_FEC_UNCORR : Fld := ⟨0x50, 16, 16⟩
/-- Register HLNK_OVF. -/
def HLNK_OVF : Fld := ⟨0x54, 0, 32⟩
/-- Register HLNK_PAUSE. -/
def HLNK_PAUSE : Fld := ⟨0x58, 0, 32⟩

/-! Fields of the YRT page (spec/05). -/

/-- Register YRT_CTL. -/
def YRT_CTL : Fld := ⟨0x40, 0, 32⟩
def YRT_CTL_ETYPE : Fld := ⟨0x40, 0, 16⟩
def YRT_CTL_LISTEN : Fld := ⟨0x40, 16, 1⟩
/-- Register YRT_TIMERS. -/
def YRT_TIMERS : Fld := ⟨0x44, 0, 32⟩
def YRT_TIMERS_ACKINT : Fld := ⟨0x44, 0, 8⟩
def YRT_TIMERS_CREDINT : Fld := ⟨0x44, 8, 8⟩
def YRT_TIMERS_NAKTMO : Fld := ⟨0x44, 16, 8⟩
def YRT_TIMERS_RETRYMAX : Fld := ⟨0x44, 24, 8⟩
/-- Register YRT_RTO. -/
def YRT_RTO : Fld := ⟨0x48, 0, 32⟩
def YRT_RTO_RTO : Fld := ⟨0x48, 0, 16⟩
def YRT_RTO_TXWIN : Fld := ⟨0x48, 16, 6⟩
/-- Register YRT_RXCNT. -/
def YRT_RXCNT : Fld := ⟨0x4c, 0, 32⟩
def YRT_RXCNT_CRCERR : Fld := ⟨0x4c, 0, 16⟩
def YRT_RXCNT_DUP : Fld := ⟨0x4c, 16, 16⟩
/-- Register YRT_GAPCNT. -/
def YRT_GAPCNT : Fld := ⟨0x50, 0, 32⟩
def YRT_GAPCNT_GAP : Fld := ⟨0x50, 0, 16⟩
def YRT_GAPCNT_NAKTX : Fld := ⟨0x50, 16, 16⟩
/-- Register YRT_RETXCNT. -/
def YRT_RETXCNT : Fld := ⟨0x54, 0, 32⟩
def YRT_RETXCNT_RETX : Fld := ⟨0x54, 0, 16⟩
def YRT_RETXCNT_NAKRX : Fld := ⟨0x54, 16, 16⟩
/-- Register YRT_REFCNT. -/
def YRT_REFCNT : Fld := ⟨0x58, 0, 32⟩
def YRT_REFCNT_DATAREF : Fld := ⟨0x58, 0, 16⟩
def YRT_REFCNT_NOSESS : Fld := ⟨0x58, 16, 16⟩

/-! Fields of the BASN page (spec/05). -/

/-- Register BASN_CMD. -/
def BASN_CMD : Fld := ⟨0x40, 0, 32⟩
def BASN_CMD_HALT : Fld := ⟨0x40, 0, 1⟩
def BASN_CMD_RESUME : Fld := ⟨0x40, 1, 1⟩
def BASN_CMD_ABORT : Fld := ⟨0x40, 2, 1⟩
/-- Register BASN_JOBSTAT. -/
def BASN_JOBSTAT : Fld := ⟨0x44, 0, 32⟩
def BASN_JOBSTAT_RUNNING : Fld := ⟨0x44, 0, 1⟩
def BASN_JOBSTAT_QUEUED : Fld := ⟨0x44, 1, 1⟩
def BASN_JOBSTAT_HALTED : Fld := ⟨0x44, 2, 1⟩
def BASN_JOBSTAT_REFREASON : Fld := ⟨0x44, 8, 4⟩
def BASN_JOBSTAT_REFBASIN : Fld := ⟨0x44, 16, 5⟩
/-- Register BASN_JOBCUR, BASN_JOBQ. -/
def BASN_JOBCUR : Fld := ⟨0x48, 0, 32⟩
/-- Register BASN_JOBCUR, BASN_JOBQ. -/
def BASN_JOBQ : Fld := ⟨0x4c, 0, 32⟩
/-- Register BASN_BANDCRC. -/
def BASN_BANDCRC : Fld := ⟨0x50, 0, 32⟩
def BASN_BANDCRC_FAIL : Fld := ⟨0x50, 0, 16⟩
def BASN_BANDCRC_REPL : Fld := ⟨0x50, 16, 16⟩
/-- Register BASN_PRODMISS. -/
def BASN_PRODMISS : Fld := ⟨0x54, 0, 32⟩

/-! Fields of the BASNW page (spec/05). -/

/-- Register BASN_RBASEb. -/
def BASN_RBASE (n : Nat) : Fld := ⟨0x40 + 16 * n, 0, 32⟩
def BASN_RBASE_BASE (n : Nat) : Fld := ⟨0x40 + 16 * n, 0, 23⟩
/-- Register BASN_RCFGb. -/
def BASN_RCFG (n : Nat) : Fld := ⟨0x44 + 16 * n, 0, 32⟩
def BASN_RCFG_EN (n : Nat) : Fld := ⟨0x44 + 16 * n, 0, 1⟩
def BASN_RCFG_USE (n : Nat) : Fld := ⟨0x44 + 16 * n, 1, 2⟩
def BASN_RCFG_DEVPROD (n : Nat) : Fld := ⟨0x44 + 16 * n, 3, 1⟩
def BASN_RCFG_LOG2SIZE (n : Nat) : Fld := ⟨0x44 + 16 * n, 4, 6⟩
/-- Register BASN_RDROPb. -/
def BASN_RDROP (n : Nat) : Fld := ⟨0x48 + 16 * n, 0, 32⟩

/-! Fields of the TIME page (spec/03). -/

/-- Register TIME_CTL. -/
def TIME_CTL : Fld := ⟨0x40, 0, 32⟩
def TIME_CTL_MODE : Fld := ⟨0x40, 0, 1⟩
def TIME_CTL_SRC : Fld := ⟨0x40, 1, 1⟩
def TIME_CTL_AUTOREARM : Fld := ⟨0x40, 2, 1⟩
def TIME_CTL_ARM : Fld := ⟨0x40, 4, 1⟩
def TIME_CTL_FREE : Fld := ⟨0x40, 5, 1⟩
/-- Register TIME_STAT. -/
def TIME_STAT : Fld := ⟨0x44, 0, 32⟩
def TIME_STAT_TSTATE : Fld := ⟨0x44, 0, 2⟩
def TIME_STAT_LOCK : Fld := ⟨0x44, 2, 1⟩
def TIME_STAT_TREF25 : Fld := ⟨0x44, 3, 1⟩
def TIME_STAT_TREFLOSS : Fld := ⟨0x44, 4, 1⟩
def TIME_STAT_REFUSECNT : Fld := ⟨0x44, 8, 8⟩
/-- Register TIME_JUMPTHR. -/
def TIME_JUMPTHR : Fld := ⟨0x48, 0, 32⟩
/-- Register TIME_SERVOCFG. -/
def TIME_SERVOCFG : Fld := ⟨0x4c, 0, 32⟩
def TIME_SERVOCFG_JUMPMAX : Fld := ⟨0x4c, 0, 8⟩
/-- Register TIME_KP. -/
def TIME_KP : Fld := ⟨0x50, 0, 32⟩
/-- Register TIME_KI. -/
def TIME_KI : Fld := ⟨0x54, 0, 32⟩
/-- Register TIME_RATEMAX. -/
def TIME_RATEMAX : Fld := ⟨0x58, 0, 32⟩
def TIME_RATEMAX_PPB : Fld := ⟨0x58, 0, 21⟩
/-- Register TIME_PPSCTL. -/
def TIME_PPSCTL : Fld := ⟨0x5c, 0, 32⟩
def TIME_PPSCTL_OUTEN : Fld := ⟨0x5c, 0, 1⟩
def TIME_PPSCTL_INEDGE : Fld := ⟨0x5c, 1, 1⟩
def TIME_PPSCTL_WIDTH : Fld := ⟨0x5c, 16, 16⟩
/-- Register TIME_CAPSRC0 to TIME_CAPSRC7. -/
def TIME_CAPSRC (n : Nat) : Fld := ⟨0x60 + 4 * n, 0, 32⟩
def TIME_CAPSRC_SRC (n : Nat) : Fld := ⟨0x60 + 4 * n, 0, 6⟩
def TIME_CAPSRC_EDGE (n : Nat) : Fld := ⟨0x60 + 4 * n, 6, 2⟩
/-- Register TIME_CAPSTAT. -/
def TIME_CAPSTAT : Fld := ⟨0x80, 0, 32⟩
def TIME_CAPSTAT_NEW : Fld := ⟨0x80, 0, 8⟩
def TIME_CAPSTAT_OVR : Fld := ⟨0x80, 8, 8⟩
/-- Register TIME_LATE. -/
def TIME_LATE : Fld := ⟨0x84, 0, 32⟩

/-! Fields of the PTPA page (spec/03). -/

/-- Register PTPA_CTL. -/
def PTPA_CTL : Fld := ⟨0x40, 0, 32⟩
def PTPA_CTL_LANE : Fld := ⟨0x40, 0, 2⟩
def PTPA_CTL_LEARN : Fld := ⟨0x40, 2, 1⟩
def PTPA_CTL_VLAN : Fld := ⟨0x40, 3, 1⟩
def PTPA_CTL_DOMAIN : Fld := ⟨0x40, 8, 8⟩
def PTPA_CTL_VID : Fld := ⟨0x40, 16, 12⟩
def PTPA_CTL_PCP : Fld := ⟨0x40, 28, 3⟩
/-- Register PTPA_LAT. -/
def PTPA_LAT : Fld := ⟨0x44, 0, 32⟩
def PTPA_LAT_INGLAT : Fld := ⟨0x44, 0, 16⟩
def PTPA_LAT_EGRLAT : Fld := ⟨0x44, 16, 16⟩
/-- Register PTPA_DREQ. -/
def PTPA_DREQ : Fld := ⟨0x48, 0, 32⟩
def PTPA_DREQ_LOGINT : Fld := ⟨0x48, 0, 8⟩
def PTPA_DREQ_FOLLOWMASTER : Fld := ⟨0x48, 8, 1⟩
/-- Register PTPA_TMO. -/
def PTPA_TMO : Fld := ⟨0x4c, 0, 32⟩
def PTPA_TMO_SYNC : Fld := ⟨0x4c, 0, 16⟩
def PTPA_TMO_ANN : Fld := ⟨0x4c, 16, 16⟩
/-- Register PTPA_FILT. -/
def PTPA_FILT : Fld := ⟨0x50, 0, 32⟩
def PTPA_FILT_DLYAVG : Fld := ⟨0x50, 0, 4⟩
def PTPA_FILT_OUTLIER : Fld := ⟨0x50, 16, 16⟩
/-- Register PTPA_RXCNT. -/
def PTPA_RXCNT : Fld := ⟨0x54, 0, 32⟩
def PTPA_RXCNT_SYNC : Fld := ⟨0x54, 0, 16⟩
def PTPA_RXCNT_DRESP : Fld := ⟨0x54, 16, 16⟩
/-- Register PTPA_DROPCNT. -/
def PTPA_DROPCNT : Fld := ⟨0x58, 0, 32⟩
def PTPA_DROPCNT_DROP : Fld := ⟨0x58, 0, 16⟩
def PTPA_DROPCNT_OUTLIER : Fld := ⟨0x58, 16, 16⟩

/-! Fields of the CHK page (spec/16). -/

/-- Register CHK_STAT. -/
def CHK_STAT : Fld := ⟨0x40, 0, 32⟩
def CHK_STAT_ENABLED : Fld := ⟨0x40, 0, 20⟩
def CHK_STAT_DEVRES : Fld := ⟨0x40, 20, 4⟩
/-- Register CHK_MISCNT. -/
def CHK_MISCNT : Fld := ⟨0x44, 0, 32⟩
/-- Register CHK_CFG0 to CHK_CFG19. -/
def CHK_CFG (n : Nat) : Fld := ⟨0x100 + 8 * n, 0, 32⟩
def CHK_CFG_WIDTH (n : Nat) : Fld := ⟨0x100 + 8 * n, 0, 6⟩
def CHK_CFG_REFIN (n : Nat) : Fld := ⟨0x100 + 8 * n, 6, 1⟩
def CHK_CFG_REFOUT (n : Nat) : Fld := ⟨0x100 + 8 * n, 7, 1⟩
def CHK_CFG_INV (n : Nat) : Fld := ⟨0x100 + 8 * n, 8, 1⟩
def CHK_CFG_MODE (n : Nat) : Fld := ⟨0x100 + 8 * n, 9, 1⟩
def CHK_CFG_UNITEV (n : Nat) : Fld := ⟨0x100 + 8 * n, 10, 1⟩
def CHK_CFG_PRESET (n : Nat) : Fld := ⟨0x100 + 8 * n, 12, 3⟩
def CHK_CFG_EN (n : Nat) : Fld := ⟨0x100 + 8 * n, 16, 1⟩
def CHK_CFG_KEEP (n : Nat) : Fld := ⟨0x100 + 8 * n, 17, 1⟩
/-- Register CHK_TAP0 to CHK_TAP19. -/
def CHK_TAP (n : Nat) : Fld := ⟨0x104 + 8 * n, 0, 32⟩
def CHK_TAP_SRC (n : Nat) : Fld := ⟨0x104 + 8 * n, 0, 6⟩
def CHK_TAP_SEL (n : Nat) : Fld := ⟨0x104 + 8 * n, 8, 6⟩

/-! Fields of the DFL page (spec/06). -/

/-- Register DFL_CTL. -/
def DFL_CTL : Fld := ⟨0x40, 0, 32⟩
def DFL_CTL_MARGIN : Fld := ⟨0x40, 0, 13⟩
/-- Register DFL_ERRCNT. -/
def DFL_ERRCNT : Fld := ⟨0x44, 0, 32⟩
def DFL_ERRCNT_DECERR : Fld := ⟨0x44, 0, 16⟩
def DFL_ERRCNT_DCRCERR : Fld := ⟨0x44, 16, 16⟩
/-- Register DFL_DIRCNT. -/
def DFL_DIRCNT : Fld := ⟨0x48, 0, 32⟩
def DFL_DIRCNT_DIR : Fld := ⟨0x48, 0, 16⟩
def DFL_DIRCNT_LATE : Fld := ⟨0x48, 16, 16⟩
/-- Register DFL_LEAD0 to DFL_LEAD7. -/
def DFL_LEAD (n : Nat) : Fld := ⟨0x60 + 4 * n, 0, 32⟩
def DFL_LEAD_LEAD (n : Nat) : Fld := ⟨0x60 + 4 * n, 0, 16⟩

/-! Fields of the CMP page (spec/06). -/

/-- Register DFL_CMPCTL0 to DFL_CMPCTL7. -/
def DFL_CMPCTL (n : Nat) : Fld := ⟨0x40 + 8 * n, 0, 32⟩
def DFL_CMPCTL_EFFORT (n : Nat) : Fld := ⟨0x40 + 8 * n, 0, 4⟩
def DFL_CMPCTL_FINISH (n : Nat) : Fld := ⟨0x40 + 8 * n, 4, 1⟩
def DFL_CMPCTL_HIST (n : Nat) : Fld := ⟨0x40 + 8 * n, 5, 1⟩
def DFL_CMPCTL_DSTBASIN (n : Nat) : Fld := ⟨0x40 + 8 * n, 6, 1⟩
def DFL_CMPCTL_BASIN (n : Nat) : Fld := ⟨0x40 + 8 * n, 7, 5⟩
def DFL_CMPCTL_START (n : Nat) : Fld := ⟨0x40 + 8 * n, 12, 1⟩
def DFL_CMPCTL_RESUME (n : Nat) : Fld := ⟨0x40 + 8 * n, 13, 1⟩
def DFL_CMPCTL_ABORT (n : Nat) : Fld := ⟨0x40 + 8 * n, 14, 1⟩
def DFL_CMPCTL_SAVE (n : Nat) : Fld := ⟨0x40 + 8 * n, 15, 1⟩
def DFL_CMPCTL_RESTORE (n : Nat) : Fld := ⟨0x40 + 8 * n, 16, 1⟩
/-- Register DFL_CMPSTAT0 to DFL_CMPSTAT7. -/
def DFL_CMPSTAT (n : Nat) : Fld := ⟨0x44 + 8 * n, 0, 32⟩
def DFL_CMPSTAT_STATE (n : Nat) : Fld := ⟨0x44 + 8 * n, 0, 3⟩
def DFL_CMPSTAT_HISTVALID (n : Nat) : Fld := ⟨0x44 + 8 * n, 3, 1⟩
def DFL_CMPSTAT_ERRCODE (n : Nat) : Fld := ⟨0x44 + 8 * n, 4, 3⟩
def DFL_CMPSTAT_BITS (n : Nat) : Fld := ⟨0x44 + 8 * n, 8, 3⟩

/-! Fields of the DCP page (spec/06). -/

/-- Register DFL_DCPSTAT0 to DFL_DCPSTAT39. -/
def DFL_DCPSTAT (n : Nat) : Fld := ⟨0x40 + 4 * n, 0, 32⟩
def DFL_DCPSTAT_STATE (n : Nat) : Fld := ⟨0x40 + 4 * n, 0, 3⟩
def DFL_DCPSTAT_HIST (n : Nat) : Fld := ⟨0x40 + 4 * n, 3, 1⟩
def DFL_DCPSTAT_BANDLO (n : Nat) : Fld := ⟨0x40 + 4 * n, 16, 16⟩

/-! Fields of the DRAM page (spec/15). -/

/-- Register DRAM_CTL. -/
def DRAM_CTL : Fld := ⟨0x40, 0, 32⟩
def DRAM_CTL_IDLE : Fld := ⟨0x40, 0, 12⟩
def DRAM_CTL_SCRUBEN : Fld := ⟨0x40, 16, 1⟩
/-- Register DRAM_STAT. -/
def DRAM_STAT : Fld := ⟨0x44, 0, 32⟩
def DRAM_STAT_FROZEN : Fld := ⟨0x44, 0, 1⟩
def DRAM_STAT_FRZCAUSE : Fld := ⟨0x44, 1, 2⟩
def DRAM_STAT_TRAINED : Fld := ⟨0x44, 3, 1⟩
def DRAM_STAT_DEGRADED : Fld := ⟨0x44, 8, 8⟩
def DRAM_STAT_HOT : Fld := ⟨0x44, 16, 8⟩
def DRAM_STAT_RECOV : Fld := ⟨0x44, 24, 8⟩
/-- Register DRAM_MAPSC0. -/
def DRAM_MAPSC0 : Fld := ⟨0x48, 0, 32⟩
def DRAM_MAPSC0_MASK : Fld := ⟨0x48, 0, 29⟩
/-- Register DRAM_MAPSC1. -/
def DRAM_MAPSC1 : Fld := ⟨0x4c, 0, 32⟩
def DRAM_MAPSC1_MASK : Fld := ⟨0x4c, 0, 29⟩
/-- Register DRAM_MAPSC2. -/
def DRAM_MAPSC2 : Fld := ⟨0x50, 0, 32⟩
def DRAM_MAPSC2_MASK : Fld := ⟨0x50, 0, 29⟩
/-- Register DRAM_MAPBG0. -/
def DRAM_MAPBG0 : Fld := ⟨0x54, 0, 32⟩
def DRAM_MAPBG0_MASK : Fld := ⟨0x54, 0, 29⟩
/-- Register DRAM_MAPBG1. -/
def DRAM_MAPBG1 : Fld := ⟨0x58, 0, 32⟩
def DRAM_MAPBG1_MASK : Fld := ⟨0x58, 0, 29⟩
/-- Register DRAM_MAPBG2. -/
def DRAM_MAPBG2 : Fld := ⟨0x5c, 0, 32⟩
def DRAM_MAPBG2_MASK : Fld := ⟨0x5c, 0, 29⟩
/-- Register DRAM_MAPBA. -/
def DRAM_MAPBA : Fld := ⟨0x60, 0, 32⟩
def DRAM_MAPBA_MASK : Fld := ⟨0x60, 0, 29⟩
/-- Register DRAM_REFCFG. -/
def DRAM_REFCFG : Fld := ⟨0x64, 0, 32⟩
def DRAM_REFCFG_DEBTMAX : Fld := ⟨0x64, 0, 3⟩
def DRAM_REFCFG_HOTLIM : Fld := ⟨0x64, 8, 8⟩
def DRAM_REFCFG_HYST : Fld := ⟨0x64, 16, 4⟩
/-- Register DRAM_SCRUB. -/
def DRAM_SCRUB : Fld := ⟨0x68, 0, 32⟩
def DRAM_SCRUB_INT : Fld := ⟨0x68, 0, 16⟩
/-- Register DRAM_ECCCNT. -/
def DRAM_ECCCNT : Fld := ⟨0x6c, 0, 32⟩
def DRAM_ECCCNT_CORR1 : Fld := ⟨0x6c, 0, 16⟩
def DRAM_ECCCNT_CORR2 : Fld := ⟨0x6c, 16, 16⟩
/-- Register DRAM_RSV. -/
def DRAM_RSV : Fld := ⟨0x70, 0, 32⟩
def DRAM_RSV_BASE : Fld := ⟨0x70, 0, 15⟩
/-- Register DRAM_RETRAIN. -/
def DRAM_RETRAIN : Fld := ⟨0x74, 0, 32⟩
def DRAM_RETRAIN_RETRYN : Fld := ⟨0x74, 0, 4⟩
def DRAM_RETRAIN_MINMARGIN : Fld := ⟨0x74, 8, 8⟩
/-- Register DRAM_FRZCTL. -/
def DRAM_FRZCTL : Fld := ⟨0x80, 0, 32⟩
def DRAM_FRZCTL_RELEASE : Fld := ⟨0x80, 0, 1⟩
/-- Register DRAM_PORTCFG0 to DRAM_PORTCFG15. -/
def DRAM_PORTCFG (n : Nat) : Fld := ⟨0x100 + 4 * n, 0, 32⟩
def DRAM_PORTCFG_VALUE (n : Nat) : Fld := ⟨0x100 + 4 * n, 0, 16⟩

/-! Fields of the SC page (spec/15). -/

/-- Register DRAM_SCSTAT. -/
def DRAM_SCSTAT : Fld := ⟨0x40, 0, 32⟩
def DRAM_SCSTAT_SCSTATE : Fld := ⟨0x40, 0, 3⟩
def DRAM_SCSTAT_DEGRADED : Fld := ⟨0x40, 3, 1⟩
def DRAM_SCSTAT_HOT : Fld := ⟨0x40, 4, 1⟩
def DRAM_SCSTAT_RECOV : Fld := ⟨0x40, 5, 1⟩
def DRAM_SCSTAT_DEBT : Fld := ⟨0x40, 6, 3⟩
def DRAM_SCSTAT_QDEPTH : Fld := ⟨0x40, 16, 6⟩
/-- Register DRAM_SCTEMP. -/
def DRAM_SCTEMP : Fld := ⟨0x44, 0, 32⟩
def DRAM_SCTEMP_TEMP : Fld := ⟨0x44, 0, 16⟩
/-- Register DRAM_SCCNT. -/
def DRAM_SCCNT : Fld := ⟨0x48, 0, 32⟩
def DRAM_SCCNT_PAUSES : Fld := ⟨0x48, 0, 16⟩
def DRAM_SCCNT_RTFAIL : Fld := ⟨0x48, 16, 8⟩
def DRAM_SCCNT_FORCED : Fld := ⟨0x48, 24, 8⟩
/-- Register DRAM_SCMARGIN. -/
def DRAM_SCMARGIN : Fld := ⟨0x4c, 0, 32⟩
def DRAM_SCMARGIN_RD : Fld := ⟨0x4c, 0, 8⟩
def DRAM_SCMARGIN_WR : Fld := ⟨0x4c, 8, 8⟩
def DRAM_SCMARGIN_VREF : Fld := ⟨0x4c, 16, 8⟩
def DRAM_SCMARGIN_CA : Fld := ⟨0x4c, 24, 8⟩
/-- Register DRAM_TRNOVR. -/
def DRAM_TRNOVR : Fld := ⟨0x80, 0, 32⟩
def DRAM_TRNOVR_RDDLY : Fld := ⟨0x80, 0, 8⟩
def DRAM_TRNOVR_WRDLY : Fld := ⟨0x80, 8, 8⟩
def DRAM_TRNOVR_VREF : Fld := ⟨0x80, 16, 8⟩
def DRAM_TRNOVR_FIX : Fld := ⟨0x80, 31, 1⟩

/-! Fields of the POS page (spec/04). -/

/-- Register POS_CTL. -/
def POS_CTL : Fld := ⟨0x40, 0, 32⟩
def POS_CTL_ENC0EN : Fld := ⟨0x40, 0, 1⟩
def POS_CTL_ENC1EN : Fld := ⟨0x40, 1, 1⟩
def POS_CTL_HALLEN : Fld := ⟨0x40, 2, 1⟩
def POS_CTL_SSN0EN : Fld := ⟨0x40, 3, 1⟩
def POS_CTL_SSN1EN : Fld := ⟨0x40, 4, 1⟩
def POS_CTL_TRIGEN : Fld := ⟨0x40, 5, 1⟩
def POS_CTL_CLRFLT0 : Fld := ⟨0x40, 8, 1⟩
def POS_CTL_CLRFLT1 : Fld := ⟨0x40, 9, 1⟩
def POS_CTL_CLRHALL : Fld := ⟨0x40, 10, 1⟩
def POS_CTL_CLRSSN0 : Fld := ⟨0x40, 11, 1⟩
def POS_CTL_CLRSSN1 : Fld := ⟨0x40, 12, 1⟩
/-- Register POS_STAT. -/
def POS_STAT : Fld := ⟨0x44, 0, 32⟩
def POS_STAT_MSRC : Fld := ⟨0x44, 0, 2⟩
def POS_STAT_MSTATE : Fld := ⟨0x44, 2, 2⟩
def POS_STAT_SPEED_VALID : Fld := ⟨0x44, 4, 1⟩
def POS_STAT_DIR : Fld := ⟨0x44, 5, 1⟩
def POS_STAT_STANDSTILL : Fld := ⟨0x44, 6, 1⟩
def POS_STAT_DECAY : Fld := ⟨0x44, 7, 1⟩
def POS_STAT_ENC0FLT : Fld := ⟨0x44, 8, 1⟩
def POS_STAT_ENC1FLT : Fld := ⟨0x44, 9, 1⟩
def POS_STAT_HALLFLT : Fld := ⟨0x44, 10, 1⟩
def POS_STAT_SSN0FLT : Fld := ⟨0x44, 11, 1⟩
def POS_STAT_SSN1FLT : Fld := ⟨0x44, 12, 1⟩
/-- Register POS_SPEED. -/
def POS_SPEED : Fld := ⟨0x48, 0, 32⟩
/-- Register POS_ACCEL. -/
def POS_ACCEL : Fld := ⟨0x4c, 0, 32⟩
/-- Register POS_STRETCH. -/
def POS_STRETCH : Fld := ⟨0x50, 0, 32⟩
/-- Register POS_ENC0CFG, POS_ENC1CFG. -/
def POS_ENCCFG (n : Nat) : Fld := ⟨0x54 + 4 * n, 0, 32⟩
def POS_ENCCFG_MINSP (n : Nat) : Fld := ⟨0x54 + 4 * n, 0, 16⟩
def POS_ENCCFG_MULT (n : Nat) : Fld := ⟨0x54 + 4 * n, 16, 2⟩
def POS_ENCCFG_INV (n : Nat) : Fld := ⟨0x54 + 4 * n, 18, 1⟩
def POS_ENCCFG_ZGATE (n : Nat) : Fld := ⟨0x54 + 4 * n, 19, 1⟩
def POS_ENCCFG_ZEDGE (n : Nat) : Fld := ⟨0x54 + 4 * n, 20, 1⟩
def POS_ENCCFG_FLTMAX (n : Nat) : Fld := ⟨0x54 + 4 * n, 24, 8⟩
/-- Register POS_ENC0SCALE, POS_ENC1SCALE. -/
def POS_ENCSCALE (n : Nat) : Fld := ⟨0x5c + 4 * n, 0, 32⟩
/-- Register POS_IDX0PER, POS_IDX1PER. -/
def POS_IDXPER (n : Nat) : Fld := ⟨0x64 + 4 * n, 0, 32⟩
/-- Register POS_IDXCFG. -/
def POS_IDXCFG : Fld := ⟨0x6c, 0, 32⟩
def POS_IDXCFG_TOL : Fld := ⟨0x6c, 0, 8⟩
def POS_IDXCFG_POLICY : Fld := ⟨0x6c, 8, 2⟩
def POS_IDXCFG_FAULTN : Fld := ⟨0x6c, 16, 4⟩
def POS_IDXCFG_CONF : Fld := ⟨0x6c, 20, 4⟩
def POS_IDXCFG_MAXSTEP : Fld := ⟨0x6c, 24, 8⟩
/-- Register POS_IDXSTAT. -/
def POS_IDXSTAT : Fld := ⟨0x70, 0, 32⟩
def POS_IDXSTAT_CONSEC0 : Fld := ⟨0x70, 0, 8⟩
def POS_IDXSTAT_CONSEC1 : Fld := ⟨0x70, 8, 8⟩
def POS_IDXSTAT_TOTAL0 : Fld := ⟨0x70, 16, 8⟩
def POS_IDXSTAT_TOTAL1 : Fld := ⟨0x70, 24, 8⟩
/-- Register POS_SPDCFG. -/
def POS_SPDCFG : Fld := ⟨0x74, 0, 32⟩
def POS_SPDCFG_NAVG : Fld := ⟨0x74, 0, 3⟩
def POS_SPDCFG_ACCWIN : Fld := ⟨0x74, 8, 8⟩
def POS_SPDCFG_STANDTMO : Fld := ⟨0x74, 16, 16⟩
/-- Register POS_STANDV. -/
def POS_STANDV : Fld := ⟨0x78, 0, 32⟩
/-- Register POS_STRCFG. -/
def POS_STRCFG : Fld := ⟨0x7c, 0, 32⟩
def POS_STRCFG_WIN : Fld := ⟨0x7c, 0, 16⟩
def POS_STRCFG_FILT : Fld := ⟨0x7c, 16, 4⟩
def POS_STRCFG_LIMIT : Fld := ⟨0x7c, 20, 12⟩
/-- Register POS_STRZERO. -/
def POS_STRZERO : Fld := ⟨0x80, 0, 32⟩
/-- Register POS_HALLCFG. -/
def POS_HALLCFG : Fld := ⟨0x84, 0, 32⟩
def POS_HALLCFG_MINSP : Fld := ⟨0x84, 0, 16⟩
def POS_HALLCFG_INV : Fld := ⟨0x84, 16, 1⟩
def POS_HALLCFG_DIRN : Fld := ⟨0x84, 20, 4⟩
def POS_HALLCFG_SPDTOL : Fld := ⟨0x84, 24, 8⟩
/-- Register POS_HALLSCALE. -/
def POS_HALLSCALE : Fld := ⟨0x88, 0, 32⟩
/-- Register POS_SSN0CFG, POS_SSN1CFG. -/
def POS_SSNCFG (n : Nat) : Fld := ⟨0x8c + 4 * n, 0, 32⟩
def POS_SSNCFG_BITS (n : Nat) : Fld := ⟨0x8c + 4 * n, 0, 6⟩
def POS_SSNCFG_BIND (n : Nat) : Fld := ⟨0x8c + 4 * n, 6, 2⟩
def POS_SSNCFG_DIV (n : Nat) : Fld := ⟨0x8c + 4 * n, 8, 9⟩
def POS_SSNCFG_PERIOD (n : Nat) : Fld := ⟨0x8c + 4 * n, 20, 12⟩
/-- Register POS_SSN0TIM, POS_SSN1TIM. -/
def POS_SSNTIM (n : Nat) : Fld := ⟨0x94 + 4 * n, 0, 32⟩
def POS_SSNTIM_LAT (n : Nat) : Fld := ⟨0x94 + 4 * n, 0, 12⟩
def POS_SSNTIM_FAULTN (n : Nat) : Fld := ⟨0x94 + 4 * n, 12, 4⟩
def POS_SSNTIM_TMO (n : Nat) : Fld := ⟨0x94 + 4 * n, 16, 16⟩
/-- Register POS_SSN0CRC, POS_SSN1CRC. -/
def POS_SSNCRC (n : Nat) : Fld := ⟨0x9c + 4 * n, 0, 32⟩
def POS_SSNCRC_POLY (n : Nat) : Fld := ⟨0x9c + 4 * n, 0, 16⟩
def POS_SSNCRC_WIDTH (n : Nat) : Fld := ⟨0x9c + 4 * n, 16, 5⟩
def POS_SSNCRC_INIT (n : Nat) : Fld := ⟨0x9c + 4 * n, 21, 1⟩
def POS_SSNCRC_INV (n : Nat) : Fld := ⟨0x9c + 4 * n, 22, 1⟩
/-- Register POS_TRIGCFG. -/
def POS_TRIGCFG : Fld := ⟨0xa4, 0, 32⟩
def POS_TRIGCFG_MINPITCH : Fld := ⟨0xa4, 0, 24⟩
/-- Register POS_TRIGDIST. -/
def POS_TRIGDIST : Fld := ⟨0xa8, 0, 32⟩
/-- Register POS_TRIGSEQ. -/
def POS_TRIGSEQ : Fld := ⟨0xac, 0, 32⟩
/-- Register POS_TRIGPEND. -/
def POS_TRIGPEND : Fld := ⟨0xb0, 0, 32⟩
def POS_TRIGPEND_PENDING : Fld := ⟨0xb0, 0, 12⟩
/-- Register POS_FLTCNT0, POS_FLTCNT1. -/
def POS_FLTCNT (n : Nat) : Fld := ⟨0xb4 + 4 * n, 0, 32⟩
def POS_FLTCNT_EDGE (n : Nat) : Fld := ⟨0xb4 + 4 * n, 0, 16⟩
def POS_FLTCNT_PHASE (n : Nat) : Fld := ⟨0xb4 + 4 * n, 16, 16⟩
/-- Register POS_HALLCNT. -/
def POS_HALLCNT : Fld := ⟨0xbc, 0, 32⟩
def POS_HALLCNT_EDGE : Fld := ⟨0xbc, 0, 16⟩
def POS_HALLCNT_STATE : Fld := ⟨0xbc, 16, 16⟩
/-- Register POS_SSNCNT0, POS_SSNCNT1. -/
def POS_SSNCNT (n : Nat) : Fld := ⟨0xc0 + 4 * n, 0, 32⟩
def POS_SSNCNT_CRC (n : Nat) : Fld := ⟨0xc0 + 4 * n, 0, 16⟩
def POS_SSNCNT_TMO (n : Nat) : Fld := ⟨0xc0 + 4 * n, 16, 16⟩
/-- Register POS_TRIGCNT. -/
def POS_TRIGCNT : Fld := ⟨0xc8, 0, 32⟩
def POS_TRIGCNT_REJ : Fld := ⟨0xc8, 0, 16⟩
def POS_TRIGCNT_OVR : Fld := ⟨0xc8, 16, 16⟩
/-- Register POS_BAR0DIST to POS_BAR7DIST. -/
def POS_BARDIST (n : Nat) : Fld := ⟨0x100 + 8 * n, 0, 32⟩
/-- Register POS_BAR0K to POS_BAR7K. -/
def POS_BARK (n : Nat) : Fld := ⟨0x104 + 8 * n, 0, 32⟩

/-! Fields of the RAST page (spec/07). -/

/-- Register RAST_CTL. -/
def RAST_CTL : Fld := ⟨0x40, 0, 32⟩
def RAST_CTL_NTILES : Fld := ⟨0x40, 0, 5⟩
def RAST_CTL_HIDEWEAK : Fld := ⟨0x40, 5, 1⟩
def RAST_CTL_ONECODE : Fld := ⟨0x40, 6, 2⟩
/-- Register RAST_STAT. -/
def RAST_STAT : Fld := ⟨0x44, 0, 32⟩
def RAST_STAT_DBAR : Fld := ⟨0x44, 0, 12⟩
def RAST_STAT_GEOMOK : Fld := ⟨0x44, 12, 1⟩
def RAST_STAT_GEOMCHK : Fld := ⟨0x44, 16, 3⟩
/-- Register RAST_NTRADDR. -/
def RAST_NTRADDR : Fld := ⟨0x48, 0, 32⟩
def RAST_NTRADDR_COL : Fld := ⟨0x48, 0, 13⟩
def RAST_NTRADDR_ROW : Fld := ⟨0x48, 13, 2⟩
def RAST_NTRADDR_TILE : Fld := ⟨0x48, 15, 5⟩
def RAST_NTRADDR_AUTOINC : Fld := ⟨0x48, 31, 1⟩
/-- Register RAST_NTRDATA. -/
def RAST_NTRDATA : Fld := ⟨0x4c, 0, 32⟩
/-- Register RAST_DROPCNT. -/
def RAST_DROPCNT : Fld := ⟨0x50, 0, 32⟩
def RAST_DROPCNT_SIDE : Fld := ⟨0x50, 0, 16⟩
def RAST_DROPCNT_SLOT : Fld := ⟨0x50, 16, 16⟩
/-- Register RAST_DEADCNT. -/
def RAST_DEADCNT : Fld := ⟨0x54, 0, 32⟩
def RAST_DEADCNT_DEAD : Fld := ⟨0x54, 0, 16⟩
def RAST_DEADCNT_TRANS : Fld := ⟨0x54, 16, 16⟩
/-- Register RAST_XCOL0 to RAST_XCOL21. -/
def RAST_XCOL (n : Nat) : Fld := ⟨0x80 + 4 * n, 0, 32⟩
def RAST_XCOL_XCOL (n : Nat) : Fld := ⟨0x80 + 4 * n, 0, 17⟩
/-- Register RAST_BLEND0 to RAST_BLEND20. -/
def RAST_BLEND (n : Nat) : Fld := ⟨0x100 + 4 * n, 0, 32⟩
def RAST_BLEND_START (n : Nat) : Fld := ⟨0x100 + 4 * n, 0, 11⟩
def RAST_BLEND_WIDTH (n : Nat) : Fld := ⟨0x100 + 4 * n, 16, 11⟩
/-- Register RAST_UOFFt_r. -/
def RAST_UOFF (n : Nat) : Fld := ⟨0x200 + 4 * n, 0, 32⟩
/-- Register RAST_NTADDR. -/
def RAST_NTADDR : Fld := ⟨0x380, 0, 32⟩
def RAST_NTADDR_COL : Fld := ⟨0x380, 0, 13⟩
def RAST_NTADDR_ROW : Fld := ⟨0x380, 13, 2⟩
def RAST_NTADDR_TILE : Fld := ⟨0x380, 15, 5⟩
def RAST_NTADDR_AUTOINC : Fld := ⟨0x380, 31, 1⟩
/-- Register RAST_NTDATA. -/
def RAST_NTDATA : Fld := ⟨0x384, 0, 32⟩
def RAST_NTDATA_HOSTBITS : Fld := ⟨0x384, 0, 16⟩
def RAST_NTDATA_DEVBITS : Fld := ⟨0x384, 16, 16⟩

/-! Fields of the RASTC page (spec/07). -/

/-- Register RAST_DLBASE. -/
def RAST_DLBASE : Fld := ⟨0x40, 0, 32⟩
def RAST_DLBASE_BASE : Fld := ⟨0x40, 0, 5⟩
/-- Register RAST_THRADDR. -/
def RAST_THRADDR : Fld := ⟨0x44, 0, 32⟩
def RAST_THRADDR_WORD : Fld := ⟨0x44, 0, 10⟩
def RAST_THRADDR_AUTOINC : Fld := ⟨0x44, 31, 1⟩
/-- Register RAST_THRDATA. -/
def RAST_THRDATA : Fld := ⟨0x48, 0, 32⟩

/-! Fields of the FIRE page (spec/08). -/

/-- Register FIRE_CTL. -/
def FIRE_CTL : Fld := ⟨0x40, 0, 32⟩
def FIRE_CTL_QLEAD : Fld := ⟨0x40, 0, 9⟩
def FIRE_CTL_IDLEWARM : Fld := ⟨0x40, 9, 1⟩
def FIRE_CTL_PREEN : Fld := ⟨0x40, 10, 1⟩
def FIRE_CTL_LATEMAX : Fld := ⟨0x40, 16, 8⟩
/-- Register FIRE_STAT. -/
def FIRE_STAT : Fld := ⟨0x44, 0, 32⟩
def FIRE_STAT_SPEEDLIM : Fld := ⟨0x44, 0, 1⟩
def FIRE_STAT_HOTANY : Fld := ⟨0x44, 1, 1⟩
def FIRE_STAT_HARDANY : Fld := ⟨0x44, 2, 1⟩
def FIRE_STAT_STALEANY : Fld := ⟨0x44, 3, 1⟩
def FIRE_STAT_NMIN : Fld := ⟨0x44, 4, 3⟩
/-- Register FIRE_HOT, FIRE_HARD. -/
def FIRE_HOT : Fld := ⟨0x48, 0, 32⟩
def FIRE_HOT_TILES : Fld := ⟨0x48, 0, 22⟩
/-- Register FIRE_HOT, FIRE_HARD. -/
def FIRE_HARD : Fld := ⟨0x4c, 0, 32⟩
def FIRE_HARD_TILES : Fld := ⟨0x4c, 0, 22⟩
/-- Register FIRE_FLIGHT0. -/
def FIRE_FLIGHT0 : Fld := ⟨0x50, 0, 32⟩
def FIRE_FLIGHT0_ADV0 : Fld := ⟨0x50, 0, 24⟩
/-- Register FIRE_FLIGHTK. -/
def FIRE_FLIGHTK : Fld := ⟨0x54, 0, 32⟩
def FIRE_FLIGHTK_K : Fld := ⟨0x54, 0, 24⟩
/-- Register FIRE_REFIRE. -/
def FIRE_REFIRE : Fld := ⟨0x58, 0, 32⟩
def FIRE_REFIRE_TICKS : Fld := ⟨0x58, 0, 24⟩
/-- Register FIRE_REFEFF. -/
def FIRE_REFEFF : Fld := ⟨0x5c, 0, 32⟩
def FIRE_REFEFF_TICKS : Fld := ⟨0x5c, 0, 24⟩
/-- Register FIRE_VREF. -/
def FIRE_VREF : Fld := ⟨0x60, 0, 32⟩
def FIRE_VREF_MV : Fld := ⟨0x60, 0, 16⟩
/-- Register FIRE_STEP. -/
def FIRE_STEP : Fld := ⟨0x64, 0, 32⟩
def FIRE_STEP_TSTEP : Fld := ⟨0x64, 0, 16⟩
def FIRE_STEP_VSTEP : Fld := ⟨0x64, 16, 16⟩
/-- Register FIRE_TBLADDR. -/
def FIRE_TBLADDR : Fld := ⟨0x68, 0, 32⟩
def FIRE_TBLADDR_WORD : Fld := ⟨0x68, 0, 7⟩
def FIRE_TBLADDR_AUTOINC : Fld := ⟨0x68, 31, 1⟩
/-- Register FIRE_TBLDATA. -/
def FIRE_TBLDATA : Fld := ⟨0x6c, 0, 32⟩
/-- Register FIRE_SKIPCNT. -/
def FIRE_SKIPCNT : Fld := ⟨0x70, 0, 32⟩
/-- Register FIRE_HOTCNT. -/
def FIRE_HOTCNT : Fld := ⟨0x74, 0, 32⟩
def FIRE_HOTCNT_HOT : Fld := ⟨0x74, 0, 16⟩
def FIRE_HOTCNT_HARD : Fld := ⟨0x74, 16, 16⟩
/-- Register FIRE_TLIM. -/
def FIRE_TLIM : Fld := ⟨0x100, 0, 32⟩
def FIRE_TLIM_THOT : Fld := ⟨0x100, 0, 16⟩
def FIRE_TLIM_THARD : Fld := ⟨0x100, 16, 16⟩
/-- Register FIRE_TLIM2. -/
def FIRE_TLIM2 : Fld := ⟨0x104, 0, 32⟩
def FIRE_TLIM2_THYST : Fld := ⟨0x104, 0, 16⟩
def FIRE_TLIM2_STALE : Fld := ⟨0x104, 16, 16⟩
/-- Register FIRE_PLIM. -/
def FIRE_PLIM : Fld := ⟨0x108, 0, 32⟩
def FIRE_PLIM_MAINMAX : Fld := ⟨0x108, 0, 14⟩
def FIRE_PLIM_PREMAX : Fld := ⟨0x108, 16, 14⟩

/-! Fields of the FIREC page (spec/08 and 11). -/

/-- Register FIRE_CCTL. -/
def FIRE_CCTL : Fld := ⟨0x40, 0, 32⟩
def FIRE_CCTL_CEIL : Fld := ⟨0x40, 0, 18⟩
def FIRE_CCTL_HYST : Fld := ⟨0x40, 24, 8⟩
/-- Register FIRE_PACE. -/
def FIRE_PACE : Fld := ⟨0x44, 0, 32⟩
def FIRE_PACE_INT : Fld := ⟨0x44, 0, 8⟩
def FIRE_PACE_HZN : Fld := ⟨0x44, 8, 8⟩
def FIRE_PACE_LEADT : Fld := ⟨0x44, 16, 8⟩
def FIRE_PACE_HOLD : Fld := ⟨0x44, 24, 8⟩
/-- Register FIRE_DEFCTL. -/
def FIRE_DEFCTL : Fld := ⟨0x48, 0, 32⟩
def FIRE_DEFCTL_EN : Fld := ⟨0x48, 0, 1⟩
def FIRE_DEFCTL_SPILL : Fld := ⟨0x48, 1, 1⟩
def FIRE_DEFCTL_BASIN : Fld := ⟨0x48, 2, 5⟩
def FIRE_DEFCTL_INSPKIND : Fld := ⟨0x48, 8, 8⟩
/-- Register FIRE_INSPDIST. -/
def FIRE_INSPDIST : Fld := ⟨0x4c, 0, 32⟩
/-- Register FIRE_INSPW. -/
def FIRE_INSPW : Fld := ⟨0x50, 0, 32⟩
def FIRE_INSPW_US : Fld := ⟨0x50, 0, 16⟩
/-- Register FIRE_DEFCNT. -/
def FIRE_DEFCNT : Fld := ⟨0x54, 0, 32⟩
/-- Register FIRE_DEFLOST. -/
def FIRE_DEFLOST : Fld := ⟨0x58, 0, 32⟩
/-- Register FIRE_INSPLOST. -/
def FIRE_INSPLOST : Fld := ⟨0x5c, 0, 32⟩
/-- Register FIRE_SBCFG. -/
def FIRE_SBCFG : Fld := ⟨0x60, 0, 32⟩
def FIRE_SBCFG_ARMGAP : Fld := ⟨0x60, 0, 8⟩
def FIRE_SBCFG_SETTLE : Fld := ⟨0x60, 8, 16⟩
def FIRE_SBCFG_RETRYMAX : Fld := ⟨0x60, 24, 4⟩
def FIRE_SBCFG_AUTOSTOP : Fld := ⟨0x60, 28, 1⟩
/-- Register FIRE_SBDIST. -/
def FIRE_SBDIST : Fld := ⟨0x64, 0, 32⟩
def FIRE_SBDIST_DIST : Fld := ⟨0x64, 0, 24⟩
def FIRE_SBDIST_AHEAD : Fld := ⟨0x64, 24, 8⟩
/-- Register FIRE_SBSTAT. -/
def FIRE_SBSTAT : Fld := ⟨0x68, 0, 32⟩
def FIRE_SBSTAT_SBSTATE : Fld := ⟨0x68, 0, 3⟩
def FIRE_SBSTAT_DATAOK : Fld := ⟨0x68, 3, 1⟩
def FIRE_SBSTAT_CAUSE : Fld := ⟨0x68, 4, 3⟩
def FIRE_SBSTAT_WAITBAR : Fld := ⟨0x68, 8, 8⟩
def FIRE_SBSTAT_RETRIES : Fld := ⟨0x68, 16, 4⟩
/-- Register FIRE_SBCMD. -/
def FIRE_SBCMD : Fld := ⟨0x6c, 0, 32⟩
def FIRE_SBCMD_REARM : Fld := ⟨0x6c, 0, 1⟩
/-- Register FIRE_SBCNT. -/
def FIRE_SBCNT : Fld := ⟨0x70, 0, 32⟩
def FIRE_SBCNT_STOPS : Fld := ⟨0x70, 0, 16⟩
def FIRE_SBCNT_RETRY : Fld := ⟨0x70, 16, 16⟩

/-! Fields of the HLTH page (spec/10). -/

/-- Register HLTH_CTL. -/
def HLTH_CTL : Fld := ⟨0x40, 0, 32⟩
def HLTH_CTL_MEASEN : Fld := ⟨0x40, 0, 1⟩
def HLTH_CTL_AUTOSTAT : Fld := ⟨0x40, 1, 1⟩
def HLTH_CTL_AUTOBASE : Fld := ⟨0x40, 2, 1⟩
def HLTH_CTL_AUTORCLASS : Fld := ⟨0x40, 3, 1⟩
/-- Register HLTH_CMD. -/
def HLTH_CMD : Fld := ⟨0x44, 0, 32⟩
def HLTH_CMD_TILE : Fld := ⟨0x44, 0, 5⟩
def HLTH_CMD_ALL : Fld := ⟨0x44, 5, 1⟩
def HLTH_CMD_REBASE : Fld := ⟨0x44, 6, 1⟩
def HLTH_CMD_CLRSUM : Fld := ⟨0x44, 7, 1⟩
/-- Register HLTH_STAT. -/
def HLTH_STAT : Fld := ⟨0x48, 0, 32⟩
def HLTH_STAT_SCANNING : Fld := ⟨0x48, 0, 1⟩
def HLTH_STAT_WARMING : Fld := ⟨0x48, 1, 1⟩
def HLTH_STAT_SUPPLYBAD : Fld := ⟨0x48, 2, 1⟩
/-- Register HLTH_MEASCFG. -/
def HLTH_MEASCFG : Fld := ⟨0x4c, 0, 32⟩
def HLTH_MEASCFG_COUNT : Fld := ⟨0x4c, 0, 7⟩
def HLTH_MEASCFG_AHEAD : Fld := ⟨0x4c, 8, 8⟩
def HLTH_MEASCFG_INT : Fld := ⟨0x4c, 16, 12⟩
def HLTH_MEASCFG_TMO : Fld := ⟨0x4c, 28, 4⟩
/-- Register HLTH_RREF. -/
def HLTH_RREF : Fld := ⟨0x50, 0, 32⟩
def HLTH_RREF_RREF : Fld := ⟨0x50, 0, 16⟩
def HLTH_RREF_TCR : Fld := ⟨0x50, 16, 16⟩
/-- Register HLTH_DRIFT. -/
def HLTH_DRIFT : Fld := ⟨0x54, 0, 32⟩
def HLTH_DRIFT_WARN : Fld := ⟨0x54, 0, 8⟩
def HLTH_DRIFT_WEAK : Fld := ⟨0x54, 8, 8⟩
def HLTH_DRIFT_OUT : Fld := ⟨0x54, 16, 8⟩
def HLTH_DRIFT_CONFN : Fld := ⟨0x54, 24, 4⟩
def HLTH_DRIFT_RFILT : Fld := ⟨0x54, 28, 4⟩
/-- Register HLTH_TNORM. -/
def HLTH_TNORM : Fld := ⟨0x58, 0, 32⟩
def HLTH_TNORM_TNORM : Fld := ⟨0x58, 0, 16⟩
/-- Register HLTH_VWIN. -/
def HLTH_VWIN : Fld := ⟨0x5c, 0, 32⟩
def HLTH_VWIN_VMIN : Fld := ⟨0x5c, 0, 16⟩
def HLTH_VWIN_VMAX : Fld := ⟨0x5c, 16, 16⟩
/-- Register HLTH_WARM. -/
def HLTH_WARM : Fld := ⟨0x60, 0, 32⟩
def HLTH_WARM_LINES : Fld := ⟨0x60, 0, 16⟩
def HLTH_WARM_RESUME : Fld := ⟨0x60, 16, 16⟩
/-- Register HLTH_TREADY. -/
def HLTH_TREADY : Fld := ⟨0x64, 0, 32⟩
def HLTH_TREADY_TREADY : Fld := ⟨0x64, 0, 16⟩
/-- Register HLTH_MEASCNT. -/
def HLTH_MEASCNT : Fld := ⟨0x68, 0, 32⟩
def HLTH_MEASCNT_NOTDONE : Fld := ⟨0x68, 0, 16⟩
def HLTH_MEASCNT_LOST : Fld := ⟨0x68, 16, 16⟩
/-- Register HLTH_SCANCNT. -/
def HLTH_SCANCNT : Fld := ⟨0x6c, 0, 32⟩
/-- Register HLTH_NCNT. -/
def HLTH_NCNT : Fld := ⟨0x70, 0, 32⟩
def HLTH_NCNT_WEAK : Fld := ⟨0x70, 0, 16⟩
def HLTH_NCNT_OUT : Fld := ⟨0x70, 16, 16⟩
/-- Register HLTH_LOGCTL. -/
def HLTH_LOGCTL : Fld := ⟨0x74, 0, 32⟩
def HLTH_LOGCTL_EN : Fld := ⟨0x74, 0, 1⟩
def HLTH_LOGCTL_SPILL : Fld := ⟨0x74, 1, 1⟩
def HLTH_LOGCTL_BASIN : Fld := ⟨0x74, 2, 5⟩
/-- Register HLTH_LOGLOST. -/
def HLTH_LOGLOST : Fld := ⟨0x78, 0, 32⟩
/-- Register HLTH_NADDR. -/
def HLTH_NADDR : Fld := ⟨0x7c, 0, 32⟩
def HLTH_NADDR_COL : Fld := ⟨0x7c, 0, 13⟩
def HLTH_NADDR_ROW : Fld := ⟨0x7c, 13, 2⟩
def HLTH_NADDR_TILE : Fld := ⟨0x7c, 15, 5⟩
def HLTH_NADDR_AUTOINC : Fld := ⟨0x7c, 31, 1⟩
/-- Register HLTH_NDATA. -/
def HLTH_NDATA : Fld := ⟨0x80, 0, 32⟩
def HLTH_NDATA_NF : Fld := ⟨0x80, 0, 16⟩
def HLTH_NDATA_BASE : Fld := ⟨0x80, 16, 16⟩

/-! Fields of the CAMP page (spec/12). -/

/-- Register CAM_PCFG. -/
def CAM_PCFG : Fld := ⟨0x40, 0, 32⟩
def CAM_PCFG_FMT : Fld := ⟨0x40, 0, 2⟩
def CAM_PCFG_PEDGE : Fld := ⟨0x40, 2, 1⟩
def CAM_PCFG_FVINV : Fld := ⟨0x40, 3, 1⟩
def CAM_PCFG_LVINV : Fld := ⟨0x40, 4, 1⟩
def CAM_PCFG_DVEN : Fld := ⟨0x40, 5, 1⟩
def CAM_PCFG_DVINV : Fld := ⟨0x40, 6, 1⟩
def CAM_PCFG_FRMODE : Fld := ⟨0x40, 7, 1⟩
def CAM_PCFG_PRIO : Fld := ⟨0x40, 8, 1⟩
/-- Register CAM_WIDTH. -/
def CAM_WIDTH : Fld := ⟨0x44, 0, 32⟩
def CAM_WIDTH_WIDTH : Fld := ⟨0x44, 0, 15⟩
def CAM_WIDTH_FRLINES : Fld := ⟨0x44, 16, 16⟩
/-- Register CAM_PSTAT. -/
def CAM_PSTAT : Fld := ⟨0x48, 0, 32⟩
def CAM_PSTAT_PSTATE : Fld := ⟨0x48, 0, 2⟩
def CAM_PSTAT_PCLKOK : Fld := ⟨0x48, 2, 1⟩
def CAM_PSTAT_STORED : Fld := ⟨0x48, 8, 8⟩
def CAM_PSTAT_FRAMELO : Fld := ⟨0x48, 16, 16⟩
/-- Register CAM_TRIG. -/
def CAM_TRIG : Fld := ⟨0x4c, 0, 32⟩
def CAM_TRIG_TMODE : Fld := ⟨0x4c, 0, 2⟩
def CAM_TRIG_EXPMODE : Fld := ⟨0x4c, 2, 1⟩
def CAM_TRIG_TINV : Fld := ⟨0x4c, 3, 1⟩
def CAM_TRIG_GAP : Fld := ⟨0x4c, 8, 8⟩
/-- Register CAM_EXP. -/
def CAM_EXP : Fld := ⟨0x50, 0, 32⟩
def CAM_EXP_EXP : Fld := ⟨0x50, 0, 24⟩
/-- Register CAM_PITCH. -/
def CAM_PITCH : Fld := ⟨0x54, 0, 32⟩
def CAM_PITCH_PITCH : Fld := ⟨0x54, 0, 24⟩
/-- Register CAM_PERIOD. -/
def CAM_PERIOD : Fld := ⟨0x58, 0, 32⟩
def CAM_PERIOD_PERIOD : Fld := ⟨0x58, 0, 24⟩
/-- Register CAM_DIST. -/
def CAM_DIST : Fld := ⟨0x5c, 0, 32⟩
/-- Register CAM_K. -/
def CAM_K : Fld := ⟨0x60, 0, 32⟩
/-- Register CAM_SWTRIG. -/
def CAM_SWTRIG : Fld := ⟨0x64, 0, 32⟩
def CAM_SWTRIG_GO : Fld := ⟨0x64, 0, 1⟩
/-- Register CAM_TAP. -/
def CAM_TAP : Fld := ⟨0x68, 0, 32⟩
def CAM_TAP_POINT : Fld := ⟨0x68, 0, 2⟩
def CAM_TAP_DEC : Fld := ⟨0x68, 2, 4⟩
def CAM_TAP_BASIN : Fld := ⟨0x68, 8, 5⟩
/-- Register CAM_DROP. -/
def CAM_DROP : Fld := ⟨0x6c, 0, 32⟩
def CAM_DROP_LINES : Fld := ⟨0x6c, 0, 16⟩
def CAM_DROP_TAP : Fld := ⟨0x6c, 16, 16⟩
/-- Register CAM_ERR. -/
def CAM_ERR : Fld := ⟨0x70, 0, 32⟩
def CAM_ERR_PROTO : Fld := ⟨0x70, 0, 16⟩
def CAM_ERR_LENERR : Fld := ⟨0x70, 16, 16⟩
/-- Register CAM_TRIGCNT. -/
def CAM_TRIGCNT : Fld := ⟨0x74, 0, 32⟩
def CAM_TRIGCNT_SKIP : Fld := ⟨0x74, 0, 16⟩
def CAM_TRIGCNT_UNTRIG : Fld := ⟨0x74, 16, 16⟩

/-! Fields of the CAMI page (spec/12). -/

/-- Register CAM_PCTL_p. -/
def CAM_PCTL (n : Nat) : Fld := ⟨0x40 + 64 * n, 0, 32⟩
def CAM_PCTL_BYP (n : Nat) : Fld := ⟨0x40 + 64 * n, 0, 6⟩
/-- Register CAM_BLACK_p. -/
def CAM_BLACK (n : Nat) : Fld := ⟨0x44 + 64 * n, 0, 32⟩
def CAM_BLACK_B0 (n : Nat) : Fld := ⟨0x44 + 64 * n, 0, 10⟩
def CAM_BLACK_B1 (n : Nat) : Fld := ⟨0x44 + 64 * n, 10, 10⟩
def CAM_BLACK_B2 (n : Nat) : Fld := ⟨0x44 + 64 * n, 20, 10⟩
/-- Register CAM_WB01_p. -/
def CAM_WB01 (n : Nat) : Fld := ⟨0x48 + 64 * n, 0, 32⟩
def CAM_WB01_WB0 (n : Nat) : Fld := ⟨0x48 + 64 * n, 0, 16⟩
def CAM_WB01_WB1 (n : Nat) : Fld := ⟨0x48 + 64 * n, 16, 16⟩
/-- Register CAM_WB2_p. -/
def CAM_WB2 (n : Nat) : Fld := ⟨0x4c + 64 * n, 0, 32⟩
def CAM_WB2_WB2 (n : Nat) : Fld := ⟨0x4c + 64 * n, 0, 16⟩
/-- Register CAM_MAT0_p. -/
def CAM_MAT0 (n : Nat) : Fld := ⟨0x50 + 64 * n, 0, 32⟩
def CAM_MAT0_LO (n : Nat) : Fld := ⟨0x50 + 64 * n, 0, 16⟩
def CAM_MAT0_HI (n : Nat) : Fld := ⟨0x50 + 64 * n, 16, 16⟩
/-- Register CAM_MAT1_p. -/
def CAM_MAT1 (n : Nat) : Fld := ⟨0x54 + 64 * n, 0, 32⟩
def CAM_MAT1_LO (n : Nat) : Fld := ⟨0x54 + 64 * n, 0, 16⟩
def CAM_MAT1_HI (n : Nat) : Fld := ⟨0x54 + 64 * n, 16, 16⟩
/-- Register CAM_MAT2_p. -/
def CAM_MAT2 (n : Nat) : Fld := ⟨0x58 + 64 * n, 0, 32⟩
def CAM_MAT2_LO (n : Nat) : Fld := ⟨0x58 + 64 * n, 0, 16⟩
def CAM_MAT2_HI (n : Nat) : Fld := ⟨0x58 + 64 * n, 16, 16⟩
/-- Register CAM_MAT3_p. -/
def CAM_MAT3 (n : Nat) : Fld := ⟨0x5c + 64 * n, 0, 32⟩
def CAM_MAT3_LO (n : Nat) : Fld := ⟨0x5c + 64 * n, 0, 16⟩
def CAM_MAT3_HI (n : Nat) : Fld := ⟨0x5c + 64 * n, 16, 16⟩
/-- Register CAM_MAT4_p. -/
def CAM_MAT4 (n : Nat) : Fld := ⟨0x60 + 64 * n, 0, 32⟩
def CAM_MAT4_LO (n : Nat) : Fld := ⟨0x60 + 64 * n, 0, 16⟩
/-- Register CAM_TBLADDR. -/
def CAM_TBLADDR : Fld := ⟨0x100, 0, 32⟩
def CAM_TBLADDR_INDEX : Fld := ⟨0x100, 0, 16⟩
def CAM_TBLADDR_TABLE : Fld := ⟨0x100, 16, 3⟩
def CAM_TBLADDR_PORT : Fld := ⟨0x100, 19, 1⟩
def CAM_TBLADDR_AUTOINC : Fld := ⟨0x100, 31, 1⟩
/-- Register CAM_TBLDATA. -/
def CAM_TBLDATA : Fld := ⟨0x104, 0, 32⟩
def CAM_TBLDATA_ENTRY : Fld := ⟨0x104, 0, 16⟩
/-- Register CAM_TBLSWAP. -/
def CAM_TBLSWAP : Fld := ⟨0x108, 0, 32⟩
def CAM_TBLSWAP_SWAPA : Fld := ⟨0x108, 0, 1⟩
def CAM_TBLSWAP_SWAPB : Fld := ⟨0x108, 1, 1⟩
def CAM_TBLSWAP_PENDA : Fld := ⟨0x108, 2, 1⟩
def CAM_TBLSWAP_PENDB : Fld := ⟨0x108, 3, 1⟩
/-- Register CAM_LOAD. -/
def CAM_LOAD : Fld := ⟨0x10c, 0, 32⟩
def CAM_LOAD_MPXS : Fld := ⟨0x10c, 0, 16⟩
def CAM_LOAD_PEAK : Fld := ⟨0x10c, 16, 16⟩

/-! Fields of the CAMS page (spec/12). -/

/-- Register CAM_STATCTL. -/
def CAM_STATCTL : Fld := ⟨0x40, 0, 32⟩
def CAM_STATCTL_SPILL : Fld := ⟨0x40, 0, 1⟩
def CAM_STATCTL_BASIN : Fld := ⟨0x40, 1, 5⟩
/-- Register CAM_STATCNT. -/
def CAM_STATCNT : Fld := ⟨0x44, 0, 32⟩
def CAM_STATCNT_RECORDS : Fld := ⟨0x44, 0, 16⟩
def CAM_STATCNT_LOST : Fld := ⟨0x44, 16, 16⟩
/-- Register CAM_WIN0 to CAM_WIN63. -/
def CAM_WIN (n : Nat) : Fld := ⟨0x100 + 8 * n, 0, 32⟩
def CAM_WIN_ARM (n : Nat) : Fld := ⟨0x100 + 8 * n, 0, 1⟩
def CAM_WIN_PORT (n : Nat) : Fld := ⟨0x100 + 8 * n, 1, 1⟩
def CAM_WIN_LOOP (n : Nat) : Fld := ⟨0x100 + 8 * n, 2, 1⟩
def CAM_WIN_CELLS (n : Nat) : Fld := ⟨0x100 + 8 * n, 4, 8⟩
def CAM_WIN_CELLW (n : Nat) : Fld := ⟨0x100 + 8 * n, 16, 12⟩
/-- Register CAM_WCOL0 to CAM_WCOL63. -/
def CAM_WCOL (n : Nat) : Fld := ⟨0x104 + 8 * n, 0, 32⟩
def CAM_WCOL_COLSTART (n : Nat) : Fld := ⟨0x104 + 8 * n, 0, 15⟩

/-! Fields of the LOOP page (spec/13). -/

/-- Register LOOP_CTL. -/
def LOOP_CTL : Fld := ⟨0x40, 0, 32⟩
def LOOP_CTL_BARS : Fld := ⟨0x40, 0, 8⟩
def LOOP_CTL_TMODE : Fld := ⟨0x40, 8, 2⟩
def LOOP_CTL_AUTOSTAT : Fld := ⟨0x40, 10, 1⟩
def LOOP_CTL_LEARNN : Fld := ⟨0x40, 12, 4⟩
/-- Register LOOP_CMD. -/
def LOOP_CMD : Fld := ⟨0x44, 0, 32⟩
def LOOP_CMD_HOLD : Fld := ⟨0x44, 0, 1⟩
def LOOP_CMD_RELEARN : Fld := ⟨0x44, 1, 1⟩
def LOOP_CMD_RESETINT : Fld := ⟨0x44, 2, 1⟩
def LOOP_CMD_REBASE : Fld := ⟨0x44, 3, 1⟩
/-- Register LOOP_STAT. -/
def LOOP_STAT : Fld := ⟨0x48, 0, 32⟩
def LOOP_STAT_LSTATE : Fld := ⟨0x48, 0, 2⟩
def LOOP_STAT_CFGERR : Fld := ⟨0x48, 2, 1⟩
def LOOP_STAT_HOLDWHY : Fld := ⟨0x48, 8, 8⟩
/-- Register LOOP_STRIP. -/
def LOOP_STRIP : Fld := ⟨0x4c, 0, 32⟩
def LOOP_STRIP_PITCH : Fld := ⟨0x4c, 0, 24⟩
/-- Register LOOP_STRIPOFS. -/
def LOOP_STRIPOFS : Fld := ⟨0x50, 0, 32⟩
/-- Register LOOP_PATCH. -/
def LOOP_PATCH : Fld := ⟨0x54, 0, 32⟩
def LOOP_PATCH_PLINES : Fld := ⟨0x54, 0, 8⟩
def LOOP_PATCH_NSTEP : Fld := ⟨0x54, 8, 2⟩
def LOOP_PATCH_CTRLSTEP : Fld := ⟨0x54, 10, 2⟩
def LOOP_PATCH_PV0 : Fld := ⟨0x54, 12, 2⟩
def LOOP_PATCH_PV1 : Fld := ⟨0x54, 14, 2⟩
def LOOP_PATCH_PV2 : Fld := ⟨0x54, 16, 2⟩
def LOOP_PATCH_INSET : Fld := ⟨0x54, 24, 8⟩
/-- Register LOOP_CAMCOLA. -/
def LOOP_CAMCOLA : Fld := ⟨0x58, 0, 32⟩
/-- Register LOOP_CAMSCLA. -/
def LOOP_CAMSCLA : Fld := ⟨0x5c, 0, 32⟩
def LOOP_CAMSCLA_SCALE : Fld := ⟨0x5c, 0, 24⟩
def LOOP_CAMSCLA_CELLW : Fld := ⟨0x5c, 24, 4⟩
/-- Register LOOP_CAMCOLB. -/
def LOOP_CAMCOLB : Fld := ⟨0x60, 0, 32⟩
/-- Register LOOP_CAMSCLB. -/
def LOOP_CAMSCLB : Fld := ⟨0x64, 0, 32⟩
def LOOP_CAMSCLB_SCALE : Fld := ⟨0x64, 0, 24⟩
def LOOP_CAMSCLB_CELLW : Fld := ⟨0x64, 24, 4⟩
/-- Register LOOP_WINCFG. -/
def LOOP_WINCFG : Fld := ⟨0x68, 0, 32⟩
def LOOP_WINCFG_WINBASE : Fld := ⟨0x68, 0, 6⟩
def LOOP_WINCFG_NWINA : Fld := ⟨0x68, 8, 6⟩
def LOOP_WINCFG_NWINB : Fld := ⟨0x68, 16, 6⟩
/-- Register LOOP_GAIN. -/
def LOOP_GAIN : Fld := ⟨0x6c, 0, 32⟩
def LOOP_GAIN_KI : Fld := ⟨0x6c, 0, 16⟩
def LOOP_GAIN_DEAD : Fld := ⟨0x6c, 16, 8⟩
def LOOP_GAIN_STEP : Fld := ⟨0x6c, 24, 8⟩
/-- Register LOOP_LIM. -/
def LOOP_LIM : Fld := ⟨0x70, 0, 32⟩
def LOOP_LIM_TOTAL : Fld := ⟨0x70, 0, 8⟩
def LOOP_LIM_WEAKERR : Fld := ⟨0x70, 8, 8⟩
def LOOP_LIM_OUTERR : Fld := ⟨0x70, 16, 8⟩
def LOOP_LIM_PROMN : Fld := ⟨0x70, 24, 4⟩
/-- Register LOOP_HOLDCFG. -/
def LOOP_HOLDCFG : Fld := ⟨0x74, 0, 32⟩
def LOOP_HOLDCFG_ACCMAX : Fld := ⟨0x74, 0, 16⟩
/-- Register LOOP_CNT. -/
def LOOP_CNT : Fld := ⟨0x78, 0, 32⟩
def LOOP_CNT_STALE : Fld := ⟨0x78, 0, 16⟩
def LOOP_CNT_DISCARD : Fld := ⟨0x78, 16, 16⟩
/-- Register LOOP_PROMCNT. -/
def LOOP_PROMCNT : Fld := ⟨0x7c, 0, 32⟩
def LOOP_PROMCNT_WEAK : Fld := ⟨0x7c, 0, 16⟩
def LOOP_PROMCNT_OUT : Fld := ⟨0x7c, 16, 16⟩
/-- Register LOOP_TGT0 to LOOP_TGT7. -/
def LOOP_TGT (n : Nat) : Fld := ⟨0x80 + 4 * n, 0, 32⟩
def LOOP_TGT_TGT (n : Nat) : Fld := ⟨0x80 + 4 * n, 0, 12⟩
def LOOP_TGT_CH (n : Nat) : Fld := ⟨0x80 + 4 * n, 12, 2⟩
/-- Register LOOP_LOGCTL. -/
def LOOP_LOGCTL : Fld := ⟨0xa0, 0, 32⟩
def LOOP_LOGCTL_EN : Fld := ⟨0xa0, 0, 1⟩
def LOOP_LOGCTL_SPILL : Fld := ⟨0xa0, 1, 1⟩
def LOOP_LOGCTL_BASIN : Fld := ⟨0xa0, 2, 5⟩
/-- Register LOOP_LOGLOST. -/
def LOOP_LOGLOST : Fld := ⟨0xa4, 0, 32⟩

/-! Fields of the TWIN page (spec/17). -/

/-- Register TWIN_STAT. -/
def TWIN_STAT : Fld := ⟨0x40, 0, 32⟩
def TWIN_STAT_TSTATE : Fld := ⟨0x40, 0, 3⟩
def TWIN_STAT_INSTEP : Fld := ⟨0x40, 3, 1⟩
def TWIN_STAT_LANE0 : Fld := ⟨0x40, 4, 1⟩
def TWIN_STAT_LANE1 : Fld := ⟨0x40, 5, 1⟩
def TWIN_STAT_HBLINK : Fld := ⟨0x40, 6, 1⟩
def TWIN_STAT_HBPIN : Fld := ⟨0x40, 7, 1⟩
def TWIN_STAT_SLUICEIN : Fld := ⟨0x40, 8, 1⟩
def TWIN_STAT_SLUICEOUT : Fld := ⟨0x40, 9, 1⟩
def TWIN_STAT_PEERROLE : Fld := ⟨0x40, 10, 2⟩
def TWIN_STAT_PAIRFAULT : Fld := ⟨0x40, 12, 4⟩
/-- Register TWIN_EPOCH. -/
def TWIN_EPOCH : Fld := ⟨0x44, 0, 32⟩
/-- Register TWIN_HBCFG. -/
def TWIN_HBCFG : Fld := ⟨0x48, 0, 32⟩
def TWIN_HBCFG_PERIOD : Fld := ⟨0x48, 0, 5⟩
def TWIN_HBCFG_MISS : Fld := ⟨0x48, 8, 4⟩
/-- Register TWIN_HLTHCFG. -/
def TWIN_HLTHCFG : Fld := ⟨0x4c, 0, 32⟩
def TWIN_HLTHCFG_PERIOD : Fld := ⟨0x4c, 0, 16⟩
def TWIN_HLTHCFG_STEPN : Fld := ⟨0x4c, 16, 8⟩
/-- Register TWIN_MISCNT. -/
def TWIN_MISCNT : Fld := ⟨0x50, 0, 32⟩
/-- Register TWIN_HBCNT. -/
def TWIN_HBCNT : Fld := ⟨0x54, 0, 32⟩
def TWIN_HBCNT_LINK : Fld := ⟨0x54, 0, 16⟩
def TWIN_HBCNT_PIN : Fld := ⟨0x54, 16, 16⟩
/-- Register TWIN_TAKECNT. -/
def TWIN_TAKECNT : Fld := ⟨0x58, 0, 32⟩
def TWIN_TAKECNT_TAKE : Fld := ⟨0x58, 0, 16⟩
def TWIN_TAKECNT_DECL : Fld := ⟨0x58, 16, 16⟩
/-- Register TWIN_LINKERR. -/
def TWIN_LINKERR : Fld := ⟨0x5c, 0, 32⟩
def TWIN_LINKERR_CRC : Fld := ⟨0x5c, 0, 16⟩
def TWIN_LINKERR_GAP : Fld := ⟨0x5c, 16, 16⟩
/-- Register TWIN_HEALTH0. -/
def TWIN_HEALTH0 : Fld := ⟨0x60, 0, 32⟩
/-- Register TWIN_HEALTH1. -/
def TWIN_HEALTH1 : Fld := ⟨0x64, 0, 32⟩
def TWIN_HEALTH1_SUMBAD : Fld := ⟨0x64, 0, 16⟩
def TWIN_HEALTH1_UNMATCHED : Fld := ⟨0x64, 16, 16⟩
/-- Register TWIN_HEALTH2. -/
def TWIN_HEALTH2 : Fld := ⟨0x68, 0, 32⟩
def TWIN_HEALTH2_TILEPRBS : Fld := ⟨0x68, 0, 16⟩
def TWIN_HEALTH2_TWINPRBS : Fld := ⟨0x68, 16, 16⟩
/-- Register TWIN_HEALTH3. -/
def TWIN_HEALTH3 : Fld := ⟨0x6c, 0, 32⟩
def TWIN_HEALTH3_MASK : Fld := ⟨0x6c, 0, 8⟩
def TWIN_HEALTH3_DRAMCORR : Fld := ⟨0x6c, 8, 8⟩
def TWIN_HEALTH3_SRAMCORR : Fld := ⟨0x6c, 16, 8⟩
/-- Register TWIN_CFG. -/
def TWIN_CFG : Fld := ⟨0x80, 0, 32⟩
def TWIN_CFG_SOLO : Fld := ⟨0x80, 0, 1⟩
def TWIN_CFG_MIRLINES : Fld := ⟨0x80, 8, 8⟩
def TWIN_CFG_SLUICEWAIT : Fld := ⟨0x80, 16, 16⟩
/-- Register TWIN_CMD. -/
def TWIN_CMD : Fld := ⟨0x84, 0, 32⟩
def TWIN_CMD_HANDOVER : Fld := ⟨0x84, 0, 1⟩
def TWIN_CMD_ALIGN : Fld := ⟨0x84, 1, 1⟩

/-! Fields of the PIO page (spec/21). -/

/-- Register PIO_IN. -/
def PIO_IN : Fld := ⟨0x40, 0, 32⟩
def PIO_IN_LEVEL : Fld := ⟨0x40, 0, 16⟩
def PIO_IN_RAW : Fld := ⟨0x40, 16, 16⟩
/-- Register PIO_OUT. -/
def PIO_OUT : Fld := ⟨0x44, 0, 32⟩
def PIO_OUT_LEVEL : Fld := ⟨0x44, 0, 16⟩
def PIO_OUT_PIN : Fld := ⟨0x44, 16, 16⟩
/-- Register PIO_DRIVE. -/
def PIO_DRIVE : Fld := ⟨0x48, 0, 32⟩
def PIO_DRIVE_DRIVEN : Fld := ⟨0x48, 0, 16⟩
def PIO_DRIVE_LEVEL : Fld := ⟨0x48, 16, 16⟩
/-- Register PIO_IMAP. -/
def PIO_IMAP : Fld := ⟨0x4c, 0, 32⟩
def PIO_IMAP_STOPIN : Fld := ⟨0x4c, 0, 4⟩
def PIO_IMAP_STOPEN : Fld := ⟨0x4c, 4, 1⟩
def PIO_IMAP_TRIG : Fld := ⟨0x4c, 8, 4⟩
def PIO_IMAP_TRIGEN : Fld := ⟨0x4c, 12, 1⟩
def PIO_IMAP_WEBRDY : Fld := ⟨0x4c, 16, 4⟩
def PIO_IMAP_WEBEN : Fld := ⟨0x4c, 20, 1⟩
/-- Register PIO_GLITCH. -/
def PIO_GLITCH : Fld := ⟨0x50, 0, 32⟩
/-- Register PIO_ICFG0 to PIO_ICFG15. -/
def PIO_ICFG (n : Nat) : Fld := ⟨0x80 + 4 * n, 0, 32⟩
def PIO_ICFG_FILT (n : Nat) : Fld := ⟨0x80 + 4 * n, 0, 16⟩
def PIO_ICFG_INV (n : Nat) : Fld := ⟨0x80 + 4 * n, 16, 1⟩
def PIO_ICFG_EVEDGE (n : Nat) : Fld := ⟨0x80 + 4 * n, 17, 1⟩
/-- Register PIO_OCFG0 to PIO_OCFG15. -/
def PIO_OCFG (n : Nat) : Fld := ⟨0xc0 + 4 * n, 0, 32⟩
def PIO_OCFG_SRC (n : Nat) : Fld := ⟨0xc0 + 4 * n, 0, 4⟩
def PIO_OCFG_INV (n : Nat) : Fld := ⟨0xc0 + 4 * n, 4, 1⟩

/-! Fields of the TLNK page (spec/09). -/

/-- Register TLNK_CTL. -/
def TLNK_CTL : Fld := ⟨0x40, 0, 32⟩
def TLNK_CTL_MAXRATE : Fld := ⟨0x40, 0, 2⟩
def TLNK_CTL_BRINGUP : Fld := ⟨0x40, 3, 1⟩
def TLNK_CTL_IDLEPRBS : Fld := ⟨0x40, 4, 1⟩
def TLNK_CTL_ADAPT : Fld := ⟨0x40, 5, 2⟩
def TLNK_CTL_RXINV : Fld := ⟨0x40, 7, 1⟩
def TLNK_CTL_TXINV : Fld := ⟨0x40, 8, 1⟩
def TLNK_CTL_RETRY : Fld := ⟨0x40, 16, 4⟩
/-- Register TLNK_STAT. -/
def TLNK_STAT : Fld := ⟨0x44, 0, 32⟩
def TLNK_STAT_LSTATE : Fld := ⟨0x44, 0, 4⟩
def TLNK_STAT_RATE : Fld := ⟨0x44, 4, 2⟩
def TLNK_STAT_LOCK : Fld := ⟨0x44, 6, 1⟩
def TLNK_STAT_END : Fld := ⟨0x44, 7, 1⟩
def TLNK_STAT_LEAD : Fld := ⟨0x44, 8, 1⟩
def TLNK_STAT_NTILES : Fld := ⟨0x44, 9, 3⟩
def TLNK_STAT_NFIT : Fld := ⟨0x44, 12, 3⟩
def TLNK_STAT_BREAKHOP : Fld := ⟨0x44, 15, 3⟩
def TLNK_STAT_HEALED : Fld := ⟨0x44, 18, 1⟩
/-- Register TLNK_TRAIN. -/
def TLNK_TRAIN : Fld := ⟨0x48, 0, 32⟩
def TLNK_TRAIN_PRBSMS : Fld := ⟨0x48, 0, 8⟩
def TLNK_TRAIN_ERRMAX : Fld := ⟨0x48, 8, 8⟩
def TLNK_TRAIN_FOMMIN : Fld := ⟨0x48, 16, 8⟩
/-- Register TLNK_TIMECFG. -/
def TLNK_TIMECFG : Fld := ⟨0x4c, 0, 32⟩
def TLNK_TIMECFG_SYNCINT : Fld := ⟨0x4c, 0, 8⟩
def TLNK_TIMECFG_PROBEINT : Fld := ⟨0x4c, 8, 8⟩
/-- Register TLNK_LAT. -/
def TLNK_LAT : Fld := ⟨0x50, 0, 32⟩
def TLNK_LAT_TXLAT : Fld := ⟨0x50, 0, 16⟩
def TLNK_LAT_RXLAT : Fld := ⟨0x50, 16, 16⟩
/-- Register TLNK_CRCERR. -/
def TLNK_CRCERR : Fld := ⟨0x54, 0, 32⟩
/-- Register TLNK_PRBSERR. -/
def TLNK_PRBSERR : Fld := ⟨0x58, 0, 32⟩
/-- Register TLNK_LOCKCNT. -/
def TLNK_LOCKCNT : Fld := ⟨0x5c, 0, 32⟩
def TLNK_LOCKCNT_LOSS : Fld := ⟨0x5c, 0, 16⟩
def TLNK_LOCKCNT_RATEFAIL : Fld := ⟨0x5c, 16, 16⟩
/-- Register TLNK_FOM. -/
def TLNK_FOM : Fld := ⟨0x60, 0, 32⟩
def TLNK_FOM_FOM : Fld := ⟨0x60, 0, 8⟩
def TLNK_FOM_MINFOM : Fld := ⟨0x60, 8, 8⟩
/-- Register TLNK_DISC. -/
def TLNK_DISC : Fld := ⟨0x64, 0, 32⟩
def TLNK_DISC_OTHER : Fld := ⟨0x64, 0, 16⟩
def TLNK_DISC_MISSING : Fld := ⟨0x64, 16, 16⟩
/-- Register TLNK_RETX. -/
def TLNK_RETX : Fld := ⟨0x68, 0, 32⟩
/-- Register TLNK_EQ. -/
def TLNK_EQ : Fld := ⟨0x6c, 0, 32⟩
def TLNK_EQ_PRE : Fld := ⟨0x6c, 0, 4⟩
def TLNK_EQ_POST : Fld := ⟨0x6c, 4, 6⟩
def TLNK_EQ_SWING : Fld := ⟨0x6c, 12, 4⟩

end R

end Sys2Proof.Machine
end

