-- ==== Sys2Proof/Config.lean ====
section
/-!
DEFINITION. What the spec leaves open: free values, constants without a body. The state's counter
`free` picks a fresh one each time (log entry 4).
-/
namespace Sys2Proof

/-- A value drawn from the on-die random source: the nonce N_d of CHALLENGE (02, handshake step 2). -/
opaque Config.freeNonce : Nat → BitVec 128

/-- The coded bits of a compressor block: R262 fixes the block's type and the search effort, and not the encoder's
choices. -/
opaque Config.freeBlockBits : Nat → BitVec 32

/-- One word of the private state record that SAVE writes (R272). -/
opaque Config.freeSaveWord : Nat → BitVec 32

/-- A datum of any width up to 128 bits that the spec says exists and does not fix. -/
opaque Config.freeWord : Nat → BitVec 128

end Sys2Proof
end

