-- ==== Sys2Proof/Machine/RegTable.lean ====
section
/-!
DEFINITION. The registers of every page, transcribed from the register headings and field tables of
spec/01 to spec/21: offset, apply class (R79), reset value and the bits of each access type. The header
registers of R38 are not in these lists: every page has them.
-/
namespace Sys2Proof.Machine

/-- The apply classes of PG_APPLY.CLASS (R79). -/
inductive ApplyClass where
  | imm | line | band | frame | period | job
  deriving DecidableEq, Repr

/-- The code of an apply class in PG_APPLY.CLASS. -/
def ApplyClass.code : ApplyClass → Nat
  | .imm => 0 | .line => 1 | .band => 2 | .frame => 3 | .period => 4 | .job => 5

/-- The class that a code of PG_APPLY.CLASS names; 6 and 7 are reserved (R707). -/
def ApplyClass.ofCode : Nat → Option ApplyClass
  | 0 => some .imm | 1 => some .line | 2 => some .band | 3 => some .frame | 4 => some .period
  | 5 => some .job | _ => none

/-- The kinds of register page (R36). -/
inductive PageKind where
  | sys
  | priv
  | weir
  | thrm
  | hlnk
  | yrt
  | basn
  | basnw
  | time
  | ptpa
  | chk
  | dfl
  | cmp
  | dcp
  | dram
  | sc
  | pos
  | rast
  | rastc
  | fire
  | firec
  | hlth
  | camp
  | cami
  | cams
  | loop
  | twin
  | pio
  | tlnk
  deriving DecidableEq, Repr

/-- One register, or an array of `count` registers `stride` bytes apart. The masks give the bits of
each writable access type; bits in no mask ignore a write (RO, HS, SQC, reserved; R34). -/
structure RegDef where
  off : Nat
  count : Nat
  stride : Nat
  cls : ApplyClass
  reset : Nat
  rw : Nat
  rws : Nat
  cnt : Nat
  cmd : Nat
  deriving DecidableEq, Repr


/-- The registers of the SYS page (spec/20 and 01). -/
def regsSYS : List RegDef := [
  -- SYS_CAP
  ⟨0x40, 1, 4, .imm, 0x118, 0x0, 0x0, 0x0, 0x0⟩,
  -- SYS_STRAP
  ⟨0x44, 1, 4, .imm, 0x0, 0x0, 0x0, 0x0, 0x0⟩,
  -- SYS_STATE
  ⟨0x48, 1, 4, .imm, 0x31, 0x0, 0x0, 0xff0000, 0x0⟩,
  -- SYS_START
  ⟨0x4c, 1, 4, .imm, 0x1, 0x0, 0x0, 0x0, 0x0⟩,
  -- SYS_RSTCNT
  ⟨0x50, 1, 4, .imm, 0x10000, 0x0, 0x0, 0xffff, 0x0⟩,
  -- SYS_VCORE
  ⟨0x54, 1, 4, .imm, 0x320, 0x0, 0x0, 0x0, 0x0⟩,
  -- SYS_IOUT
  ⟨0x58, 1, 4, .imm, 0x0, 0x0, 0x0, 0x0, 0x0⟩,
  -- SYS_AVSCFG
  ⟨0x5c, 1, 4, .imm, 0x40200a0b, 0xffffff1f, 0x0, 0x0, 0x0⟩,
  -- SYS_PMBCFG
  ⟨0x60, 1, 4, .imm, 0x140, 0x1ff, 0x0, 0x0, 0x0⟩,
  -- SYS_PMBCNT
  ⟨0x64, 1, 4, .imm, 0x0, 0x0, 0x0, 0xffffffff, 0x0⟩,
  -- SYS_SVCERR
  ⟨0xc0, 1, 4, .imm, 0x0, 0x0, 0x0, 0xffffffff, 0x0⟩,
  -- SYS_AVSOVR
  ⟨0x100, 1, 4, .imm, 0x320, 0x800003ff, 0x0, 0x0, 0x0⟩]

/-- The registers of the PRIV page (spec/02). -/
def regsPRIV : List RegDef := [
  -- PRIV_MASTER
  ⟨0x40, 1, 4, .imm, 0x0, 0x0, 0x0, 0x0, 0x0⟩,
  -- PRIV_SESSIONS
  ⟨0x44, 1, 4, .imm, 0x0, 0x0, 0x0, 0x0, 0x0⟩,
  -- PRIV_REFUSED
  ⟨0x48, 1, 4, .imm, 0x0, 0x0, 0x0, 0xffffffff, 0x0⟩,
  -- PRIV_AUTHFAIL
  ⟨0x4c, 1, 4, .imm, 0x0, 0x0, 0x0, 0xffff, 0x0⟩,
  -- PRIV_OTPLEFT
  ⟨0x50, 1, 4, .imm, 0x8202010, 0x0, 0x0, 0x0, 0x0⟩,
  -- PRIV_AUDITSTAT
  ⟨0x54, 1, 4, .imm, 0x0, 0x0, 0x0, 0x0, 0x0⟩,
  -- PRIV_AUDITSEQ
  ⟨0x58, 1, 4, .imm, 0x0, 0x0, 0x0, 0x0, 0x0⟩,
  -- PRIV_AUDITLOST
  ⟨0x5c, 1, 4, .imm, 0x0, 0x0, 0x0, 0xffffffff, 0x0⟩,
  -- PRIV_OTPCMD
  ⟨0x80, 1, 4, .imm, 0x0, 0xf, 0x0, 0x0, 0x10⟩,
  -- PRIV_OTPSTAT
  ⟨0x84, 1, 4, .imm, 0x0, 0x0, 0x0, 0x0, 0x0⟩,
  -- PRIV_PAIRSTG
  ⟨0x88, 1, 4, .imm, 0x0, 0xffffffff, 0x0, 0x0, 0x0⟩,
  -- PRIV_BARSTG
  ⟨0x8c, 1, 4, .imm, 0x0, 0xffffffff, 0x0, 0x0, 0x0⟩,
  -- PRIV_AUDITCTL
  ⟨0x90, 1, 4, .imm, 0x21f, 0x31f, 0x0, 0x0, 0x0⟩,
  -- PRIV_SESSTMO
  ⟨0x94, 1, 4, .imm, 0x2710, 0xffff, 0x0, 0x0, 0x0⟩,
  -- PRIV_SESSCLOSE
  ⟨0x98, 1, 4, .imm, 0x0, 0x7, 0x0, 0x0, 0x8⟩]

/-- The registers of the WEIR page (spec/14). -/
def regsWEIR : List RegDef := [
  -- WEIR_CTL
  ⟨0x40, 1, 4, .period, 0x3e80, 0x0, 0x3ffff, 0x0, 0x0⟩,
  -- WEIR_STAT
  ⟨0x44, 1, 4, .imm, 0x0, 0x0, 0x0, 0x0, 0x0⟩,
  -- WEIR_FLOOR
  ⟨0x48, 1, 4, .imm, 0xb400, 0x0, 0x0, 0x0, 0x0⟩,
  -- WEIR_DRAMFLOOR
  ⟨0x4c, 1, 4, .imm, 0x8ba6, 0x0, 0x0, 0x0, 0x0⟩,
  -- WEIR_SUM
  ⟨0x50, 1, 4, .imm, 0x682c, 0x0, 0x0, 0x0, 0x0⟩,
  -- WEIR_SPARE
  ⟨0x54, 1, 4, .imm, 0x4bd4, 0x0, 0x0, 0x0, 0x0⟩,
  -- WEIR_SPEED
  ⟨0x58, 1, 4, .imm, 0x100, 0x0, 0x0, 0x0, 0x0⟩,
  -- WEIR_THROT
  ⟨0x5c, 1, 4, .imm, 0x80, 0xff, 0x0, 0x0, 0x0⟩,
  -- WEIR_FLOOROVR
  ⟨0x80, 1, 4, .imm, 0x0, 0xffffff, 0x0, 0x0, 0x0⟩,
  -- WEIR_LOCK
  ⟨0x84, 1, 4, .imm, 0x0, 0x1, 0x0, 0x0, 0x0⟩,
  -- WEIR_BUDGET (24)
  ⟨0x100, 24, 8, .period, 0x0, 0x0, 0xffffff, 0x0, 0x0⟩,
  -- WEIR_ACTCFG (24)
  ⟨0x104, 24, 8, .period, 0x3000000, 0x0, 0xffffff, 0x0, 0x0⟩]

/-- The registers of the THRM page (spec/18). -/
def regsTHRM : List RegDef := [
  -- THRM_STAT
  ⟨0x40, 1, 4, .imm, 0x0, 0x0, 0x0, 0x0, 0x0⟩,
  -- THRM_MAX
  ⟨0x44, 1, 4, .imm, 0x0, 0x0, 0x0, 0x0, 0x0⟩,
  -- THRM_SAMPCFG
  ⟨0x48, 1, 4, .imm, 0x3, 0xf, 0x0, 0x0, 0x0⟩,
  -- THRM_DIELIM
  ⟨0x80, 1, 4, .imm, 0x736e6964, 0xffffffff, 0x0, 0x0, 0x0⟩,
  -- THRM_DRAMLIM
  ⟨0x84, 1, 4, .imm, 0x67646260, 0xffffffff, 0x0, 0x0, 0x0⟩,
  -- THRM_RATE
  ⟨0x88, 1, 4, .imm, 0x20a0a0a, 0x7ffffff, 0x0, 0x0, 0x0⟩,
  -- THRM_CTL
  ⟨0x8c, 1, 4, .imm, 0xf02, 0xf0f, 0x0, 0x0, 0x0⟩]

/-- The registers of the HLNK page (spec/05). -/
def regsHLNK : List RegDef := [
  -- HLNK_CTL
  ⟨0x40, 1, 4, .imm, 0x12, 0x1f, 0x0, 0x0, 0x0⟩,
  -- HLNK_STAT
  ⟨0x44, 1, 4, .imm, 0x0, 0x0, 0x0, 0x0, 0x0⟩,
  -- HLNK_MAXFRM
  ⟨0x48, 1, 4, .imm, 0x2400, 0x3fff, 0x0, 0x0, 0x0⟩,
  -- HLNK_RXERR
  ⟨0x4c, 1, 4, .imm, 0x0, 0x0, 0x0, 0xffffffff, 0x0⟩,
  -- HLNK_FEC
  ⟨0x50, 1, 4, .imm, 0x0, 0x0, 0x0, 0xffffffff, 0x0⟩,
  -- HLNK_OVF
  ⟨0x54, 1, 4, .imm, 0x0, 0x0, 0x0, 0xffffffff, 0x0⟩,
  -- HLNK_PAUSE
  ⟨0x58, 1, 4, .imm, 0x0, 0x0, 0x0, 0xffffffff, 0x0⟩]

/-- The registers of the YRT page (spec/05). -/
def regsYRT : List RegDef := [
  -- YRT_CTL
  ⟨0x40, 1, 4, .imm, 0x88b5, 0x1ffff, 0x0, 0x0, 0x0⟩,
  -- YRT_TIMERS
  ⟨0x44, 1, 4, .imm, 0x832640a, 0xffffffff, 0x0, 0x0, 0x0⟩,
  -- YRT_RTO
  ⟨0x48, 1, 4, .imm, 0x2000c8, 0x3fffff, 0x0, 0x0, 0x0⟩,
  -- YRT_RXCNT
  ⟨0x4c, 1, 4, .imm, 0x0, 0x0, 0x0, 0xffffffff, 0x0⟩,
  -- YRT_GAPCNT
  ⟨0x50, 1, 4, .imm, 0x0, 0x0, 0x0, 0xffffffff, 0x0⟩,
  -- YRT_RETXCNT
  ⟨0x54, 1, 4, .imm, 0x0, 0x0, 0x0, 0xffffffff, 0x0⟩,
  -- YRT_REFCNT
  ⟨0x58, 1, 4, .imm, 0x0, 0x0, 0x0, 0xffffffff, 0x0⟩]

/-- The registers of the BASN page (spec/05). -/
def regsBASN : List RegDef := [
  -- BASN_CMD
  ⟨0x40, 1, 4, .imm, 0x0, 0x0, 0x0, 0x0, 0x7⟩,
  -- BASN_JOBSTAT
  ⟨0x44, 1, 4, .imm, 0x0, 0x0, 0x0, 0x0, 0x0⟩,
  -- BASN_JOBCUR
  ⟨0x48, 1, 4, .imm, 0xffffffff, 0x0, 0x0, 0x0, 0x0⟩,
  -- BASN_JOBQ
  ⟨0x4c, 1, 4, .imm, 0xffffffff, 0x0, 0x0, 0x0, 0x0⟩,
  -- BASN_BANDCRC
  ⟨0x50, 1, 4, .imm, 0x0, 0x0, 0x0, 0xffffffff, 0x0⟩,
  -- BASN_PRODMISS
  ⟨0x54, 1, 4, .imm, 0x0, 0x0, 0x0, 0xffffffff, 0x0⟩]

/-- The registers of the BASNW page (spec/05). -/
def regsBASNW : List RegDef := [
  -- BASN_RBASE (32)
  ⟨0x40, 32, 16, .imm, 0x0, 0x7fffff, 0x0, 0x0, 0x0⟩,
  -- BASN_RCFG (32)
  ⟨0x44, 32, 16, .imm, 0xc0, 0x3f7, 0x0, 0x0, 0x0⟩,
  -- BASN_RDROP (32)
  ⟨0x48, 32, 16, .imm, 0x0, 0x0, 0x0, 0xffffffff, 0x0⟩]

/-- The registers of the TIME page (spec/03). -/
def regsTIME : List RegDef := [
  -- TIME_CTL
  ⟨0x40, 1, 4, .imm, 0x0, 0x7, 0x0, 0x0, 0x30⟩,
  -- TIME_STAT
  ⟨0x44, 1, 4, .imm, 0x4, 0x0, 0x0, 0x0, 0x0⟩,
  -- TIME_JUMPTHR
  ⟨0x48, 1, 4, .imm, 0x3e80, 0xffffffff, 0x0, 0x0, 0x0⟩,
  -- TIME_SERVOCFG
  ⟨0x4c, 1, 4, .imm, 0x8, 0xff, 0x0, 0x0, 0x0⟩,
  -- TIME_KP
  ⟨0x50, 1, 4, .imm, 0x400000, 0xffffffff, 0x0, 0x0, 0x0⟩,
  -- TIME_KI
  ⟨0x54, 1, 4, .imm, 0x40000, 0xffffffff, 0x0, 0x0, 0x0⟩,
  -- TIME_RATEMAX
  ⟨0x58, 1, 4, .imm, 0x186a0, 0x1fffff, 0x0, 0x0, 0x0⟩,
  -- TIME_PPSCTL
  ⟨0x5c, 1, 4, .imm, 0x3e80000, 0xffff0003, 0x0, 0x0, 0x0⟩,
  -- TIME_CAPSRC (8)
  ⟨0x60, 8, 4, .imm, 0x0, 0xff, 0x0, 0x0, 0x0⟩,
  -- TIME_CAPSTAT
  ⟨0x80, 1, 4, .imm, 0x0, 0x0, 0x0, 0x0, 0x0⟩,
  -- TIME_LATE
  ⟨0x84, 1, 4, .imm, 0x0, 0x0, 0x0, 0xffffffff, 0x0⟩]

/-- The registers of the PTPA page (spec/03). -/
def regsPTPA : List RegDef := [
  -- PTPA_CTL
  ⟨0x40, 1, 4, .imm, 0x4, 0x7fffff0f, 0x0, 0x0, 0x0⟩,
  -- PTPA_LAT
  ⟨0x44, 1, 4, .imm, 0x0, 0xffffffff, 0x0, 0x0, 0x0⟩,
  -- PTPA_DREQ
  ⟨0x48, 1, 4, .imm, 0x1fd, 0x1ff, 0x0, 0x0, 0x0⟩,
  -- PTPA_TMO
  ⟨0x4c, 1, 4, .imm, 0x177003e8, 0xffffffff, 0x0, 0x0, 0x0⟩,
  -- PTPA_FILT
  ⟨0x50, 1, 4, .imm, 0x3e80003, 0xffff000f, 0x0, 0x0, 0x0⟩,
  -- PTPA_RXCNT
  ⟨0x54, 1, 4, .imm, 0x0, 0x0, 0x0, 0xffffffff, 0x0⟩,
  -- PTPA_DROPCNT
  ⟨0x58, 1, 4, .imm, 0x0, 0x0, 0x0, 0xffffffff, 0x0⟩]

/-- The registers of the CHK page (spec/16). -/
def regsCHK : List RegDef := [
  -- CHK_STAT
  ⟨0x40, 1, 4, .imm, 0x0, 0x0, 0x0, 0x0, 0x0⟩,
  -- CHK_MISCNT
  ⟨0x44, 1, 4, .imm, 0x0, 0x0, 0x0, 0xffffffff, 0x0⟩,
  -- CHK_CFG (20)
  ⟨0x100, 20, 8, .imm, 0x1df, 0x307ff, 0x0, 0x0, 0x7000⟩,
  -- CHK_TAP (20)
  ⟨0x104, 20, 8, .imm, 0x0, 0x3f3f, 0x0, 0x0, 0x0⟩]

/-- The registers of the DFL page (spec/06). -/
def regsDFL : List RegDef := [
  -- DFL_CTL
  ⟨0x40, 1, 4, .job, 0x80, 0x0, 0x1fff, 0x0, 0x0⟩,
  -- DFL_ERRCNT
  ⟨0x44, 1, 4, .imm, 0x0, 0x0, 0x0, 0xffffffff, 0x0⟩,
  -- DFL_DIRCNT
  ⟨0x48, 1, 4, .imm, 0x0, 0x0, 0x0, 0xffffffff, 0x0⟩,
  -- DFL_LEAD (8)
  ⟨0x60, 8, 4, .imm, 0x0, 0x0, 0x0, 0x0, 0x0⟩]

/-- The registers of the CMP page (spec/06). -/
def regsCMP : List RegDef := [
  -- DFL_CMPCTL (8)
  ⟨0x40, 8, 8, .imm, 0xf06, 0xfff, 0x0, 0x0, 0x1f000⟩,
  -- DFL_CMPSTAT (8)
  ⟨0x44, 8, 8, .imm, 0x0, 0x0, 0x0, 0x0, 0x0⟩]

/-- The registers of the DCP page (spec/06). -/
def regsDCP : List RegDef := [
  -- DFL_DCPSTAT (40)
  ⟨0x40, 40, 4, .imm, 0x0, 0x0, 0x0, 0x0, 0x0⟩]

/-- The registers of the DRAM page (spec/15). -/
def regsDRAM : List RegDef := [
  -- DRAM_CTL
  ⟨0x40, 1, 4, .imm, 0x100c8, 0x10fff, 0x0, 0x0, 0x0⟩,
  -- DRAM_STAT
  ⟨0x44, 1, 4, .imm, 0x0, 0x0, 0x0, 0x0, 0x0⟩,
  -- DRAM_MAPSC0
  ⟨0x48, 1, 4, .imm, 0x12492004, 0x1fffffff, 0x0, 0x0, 0x0⟩,
  -- DRAM_MAPSC1
  ⟨0x4c, 1, 4, .imm, 0x4924008, 0x1fffffff, 0x0, 0x0, 0x0⟩,
  -- DRAM_MAPSC2
  ⟨0x50, 1, 4, .imm, 0x9248010, 0x1fffffff, 0x0, 0x0, 0x0⟩,
  -- DRAM_MAPBG0
  ⟨0x54, 1, 4, .imm, 0x22200, 0x1fffffff, 0x0, 0x0, 0x0⟩,
  -- DRAM_MAPBG1
  ⟨0x58, 1, 4, .imm, 0x44400, 0x1fffffff, 0x0, 0x0, 0x0⟩,
  -- DRAM_MAPBG2
  ⟨0x5c, 1, 4, .imm, 0x88800, 0x1fffffff, 0x0, 0x0, 0x0⟩,
  -- DRAM_MAPBA
  ⟨0x60, 1, 4, .imm, 0x111000, 0x1fffffff, 0x0, 0x0, 0x0⟩,
  -- DRAM_REFCFG
  ⟨0x64, 1, 4, .imm, 0x25504, 0xfff07, 0x0, 0x0, 0x0⟩,
  -- DRAM_SCRUB
  ⟨0x68, 1, 4, .imm, 0x20, 0xffff, 0x0, 0x0, 0x0⟩,
  -- DRAM_ECCCNT
  ⟨0x6c, 1, 4, .imm, 0x0, 0x0, 0x0, 0xffffffff, 0x0⟩,
  -- DRAM_RSV
  ⟨0x70, 1, 4, .imm, 0x7bff, 0x7fff, 0x0, 0x0, 0x0⟩,
  -- DRAM_RETRAIN
  ⟨0x74, 1, 4, .imm, 0x803, 0xff0f, 0x0, 0x0, 0x0⟩,
  -- DRAM_FRZCTL
  ⟨0x80, 1, 4, .imm, 0x0, 0x0, 0x0, 0x0, 0x1⟩,
  -- DRAM_PORTCFG (16)
  ⟨0x100, 16, 4, .imm, 0x0, 0xffff, 0x0, 0x0, 0x0⟩]

/-- The registers of the SC page (spec/15). -/
def regsSC : List RegDef := [
  -- DRAM_SCSTAT
  ⟨0x40, 1, 4, .imm, 0x0, 0x0, 0x0, 0x0, 0x0⟩,
  -- DRAM_SCTEMP
  ⟨0x44, 1, 4, .imm, 0x0, 0x0, 0x0, 0x0, 0x0⟩,
  -- DRAM_SCCNT
  ⟨0x48, 1, 4, .imm, 0x0, 0x0, 0x0, 0xffffffff, 0x0⟩,
  -- DRAM_SCMARGIN
  ⟨0x4c, 1, 4, .imm, 0x0, 0x0, 0x0, 0x0, 0x0⟩,
  -- DRAM_TRNOVR
  ⟨0x80, 1, 4, .imm, 0x0, 0x80ffffff, 0x0, 0x0, 0x0⟩]

/-- The registers of the POS page (spec/04). -/
def regsPOS : List RegDef := [
  -- POS_CTL
  ⟨0x40, 1, 4, .imm, 0x0, 0x3f, 0x0, 0x0, 0x1f00⟩,
  -- POS_STAT
  ⟨0x44, 1, 4, .imm, 0x0, 0x0, 0x0, 0x0, 0x0⟩,
  -- POS_SPEED
  ⟨0x48, 1, 4, .imm, 0x0, 0x0, 0x0, 0x0, 0x0⟩,
  -- POS_ACCEL
  ⟨0x4c, 1, 4, .imm, 0x0, 0x0, 0x0, 0x0, 0x0⟩,
  -- POS_STRETCH
  ⟨0x50, 1, 4, .imm, 0x0, 0x0, 0x0, 0x0, 0x0⟩,
  -- POS_ENCCFG (2)
  ⟨0x54, 2, 4, .job, 0x10000032, 0x0, 0xff1fffff, 0x0, 0x0⟩,
  -- POS_ENCSCALE (2)
  ⟨0x5c, 2, 4, .job, 0x10000, 0x0, 0xffffffff, 0x0, 0x0⟩,
  -- POS_IDXPER (2)
  ⟨0x64, 2, 4, .job, 0x0, 0x0, 0xffffffff, 0x0, 0x0⟩,
  -- POS_IDXCFG
  ⟨0x6c, 1, 4, .imm, 0x2340204, 0xffff03ff, 0x0, 0x0, 0x0⟩,
  -- POS_IDXSTAT
  ⟨0x70, 1, 4, .imm, 0x0, 0x0, 0x0, 0xffff0000, 0x0⟩,
  -- POS_SPDCFG
  ⟨0x74, 1, 4, .imm, 0xc80403, 0xffffff07, 0x0, 0x0, 0x0⟩,
  -- POS_STANDV
  ⟨0x78, 1, 4, .imm, 0x3e80, 0xffffffff, 0x0, 0x0, 0x0⟩,
  -- POS_STRCFG
  ⟨0x7c, 1, 4, .imm, 0x7d0203e8, 0xffffffff, 0x0, 0x0, 0x0⟩,
  -- POS_STRZERO
  ⟨0x80, 1, 4, .job, 0x0, 0x0, 0xffffffff, 0x0, 0x0⟩,
  -- POS_HALLCFG
  ⟨0x84, 1, 4, .imm, 0x1a3003e8, 0xfff1ffff, 0x0, 0x0, 0x0⟩,
  -- POS_HALLSCALE
  ⟨0x88, 1, 4, .job, 0x0, 0x0, 0xffffffff, 0x0, 0x0⟩,
  -- POS_SSNCFG (2)
  ⟨0x8c, 2, 4, .job, 0x640311a, 0x0, 0xfff1ffff, 0x0, 0x0⟩,
  -- POS_SSNTIM (2)
  ⟨0x94, 2, 4, .job, 0x504000, 0x0, 0xffffffff, 0x0, 0x0⟩,
  -- POS_SSNCRC (2)
  ⟨0x9c, 2, 4, .job, 0x460003, 0x0, 0x7fffff, 0x0, 0x0⟩,
  -- POS_TRIGCFG
  ⟨0xa4, 1, 4, .job, 0x3e8, 0x0, 0xffffff, 0x0, 0x0⟩,
  -- POS_TRIGDIST
  ⟨0xa8, 1, 4, .job, 0x0, 0x0, 0xffffffff, 0x0, 0x0⟩,
  -- POS_TRIGSEQ
  ⟨0xac, 1, 4, .imm, 0x0, 0x0, 0x0, 0x0, 0x0⟩,
  -- POS_TRIGPEND
  ⟨0xb0, 1, 4, .imm, 0x0, 0x0, 0x0, 0x0, 0x0⟩,
  -- POS_FLTCNT (2)
  ⟨0xb4, 2, 4, .imm, 0x0, 0x0, 0x0, 0xffffffff, 0x0⟩,
  -- POS_HALLCNT
  ⟨0xbc, 1, 4, .imm, 0x0, 0x0, 0x0, 0xffffffff, 0x0⟩,
  -- POS_SSNCNT (2)
  ⟨0xc0, 2, 4, .imm, 0x0, 0x0, 0x0, 0xffffffff, 0x0⟩,
  -- POS_TRIGCNT
  ⟨0xc8, 1, 4, .imm, 0x0, 0x0, 0x0, 0xffffffff, 0x0⟩,
  -- POS_BARDIST (8)
  ⟨0x100, 8, 8, .job, 0x0, 0x0, 0xffffffff, 0x0, 0x0⟩,
  -- POS_BARK (8)
  ⟨0x104, 8, 8, .job, 0x0, 0x0, 0xffffffff, 0x0, 0x0⟩]

/-- The registers of the RAST page (spec/07). -/
def regsRAST : List RegDef := [
  -- RAST_CTL
  ⟨0x40, 1, 4, .job, 0xd6, 0x0, 0xff, 0x0, 0x0⟩,
  -- RAST_STAT
  ⟨0x44, 1, 4, .imm, 0x0, 0x0, 0x0, 0x0, 0x0⟩,
  -- RAST_NTRADDR
  ⟨0x48, 1, 4, .imm, 0x0, 0x800fffff, 0x0, 0x0, 0x0⟩,
  -- RAST_NTRDATA
  ⟨0x4c, 1, 4, .imm, 0x0, 0x0, 0x0, 0x0, 0x0⟩,
  -- RAST_DROPCNT
  ⟨0x50, 1, 4, .imm, 0x0, 0x0, 0x0, 0xffffffff, 0x0⟩,
  -- RAST_DEADCNT
  ⟨0x54, 1, 4, .imm, 0x0, 0x0, 0x0, 0xffffffff, 0x0⟩,
  -- RAST_XCOL (22)
  ⟨0x80, 22, 4, .job, 0x0, 0x0, 0x1ffff, 0x0, 0x0⟩,
  -- RAST_BLEND (21)
  ⟨0x100, 21, 4, .job, 0x0, 0x0, 0x7ff07ff, 0x0, 0x0⟩,
  -- RAST_UOFF (88)
  ⟨0x200, 88, 4, .job, 0x0, 0x0, 0xffffffff, 0x0, 0x0⟩,
  -- RAST_NTADDR
  ⟨0x380, 1, 4, .imm, 0x0, 0x800fffff, 0x0, 0x0, 0x0⟩,
  -- RAST_NTDATA
  ⟨0x384, 1, 4, .imm, 0x10000000, 0xffff, 0x0, 0x0, 0x0⟩]

/-- The registers of the RASTC page (spec/07). -/
def regsRASTC : List RegDef := [
  -- RAST_DLBASE
  ⟨0x40, 1, 4, .job, 0x1f, 0x0, 0x1f, 0x0, 0x0⟩,
  -- RAST_THRADDR
  ⟨0x44, 1, 4, .imm, 0x0, 0x800003ff, 0x0, 0x0, 0x0⟩,
  -- RAST_THRDATA
  ⟨0x48, 1, 4, .imm, 0x0, 0xffffffff, 0x0, 0x0, 0x0⟩]

/-- The registers of the FIRE page (spec/08). -/
def regsFIRE : List RegDef := [
  -- FIRE_CTL
  ⟨0x40, 1, 4, .job, 0x800500, 0x0, 0xff07ff, 0x0, 0x0⟩,
  -- FIRE_STAT
  ⟨0x44, 1, 4, .imm, 0x40, 0x0, 0x0, 0x0, 0x0⟩,
  -- FIRE_HOT
  ⟨0x48, 1, 4, .imm, 0x0, 0x0, 0x0, 0x0, 0x0⟩,
  -- FIRE_HARD
  ⟨0x4c, 1, 4, .imm, 0x0, 0x0, 0x0, 0x0, 0x0⟩,
  -- FIRE_FLIGHT0
  ⟨0x50, 1, 4, .job, 0x0, 0x0, 0xffffff, 0x0, 0x0⟩,
  -- FIRE_FLIGHTK
  ⟨0x54, 1, 4, .job, 0x0, 0x0, 0xffffff, 0x0, 0x0⟩,
  -- FIRE_REFIRE
  ⟨0x58, 1, 4, .job, 0x61a80, 0x0, 0xffffff, 0x0, 0x0⟩,
  -- FIRE_REFEFF
  ⟨0x5c, 1, 4, .imm, 0x61a80, 0x0, 0x0, 0x0, 0x0⟩,
  -- FIRE_VREF
  ⟨0x60, 1, 4, .job, 0x4e20, 0x0, 0xffff, 0x0, 0x0⟩,
  -- FIRE_STEP
  ⟨0x64, 1, 4, .imm, 0x320040, 0xffffffff, 0x0, 0x0, 0x0⟩,
  -- FIRE_TBLADDR
  ⟨0x68, 1, 4, .imm, 0x0, 0x8000007f, 0x0, 0x0, 0x0⟩,
  -- FIRE_TBLDATA
  ⟨0x6c, 1, 4, .job, 0x0, 0x0, 0xffffffff, 0x0, 0x0⟩,
  -- FIRE_SKIPCNT
  ⟨0x70, 1, 4, .imm, 0x0, 0x0, 0x0, 0xffffffff, 0x0⟩,
  -- FIRE_HOTCNT
  ⟨0x74, 1, 4, .imm, 0x0, 0x0, 0x0, 0xffffffff, 0x0⟩,
  -- FIRE_TLIM
  ⟨0x100, 1, 4, .job, 0x23001e00, 0x0, 0xffffffff, 0x0, 0x0⟩,
  -- FIRE_TLIM2
  ⟨0x104, 1, 4, .job, 0xa0100, 0x0, 0xffffffff, 0x0, 0x0⟩,
  -- FIRE_PLIM
  ⟨0x108, 1, 4, .job, 0x7d01f40, 0x0, 0x3fff3fff, 0x0, 0x0⟩]

/-- The registers of the FIREC page (spec/08 and 11). -/
def regsFIREC : List RegDef := [
  -- FIRE_CCTL
  ⟨0x40, 1, 4, .job, 0x3027100, 0x0, 0xff03ffff, 0x0, 0x0⟩,
  -- FIRE_PACE
  ⟨0x44, 1, 4, .job, 0xa104008, 0x0, 0xffffffff, 0x0, 0x0⟩,
  -- FIRE_DEFCTL
  ⟨0x48, 1, 4, .imm, 0x3e7b, 0xff7f, 0x0, 0x0, 0x0⟩,
  -- FIRE_INSPDIST
  ⟨0x4c, 1, 4, .job, 0x0, 0x0, 0xffffffff, 0x0, 0x0⟩,
  -- FIRE_INSPW
  ⟨0x50, 1, 4, .imm, 0x64, 0xffff, 0x0, 0x0, 0x0⟩,
  -- FIRE_DEFCNT
  ⟨0x54, 1, 4, .imm, 0x0, 0x0, 0x0, 0xffffffff, 0x0⟩,
  -- FIRE_DEFLOST
  ⟨0x58, 1, 4, .imm, 0x0, 0x0, 0x0, 0xffffffff, 0x0⟩,
  -- FIRE_INSPLOST
  ⟨0x5c, 1, 4, .imm, 0x0, 0x0, 0x0, 0xffffffff, 0x0⟩,
  -- FIRE_SBCFG
  ⟨0x60, 1, 4, .job, 0x1300c808, 0x0, 0x1fffffff, 0x0, 0x0⟩,
  -- FIRE_SBDIST
  ⟨0x64, 1, 4, .job, 0x10004e20, 0x0, 0xffffffff, 0x0, 0x0⟩,
  -- FIRE_SBSTAT
  ⟨0x68, 1, 4, .imm, 0x0, 0x0, 0x0, 0x0, 0x0⟩,
  -- FIRE_SBCMD
  ⟨0x6c, 1, 4, .imm, 0x0, 0x0, 0x0, 0x0, 0x1⟩,
  -- FIRE_SBCNT
  ⟨0x70, 1, 4, .imm, 0x0, 0x0, 0x0, 0xffffffff, 0x0⟩]

/-- The registers of the HLTH page (spec/10). -/
def regsHLTH : List RegDef := [
  -- HLTH_CTL
  ⟨0x40, 1, 4, .imm, 0x6, 0xf, 0x0, 0x0, 0x0⟩,
  -- HLTH_CMD
  ⟨0x44, 1, 4, .imm, 0x0, 0x3f, 0x0, 0x0, 0xc0⟩,
  -- HLTH_STAT
  ⟨0x48, 1, 4, .imm, 0x0, 0x0, 0x0, 0x0, 0x0⟩,
  -- HLTH_MEASCFG
  ⟨0x4c, 1, 4, .imm, 0x53e81040, 0xffffff7f, 0x0, 0x0, 0x0⟩,
  -- HLTH_RREF
  ⟨0x50, 1, 4, .job, 0xbb8, 0x0, 0xffffffff, 0x0, 0x0⟩,
  -- HLTH_DRIFT
  ⟨0x54, 1, 4, .imm, 0x22643214, 0xffffffff, 0x0, 0x0, 0x0⟩,
  -- HLTH_TNORM
  ⟨0x58, 1, 4, .imm, 0xc80, 0xffff, 0x0, 0x0, 0x0⟩,
  -- HLTH_VWIN
  ⟨0x5c, 1, 4, .imm, 0x55f04650, 0xffffffff, 0x0, 0x0, 0x0⟩,
  -- HLTH_WARM
  ⟨0x60, 1, 4, .job, 0x0, 0x0, 0xffffffff, 0x0, 0x0⟩,
  -- HLTH_TREADY
  ⟨0x64, 1, 4, .job, 0x1180, 0x0, 0xffff, 0x0, 0x0⟩,
  -- HLTH_MEASCNT
  ⟨0x68, 1, 4, .imm, 0x0, 0x0, 0x0, 0xffffffff, 0x0⟩,
  -- HLTH_SCANCNT
  ⟨0x6c, 1, 4, .imm, 0x0, 0x0, 0x0, 0xffffffff, 0x0⟩,
  -- HLTH_NCNT
  ⟨0x70, 1, 4, .imm, 0x0, 0x0, 0x0, 0xffffffff, 0x0⟩,
  -- HLTH_LOGCTL
  ⟨0x74, 1, 4, .imm, 0x7b, 0x7f, 0x0, 0x0, 0x0⟩,
  -- HLTH_LOGLOST
  ⟨0x78, 1, 4, .imm, 0x0, 0x0, 0x0, 0xffffffff, 0x0⟩,
  -- HLTH_NADDR
  ⟨0x7c, 1, 4, .imm, 0x0, 0x800fffff, 0x0, 0x0, 0x0⟩,
  -- HLTH_NDATA
  ⟨0x80, 1, 4, .imm, 0x0, 0xffff0000, 0x0, 0x0, 0x0⟩]

/-- The registers of the CAMP page (spec/12). -/
def regsCAMP : List RegDef := [
  -- CAM_PCFG
  ⟨0x40, 1, 4, .frame, 0x120, 0x0, 0x1ff, 0x0, 0x0⟩,
  -- CAM_WIDTH
  ⟨0x44, 1, 4, .frame, 0x4002000, 0x0, 0xffff7fff, 0x0, 0x0⟩,
  -- CAM_PSTAT
  ⟨0x48, 1, 4, .imm, 0x0, 0x0, 0x0, 0x0, 0x0⟩,
  -- CAM_TRIG
  ⟨0x4c, 1, 4, .frame, 0xa00, 0x0, 0xff0f, 0x0, 0x0⟩,
  -- CAM_EXP
  ⟨0x50, 1, 4, .frame, 0x3e8, 0x0, 0xffffff, 0x0, 0x0⟩,
  -- CAM_PITCH
  ⟨0x54, 1, 4, .frame, 0x640, 0x0, 0xffffff, 0x0, 0x0⟩,
  -- CAM_PERIOD
  ⟨0x58, 1, 4, .frame, 0xfa0, 0x0, 0xffffff, 0x0, 0x0⟩,
  -- CAM_DIST
  ⟨0x5c, 1, 4, .job, 0x0, 0x0, 0xffffffff, 0x0, 0x0⟩,
  -- CAM_K
  ⟨0x60, 1, 4, .job, 0x0, 0x0, 0xffffffff, 0x0, 0x0⟩,
  -- CAM_SWTRIG
  ⟨0x64, 1, 4, .imm, 0x0, 0x0, 0x0, 0x0, 0x1⟩,
  -- CAM_TAP
  ⟨0x68, 1, 4, .imm, 0x1f00, 0x1f3f, 0x0, 0x0, 0x0⟩,
  -- CAM_DROP
  ⟨0x6c, 1, 4, .imm, 0x0, 0x0, 0x0, 0xffffffff, 0x0⟩,
  -- CAM_ERR
  ⟨0x70, 1, 4, .imm, 0x0, 0x0, 0x0, 0xffffffff, 0x0⟩,
  -- CAM_TRIGCNT
  ⟨0x74, 1, 4, .imm, 0x0, 0x0, 0x0, 0xffffffff, 0x0⟩]

/-- The registers of the CAMI page (spec/12). -/
def regsCAMI : List RegDef := [
  -- CAM_PCTL (2)
  ⟨0x40, 2, 64, .frame, 0x0, 0x0, 0x3f, 0x0, 0x0⟩,
  -- CAM_BLACK (2)
  ⟨0x44, 2, 64, .frame, 0x0, 0x0, 0x3fffffff, 0x0, 0x0⟩,
  -- CAM_WB01 (2)
  ⟨0x48, 2, 64, .frame, 0x10001000, 0x0, 0xffffffff, 0x0, 0x0⟩,
  -- CAM_WB2 (2)
  ⟨0x4c, 2, 64, .frame, 0x1000, 0x0, 0xffff, 0x0, 0x0⟩,
  -- CAM_MAT0 (2)
  ⟨0x50, 2, 64, .frame, 0x1000, 0x0, 0xffffffff, 0x0, 0x0⟩,
  -- CAM_MAT1 (2)
  ⟨0x54, 2, 64, .frame, 0x0, 0x0, 0xffffffff, 0x0, 0x0⟩,
  -- CAM_MAT2 (2)
  ⟨0x58, 2, 64, .frame, 0x1000, 0x0, 0xffffffff, 0x0, 0x0⟩,
  -- CAM_MAT3 (2)
  ⟨0x5c, 2, 64, .frame, 0x0, 0x0, 0xffffffff, 0x0, 0x0⟩,
  -- CAM_MAT4 (2)
  ⟨0x60, 2, 64, .frame, 0x1000, 0x0, 0xffff, 0x0, 0x0⟩,
  -- CAM_TBLADDR
  ⟨0x100, 1, 4, .imm, 0x0, 0x800fffff, 0x0, 0x0, 0x0⟩,
  -- CAM_TBLDATA
  ⟨0x104, 1, 4, .imm, 0x0, 0xffff, 0x0, 0x0, 0x0⟩,
  -- CAM_TBLSWAP
  ⟨0x108, 1, 4, .imm, 0x0, 0x0, 0x0, 0x0, 0x3⟩,
  -- CAM_LOAD
  ⟨0x10c, 1, 4, .imm, 0x0, 0x0, 0x0, 0x0, 0x0⟩]

/-- The registers of the CAMS page (spec/12). -/
def regsCAMS : List RegDef := [
  -- CAM_STATCTL
  ⟨0x40, 1, 4, .imm, 0x3e, 0x3f, 0x0, 0x0, 0x0⟩,
  -- CAM_STATCNT
  ⟨0x44, 1, 4, .imm, 0x0, 0x0, 0x0, 0xffffffff, 0x0⟩,
  -- CAM_WIN (64)
  ⟨0x100, 64, 8, .imm, 0x0, 0xfff0ff3, 0x0, 0x0, 0x0⟩,
  -- CAM_WCOL (64)
  ⟨0x104, 64, 8, .imm, 0x0, 0x7fff, 0x0, 0x0, 0x0⟩]

/-- The registers of the LOOP page (spec/13). -/
def regsLOOP : List RegDef := [
  -- LOOP_CTL
  ⟨0x40, 1, 4, .job, 0x44ff, 0x0, 0xf7ff, 0x0, 0x0⟩,
  -- LOOP_CMD
  ⟨0x44, 1, 4, .imm, 0x0, 0x1, 0x0, 0x0, 0xe⟩,
  -- LOOP_STAT
  ⟨0x48, 1, 4, .imm, 0x0, 0x0, 0x0, 0x0, 0x0⟩,
  -- LOOP_STRIP
  ⟨0x4c, 1, 4, .job, 0xb88c, 0x0, 0xffffff, 0x0, 0x0⟩,
  -- LOOP_STRIPOFS
  ⟨0x50, 1, 4, .job, 0x0, 0x0, 0xffffffff, 0x0, 0x0⟩,
  -- LOOP_PATCH
  ⟨0x54, 1, 4, .job, 0x801e140, 0x0, 0xff03ffff, 0x0, 0x0⟩,
  -- LOOP_CAMCOLA
  ⟨0x58, 1, 4, .job, 0x0, 0x0, 0xffffffff, 0x0, 0x0⟩,
  -- LOOP_CAMSCLA
  ⟨0x5c, 1, 4, .job, 0x2000000, 0x0, 0xfffffff, 0x0, 0x0⟩,
  -- LOOP_CAMCOLB
  ⟨0x60, 1, 4, .job, 0x0, 0x0, 0xffffffff, 0x0, 0x0⟩,
  -- LOOP_CAMSCLB
  ⟨0x64, 1, 4, .job, 0x2000000, 0x0, 0xfffffff, 0x0, 0x0⟩,
  -- LOOP_WINCFG
  ⟨0x68, 1, 4, .job, 0x101020, 0x0, 0x3f3f3f, 0x0, 0x0⟩,
  -- LOOP_GAIN
  ⟨0x6c, 1, 4, .job, 0x8030060, 0x0, 0xffffffff, 0x0, 0x0⟩,
  -- LOOP_LIM
  ⟨0x70, 1, 4, .job, 0x43c143c, 0x0, 0xfffffff, 0x0, 0x0⟩,
  -- LOOP_HOLDCFG
  ⟨0x74, 1, 4, .imm, 0x64, 0xffff, 0x0, 0x0, 0x0⟩,
  -- LOOP_CNT
  ⟨0x78, 1, 4, .imm, 0x0, 0x0, 0x0, 0xffffffff, 0x0⟩,
  -- LOOP_PROMCNT
  ⟨0x7c, 1, 4, .imm, 0x0, 0x0, 0x0, 0xffffffff, 0x0⟩,
  -- LOOP_TGT (8)
  ⟨0x80, 8, 4, .job, 0x0, 0x0, 0x3fff, 0x0, 0x0⟩,
  -- LOOP_LOGCTL
  ⟨0xa0, 1, 4, .imm, 0x7b, 0x7f, 0x0, 0x0, 0x0⟩,
  -- LOOP_LOGLOST
  ⟨0xa4, 1, 4, .imm, 0x0, 0x0, 0x0, 0xffffffff, 0x0⟩]

/-- The registers of the TWIN page (spec/17). -/
def regsTWIN : List RegDef := [
  -- TWIN_STAT
  ⟨0x40, 1, 4, .imm, 0xc00, 0x0, 0x0, 0x0, 0x0⟩,
  -- TWIN_EPOCH
  ⟨0x44, 1, 4, .imm, 0x0, 0x0, 0x0, 0x0, 0x0⟩,
  -- TWIN_HBCFG
  ⟨0x48, 1, 4, .imm, 0x50a, 0xf1f, 0x0, 0x0, 0x0⟩,
  -- TWIN_HLTHCFG
  ⟨0x4c, 1, 4, .imm, 0x4003e8, 0xffffff, 0x0, 0x0, 0x0⟩,
  -- TWIN_MISCNT
  ⟨0x50, 1, 4, .imm, 0x0, 0x0, 0x0, 0xffffffff, 0x0⟩,
  -- TWIN_HBCNT
  ⟨0x54, 1, 4, .imm, 0x0, 0x0, 0x0, 0xffffffff, 0x0⟩,
  -- TWIN_TAKECNT
  ⟨0x58, 1, 4, .imm, 0x0, 0x0, 0x0, 0xffffffff, 0x0⟩,
  -- TWIN_LINKERR
  ⟨0x5c, 1, 4, .imm, 0x0, 0x0, 0x0, 0xffffffff, 0x0⟩,
  -- TWIN_HEALTH0
  ⟨0x60, 1, 4, .imm, 0x0, 0x0, 0x0, 0x0, 0x0⟩,
  -- TWIN_HEALTH1
  ⟨0x64, 1, 4, .imm, 0x0, 0x0, 0x0, 0x0, 0x0⟩,
  -- TWIN_HEALTH2
  ⟨0x68, 1, 4, .imm, 0x0, 0x0, 0x0, 0x0, 0x0⟩,
  -- TWIN_HEALTH3
  ⟨0x6c, 1, 4, .imm, 0x0, 0x0, 0x0, 0x0, 0x0⟩,
  -- TWIN_CFG
  ⟨0x80, 1, 4, .imm, 0x780800, 0xffffff01, 0x0, 0x0, 0x0⟩,
  -- TWIN_CMD
  ⟨0x84, 1, 4, .imm, 0x0, 0x0, 0x0, 0x0, 0x3⟩]

/-- The registers of the PIO page (spec/21). -/
def regsPIO : List RegDef := [
  -- PIO_IN
  ⟨0x40, 1, 4, .imm, 0x0, 0x0, 0x0, 0x0, 0x0⟩,
  -- PIO_OUT
  ⟨0x44, 1, 4, .imm, 0x0, 0xffff, 0x0, 0x0, 0x0⟩,
  -- PIO_DRIVE
  ⟨0x48, 1, 4, .imm, 0x0, 0x0, 0x0, 0x0, 0x0⟩,
  -- PIO_IMAP
  ⟨0x4c, 1, 4, .imm, 0x0, 0x1f1f1f, 0x0, 0x0, 0x0⟩,
  -- PIO_GLITCH
  ⟨0x50, 1, 4, .imm, 0x0, 0x0, 0x0, 0xffffffff, 0x0⟩,
  -- PIO_ICFG (16)
  ⟨0x80, 16, 4, .imm, 0xa, 0x3ffff, 0x0, 0x0, 0x0⟩,
  -- PIO_OCFG (16)
  ⟨0xc0, 16, 4, .imm, 0x0, 0x1f, 0x0, 0x0, 0x0⟩]

/-- The registers of the TLNK page (spec/09). -/
def regsTLNK : List RegDef := [
  -- TLNK_CTL
  ⟨0x40, 1, 4, .imm, 0x20013, 0xf01f3, 0x0, 0x0, 0x8⟩,
  -- TLNK_STAT
  ⟨0x44, 1, 4, .imm, 0x38000, 0x0, 0x0, 0x0, 0x0⟩,
  -- TLNK_TRAIN
  ⟨0x48, 1, 4, .imm, 0x40000a, 0xffffff, 0x0, 0x0, 0x0⟩,
  -- TLNK_TIMECFG
  ⟨0x4c, 1, 4, .imm, 0x6464, 0xffff, 0x0, 0x0, 0x0⟩,
  -- TLNK_LAT
  ⟨0x50, 1, 4, .imm, 0x0, 0xffffffff, 0x0, 0x0, 0x0⟩,
  -- TLNK_CRCERR
  ⟨0x54, 1, 4, .imm, 0x0, 0x0, 0x0, 0xffffffff, 0x0⟩,
  -- TLNK_PRBSERR
  ⟨0x58, 1, 4, .imm, 0x0, 0x0, 0x0, 0xffffffff, 0x0⟩,
  -- TLNK_LOCKCNT
  ⟨0x5c, 1, 4, .imm, 0x0, 0x0, 0x0, 0xffffffff, 0x0⟩,
  -- TLNK_FOM
  ⟨0x60, 1, 4, .imm, 0xffff, 0x0, 0x0, 0x0, 0x0⟩,
  -- TLNK_DISC
  ⟨0x64, 1, 4, .imm, 0x0, 0x0, 0x0, 0xffffffff, 0x0⟩,
  -- TLNK_RETX
  ⟨0x68, 1, 4, .imm, 0x0, 0x0, 0x0, 0xffffffff, 0x0⟩,
  -- TLNK_EQ
  ⟨0x6c, 1, 4, .imm, 0xa080, 0xf3ff, 0x0, 0x0, 0x0⟩]

/-- The registers of a page by its kind. -/
def PageKind.regs : PageKind → List RegDef
  | .sys => regsSYS
  | .priv => regsPRIV
  | .weir => regsWEIR
  | .thrm => regsTHRM
  | .hlnk => regsHLNK
  | .yrt => regsYRT
  | .basn => regsBASN
  | .basnw => regsBASNW
  | .time => regsTIME
  | .ptpa => regsPTPA
  | .chk => regsCHK
  | .dfl => regsDFL
  | .cmp => regsCMP
  | .dcp => regsDCP
  | .dram => regsDRAM
  | .sc => regsSC
  | .pos => regsPOS
  | .rast => regsRAST
  | .rastc => regsRASTC
  | .fire => regsFIRE
  | .firec => regsFIREC
  | .hlth => regsHLTH
  | .camp => regsCAMP
  | .cami => regsCAMI
  | .cams => regsCAMS
  | .loop => regsLOOP
  | .twin => regsTWIN
  | .pio => regsPIO
  | .tlnk => regsTLNK

end Sys2Proof.Machine
end

