-- ==== Sys2Proof/Machine/Store.lean ====
section
/-!
DEFINITION. Sparse stores: lists of (key, value) pairs with strictly rising keys. A store with a
default lists no entry that equals the default, so equal contents are equal lists. The DRAM of the
device (R20, R213) is such a store of bytes.
-/
namespace Sys2Proof.Machine

/-- A sparse store keyed by a natural number. -/
abbrev NMap (α : Type) := List (Nat × α)

/-- The entry of a key, if the store lists it. -/
def mfind {α : Type} : NMap α → Nat → Option α
  | [], _ => none
  | (a, v) :: t, k => if a = k then some v else mfind t k

/-- The value of a key in a store with default `d`. -/
def mget {α : Type} (d : α) (m : NMap α) (k : Nat) : α := (mfind m k).getD d

/-- Lists `v` under `k`, keeping the keys in rising order. -/
def mput {α : Type} : NMap α → Nat → α → NMap α
  | [], k, v => [(k, v)]
  | (a, w) :: t, k, v =>
    if k < a then (k, v) :: (a, w) :: t
    else if k = a then (k, v) :: t
    else (a, w) :: mput t k v

/-- Removes what is listed under `k`. -/
def merase {α : Type} : NMap α → Nat → NMap α
  | [], _ => []
  | (a, w) :: t, k => if a = k then merase t k else (a, w) :: merase t k

/-- Writes `v` under `k` in a store with default `d`, in canonical form. -/
def mset {α : Type} [DecidableEq α] (d : α) (m : NMap α) (k : Nat) (v : α) : NMap α :=
  if v = d then merase m k else mput m k v

/-- Keys rise strictly from `lo` on, and no entry holds the default of its key. -/
def mwfFrom {α : Type} [DecidableEq α] (d : Nat → α) : Nat → NMap α → Bool
  | _, [] => true
  | lo, (a, v) :: t => decide (lo ≤ a) && !decide (v = d a) && mwfFrom d (a + 1) t

/-- The canonical form of a store whose default at key `k` is `d k`. -/
def mwf {α : Type} [DecidableEq α] (d : Nat → α) (m : NMap α) : Bool := mwfFrom d 0 m

/-- Keeps the entries whose key passes a test. -/
def mfilter {α : Type} (p : Nat → Bool) : NMap α → NMap α
  | [] => []
  | (a, v) :: t => if p a then (a, v) :: mfilter p t else mfilter p t

/-- What a byte of DRAM that nothing has written reads as (log entry 3, DESIGN CHOICE). -/
def memDefault : Byte := 0#8

/-- One byte of DRAM. -/
def memByte (m : List Host.Cell) (a : Nat) : Byte := mget memDefault m a

/-- Writes one byte of DRAM. -/
def memPut (m : List Host.Cell) (a : Nat) (b : Byte) : List Host.Cell := mset memDefault m a b

/-- The canonical form of the DRAM store. -/
abbrev Memory.wf (m : List Host.Cell) : Bool := mwf (fun _ => memDefault) m

/-- Writes a list of bytes at rising addresses. -/
def memPuts : List Host.Cell → Nat → List Byte → List Host.Cell
  | m, _, [] => m
  | m, a, b :: bs => memPuts (memPut m a b) (a + 1) bs

/-- Reads `n` bytes at rising addresses. -/
def memBytes (m : List Host.Cell) (a : Nat) : Nat → List Byte
  | 0 => []
  | n + 1 => memByte m a :: memBytes m (a + 1) n

end Sys2Proof.Machine
end

