-- ==== Sys2Proof/Machine/Types.lean ====
section
/-!
DEFINITION. The state of each block beside its registers, as plain data. A register that software can
read or write lives in the register file (Machine/State.lean); a structure here holds what the manual
gives the block besides.
-/
namespace Sys2Proof.Machine

/-! ### Register model (02) -/

/-- The mailbox state of one master on one page (R67 to R71, R708). -/
structure Mbx where
  item : Nat := 0
  dir : Bool := false
  valid : Bool := false
  err : Bool := false
  code : Nat := 0
  seq : BitVec 8 := 0#8
  data : BitVec 128 := 0#128
  deriving DecidableEq, Repr

/-- A COMMIT that merged into a set which awaits its boundary: its tick, the set before it and the set it commits. A
boundary in its window applies the set before (R86, the second worked example). -/
structure LateCommit where
  tick : Nat
  before : NMap Word
  set : NMap Word
  deriving DecidableEq, Repr

/-- The header state of one page (R38, R72 to R84): block enable, the flags with the sequence number
each remembers, routing, apply mode and the mailboxes by master code. -/
structure Hdr where
  en : Bool := false
  flags : BitVec 24 := 0#24
  seq : BitVec 8 := 0#8
  rem : NMap (BitVec 8) := []
  evten : Word := 0#32
  cls : Nat := 0
  held : Bool := false
  view : Bool := false
  appseq : BitVec 8 := 0#8
  awaiting : Option ApplyClass := none
  late : Option LateCommit := none
  mbx : NMap Mbx := []
  deriving DecidableEq, Repr

/-- A change of a count by the hardware at one tick: the field, how far, and whether the count wraps (R86). -/
structure Hit where
  addr : Nat
  lo : Nat
  w : Nat
  k : Nat
  wrap : Bool
  deriving DecidableEq, Repr

/-- What has happened to registers in the window of one tick: counts raised by the hardware, and registers written by
software (R86). -/
structure Window where
  tick : Nat := 0
  hits : List Hit := []
  wrote : List Nat := []
  deriving DecidableEq, Repr

/-- A word waiting for its apply boundary: the value of the RWS fields of one register (R80). -/
structure Waiting where
  cls : ApplyClass
  value : Word
  deriving DecidableEq, Repr

/-- The states of SYS_STATE.STATE (R25). -/
inductive DevState where
  | off | reset | load | build | linkup | ready | printing | halted | fenced | frozen | safe
  deriving DecidableEq, Repr

/-- The encoding of SYS_STATE.STATE. -/
def DevState.code : DevState → Nat
  | .off => 0x0 | .reset => 0x1 | .load => 0x2 | .build => 0x3 | .linkup => 0x4 | .ready => 0x5
  | .printing => 0x6 | .halted => 0x8 | .fenced => 0x9 | .frozen => 0xA | .safe => 0xB

/-- The roles of SYS_STATE.ROLE. -/
inductive Role where
  | solo | standby | active | undecided
  deriving DecidableEq, Repr

/-- The encoding of SYS_STATE.ROLE. -/
def Role.code : Role → Nat
  | .solo => 0 | .standby => 1 | .active => 2 | .undecided => 3

/-- SYS_STATE, the supply and reset pins, and start-up progress (R25, R638, R659, R660, R662); `sideAt` is the tick of the
last entry to a side state and the state before that handshake (R26). -/
structure Dev where
  state : DevState := .reset
  role : Role := .undecided
  prior : DevState := .off
  cause : Nat := 0
  transeq : BitVec 8 := 0#8
  pwrgood : Bool := true
  resetN : Bool := false
  vio33 : Bool := false
  releasedAt : Nat := 0
  sramOk : Bool := false
  dramOk : Bool := false
  times : List Nat := [0, 0, 0]
  sideAt : Option (Nat × DevState) := none
  deriving DecidableEq, Repr

/-- The three ordering numbers (R1). -/
inductive PartNo where
  | et822t8 | et822s8 | et822t4
  deriving DecidableEq, Repr

/-- One OTP record of a limited-change setting (R87 to R93): `digest` tells whether the stored digest
matches, `committed` whether the commit mark was written. -/
structure OtpRecord where
  tick : Nat
  master : Nat
  setting : Nat
  value : Nat
  committed : Bool
  digest : Nat
  deriving DecidableEq, Repr

/-- What is fused or recorded in the part and survives every reset (R1, R93, R504, R616). -/
structure Part where
  number : PartNo := .et822t8
  serial : BitVec 64 := 0#64
  f1 : Nat := 46080
  fd1 : Nat := 35750
  records : List OtpRecord := []
  cal : NMap (BitVec 32) := []
  calOk : Bool := true
  deriving DecidableEq, Repr

/-- An on-die ring that spills to a basin (R96, R343, R426, R500, R710): the entries by slot, the
number of the next entry, and the slots of the entries not yet spilled, oldest first. -/
structure Ring where
  slots : NMap (List Byte) := []
  next : Nat := 0
  unsp : List Nat := []
  deriving DecidableEq, Repr

/-- An OTP record in progress (R92). -/
structure OtpWork where
  setting : Nat
  value : Nat
  master : Nat
  start : Nat
  deriving DecidableEq, Repr

/-- The PRIV block (R61 to R66, R87 to R97): the audit epoch and the values in force, the staged key, the OTP
record in progress, the consecutive failures and the end of the hold. -/
structure Priv where
  epoch : Nat := 0
  pairId : Nat := 0
  barMap : Nat := 0x76543210
  key : Option (BitVec 256) := none
  stagedKey : BitVec 256 := 0#256
  otp : Option OtpWork := none
  failures : Nat := 0
  holdEnd : Nat := 0
  deriving DecidableEq, Repr

/-! ### Sessions, host lanes, basins and jobs (05) -/

/-- A sequenced frame that the device sent and keeps until ACKSEQ passes it (R210). `req` is the
sequence number of the REGREQ it answers, if it is a REGRESP (R59). -/
structure Kept where
  seq : Nat
  frame : List Byte
  sentAt : Nat
  retx : Nat
  req : Option Nat
  deriving DecidableEq, Repr

/-- A sequenced frame waiting for room in the transmit window (R210), and the basin with the count that its sending consumes
(R219). -/
structure ToSend where
  type : Nat
  flags : Nat
  basin : Nat
  status : Nat
  offset : Nat
  payload : List Byte
  req : Option Nat
  consume : Option (Nat × Nat) := none
  deriving DecidableEq, Repr

/-- A NET session (R58 to R63, R200 to R211). -/
structure Session where
  open_ : Bool := false
  priv : Bool := false
  lane : Nat := 0
  mac : Nat := 0
  nh : BitVec 128 := 0#128
  nd : BitVec 128 := 0#128
  evmask : Nat := 0
  chalStatus : Nat := 0
  chalAt : Nat := 0
  proving : Bool := false
  grant : Option (Nat × List Byte) := none
  expected : Nat := 0
  nextSeq : Nat := 0
  ackSeq : Nat := 0
  kept : List Kept := []
  queue : List ToSend := []
  ackDue : Option Nat := none
  gapNakAt : Option Nat := none
  gapOpen : Bool := false
  lastRx : Nat := 0
  ackMoved : Nat := 0
  deriving DecidableEq, Repr

/-- What a host lane transmits: a frame as its bytes with FCS, or a Delay_Req of the PTP assist. -/
inductive HostTx where
  | frame (bytes : List Byte)
  | delayReq (seq : Nat) (tagged : Bool) (vid pcp domain : Nat)
  deriving DecidableEq, Repr

/-- A frame in a launch queue: its launch tick, the tick it was queued, and its content (R131). -/
structure Launch (α : Type) where
  tick : Nat
  queued : Nat
  item : α
  deriving DecidableEq, Repr

/-- A frame in an ingest FIFO: its bytes without FCS, its YRT byte count and how many of those have left (R222, R228). -/
structure RxFrame where
  bytes : List Byte
  yrt : Nat
  gone : Nat := 0
  deriving DecidableEq, Repr

/-- A host lane (R193 to R197, R222 to R229). `rx` holds frames that have left the FIFO and await their
YRT command; `d` is D of R222. -/
structure HostLane where
  mac : Option Nat := none
  fifo : List RxFrame := []
  rx : List RxFrame := []
  d : Nat := 0
  creditLp : Nat := 0
  creditL : NMap Nat := []
  creditAt : Nat := 0
  yrtRx : Nat := 0
  pauseEnd : Nat := 0
  reconfig : Bool := false
  tx : List HostTx := []
  held : List HostTx := []
  launch : List (Launch HostTx) := []
  deriving DecidableEq, Repr

/-- The counts of one basin: P, C and whether the basin counts as enabled (R213, R214). -/
structure Basin where
  p : Nat := 0
  c : Nat := 0
  deriving DecidableEq, Repr

/-! ### Timebase and PTP assist (03) -/

/-- A capture cell: the last captured tick and the capture count (R135). -/
structure CapCell where
  tick : Nat := 0
  count : Word := 0#32
  deriving DecidableEq, Repr

/-- The timebase (R99 to R138): whether the counter runs, the anchor (C, A), the rate, the integrator and
the last sample, the tick selected for conversion, the capture cells and PPS_OUT. A is counted in 2^-16 ns. -/
structure TimeS where
  running : Bool := false
  anchorC : Nat := 0
  anchorA : Nat := 0
  rate : Int := 0
  integ : Int := 0
  theta : Int := 0
  selTick : Nat := 0
  cells : NMap CapCell := []
  pps : CapCell := {}
  ppsRef : Nat := 0
  ppsOut : Bool := false
  ppsEnd : Nat := 0
  ppsNext : Option Nat := none
  deriving DecidableEq, Repr

/-- A Sync from the selected master: its sequence number, the tick of its capture, its correction and t2 (R128); for the
last Sync also t2 - t1 once t1 is known. -/
structure SyncRx where
  seq : Nat
  at_ : Nat
  corr : Int
  t2 : Int
  base : Option Int := none
  deriving DecidableEq, Repr

/-- A delay exchange (R129): the sequence number of the Delay_Req, the tick it was sent, t3, the last Sync received before it,
and t4 once the Delay_Resp has arrived. -/
structure DelayX where
  seq : Nat
  at_ : Nat
  t3 : Int
  sync : Option SyncRx
  t4 : Option Int := none
  deriving DecidableEq, Repr

/-- The PTP assist (R120 to R130): the selected port and the identity written to item 0, the recorded grandmaster, the
accepted delay samples (newest first, in 2^-16 ns), the last Sync and those that wait for their Follow_Up, the delay
exchanges in progress, the launch tick of the last Delay_Req, and the deadlines. -/
structure PtpS where
  port : Option Nat := none
  written : Option Nat := none
  grandmaster : Nat := 0
  samples : List Int := []
  theta : Int := 0
  lastSync : Option SyncRx := none
  waiting : List SyncRx := []
  dreqSeq : Nat := 0
  dreqs : List DelayX := []
  dreqAt : Option Nat := none
  syncRef : Option Nat := none
  annRef : Option Nat := none
  logInterval : Int := -3
  deriving DecidableEq, Repr

/-! ### Twin link (17) -/

/-- A frame sent on a twin lane (R575). -/
inductive TwinFrame where
  | hello (h : Hello)
  | heart (h : Heart)
  | sum (bar first : Nat) (sums : List Nat)
  | delta (seq : Nat) (d : Delta)
  | resend (seq : Nat)
  | fetch (f : Fetch)
  | relay (lane : Nat) (frame : List Byte)
  | align (a : Align)
  | test (payload : List Byte)
  deriving DecidableEq, Repr

/-- The counts of a health period (R595). -/
structure Health where
  ok : Nat := 0
  bad : Nat := 0
  unmatched : Nat := 0
  tilePrbs : Nat := 0
  twinPrbs : Nat := 0
  dramCorr : Nat := 0
  sramCorr : Nat := 0
  alarm : Bool := false
  gap : Bool := false
  deriving DecidableEq, Repr

/-- A nozzle-table write held for its stamped line (R587): entry, the fields written and their values. -/
structure NozWrite where
  bar : Nat
  index : Nat
  mask : Nat
  bits : Nat
  stamp : Nat
  deriving DecidableEq, Repr

/-- The twin unit (R575 to R615). Pair ticks are the counter plus `offset`. -/
structure TwinS where
  offset : Int := 0
  theta : Int := 0
  newest : Nat := 0
  heartTx : Nat := 0
  heartAt : Nat := 0
  offsetAt : Nat := 0
  peerState : Nat := 0
  pairedId : Nat := 0
  paired : Bool := false
  linkLast : Option Nat := none
  pinLast : Option Nat := none
  linkAlarmed : Bool := false
  pinAlarmed : Bool := false
  ownCommitted : NMap Nat := []
  peerCommitted : NMap Nat := []
  fromSlot : NMap Nat := []
  ownSums : NMap (Nat × Nat) := []
  peerSums : NMap (Nat × Nat) := []
  runs : NMap Nat := []
  mismatch : Nat × Nat × Nat := (0, 0, 0)
  deltaTx : Nat := 0
  kept : List (Nat × TwinFrame) := []
  deltaRx : Nat := 0
  gapAt : Option Nat := none
  early : List (Nat × Delta) := []
  peerC : NMap Nat := []
  toldC : NMap Nat := []
  health : Health := {}
  healthAt : Nat := 0
  declared : Option (Nat × Nat) := none
  held : Bool := false
  sluiceOut : Bool := false
  monoEnd : Nat := 0
  sluiceIn : Bool := false
  sluiceInAt : Nat := 0
  relay : List Nat := []
  helloAt : Nat := 0
  beatAt : Nat := 0
  tx : List (Nat × TwinFrame) := []
  txAt : NMap Nat := []
  deriving DecidableEq, Repr

/-! ### Adaptive VCORE and press I/O (20, 21) -/

/-- A PMBus transaction that the device sent (R669). -/
structure PmbXfer where
  address : Nat
  pec : Bool
  command : Nat
  data : Nat
  deriving DecidableEq, Repr

/-- The VCORE loop (R670 to R675): the linear exponent once VOUT_MODE is read, the calm count, the lowest
WEIR_SPEED of the interval, and whether the loop has stopped or the regulator is locked out. -/
structure AvsS where
  exponent : Option Int := none
  lockedOut : Bool := false
  stopped : Bool := true
  calm : Nat := 0
  smin : Nat := 256
  intervalAt : Nat := 0
  sent : List PmbXfer := []
  deriving DecidableEq, Repr

/-- A transition held for its filter time (R678): captured tick, end of the hold and the new level. -/
structure PioHold where
  tick : Nat
  endTick : Nat
  level : Bool
  deriving DecidableEq, Repr

/-- One press input (R677, R678): its raw level at the pin, the accepted level, the hold in progress, the
tick of the last accepted edge and the count of accepted edges. Levels are before inversion. -/
structure PioIn where
  raw : Bool := false
  level : Bool := false
  hold : Option PioHold := none
  tick : Nat := 0
  count : Word := 0#32
  deriving DecidableEq, Repr

/-- Press inputs, the levels on the output pins (R636, R683), those before the first change of a tick and the tick of the last
stop-request edge (R686). -/
structure PioS where
  ins : NMap PioIn := []
  pins : BitVec 16 := 0#16
  pinsWas : Option (Nat × BitVec 16) := none
  stopAt : Option Nat := none
  deriving DecidableEq, Repr

/-- The source levels of the press outputs (R682): SPEED_LIMIT, STOP_REQ, REV_PERMIT and the inspection mark. -/
structure Lines where
  speedLimit : Bool := false
  stopReq : Bool := false
  revPermit : Bool := false
  mark : Bool := false
  deriving DecidableEq, Repr

/-! ### Position (04) -/

/-- An edge hold in progress (R143 to R145). -/
structure EdgeHold where
  tick : Nat
  endTick : Nat
  level : Bool
  deriving DecidableEq, Repr

/-- One of the nine edge inputs: the accepted level and the hold in progress. -/
structure EdgeIn where
  level : Bool := false
  hold : Option EdgeHold := none
  deriving DecidableEq, Repr

/-- The last index record of an encoder (POS mailbox items 32, 33). -/
structure IndexRecord where
  delta : Int := 0
  rezeroed : Bool := false
  missing : Bool := false
  held : Bool := false
  tick : Nat := 0
  deriving DecidableEq, Repr

/-- An encoder (R148 to R160): count, phase since the last re-zero, counts since the last index, the run of
policy 3, the errors of the present and the last 1 ms window, how many errors and index discrepancies the present tick
has brought (R152), and its recent counts by tick (R178). -/
structure Encoder where
  count : Int := 0
  phase : Int := 0
  since : Int := 0
  seen : Bool := false
  errs : NMap Nat := []
  errAt : Nat := 0
  errNow : Nat := 0
  disAt : Option Nat := none
  runFirst : Int := 0
  runLen : Nat := 0
  record : IndexRecord := {}
  recent : List (Nat × Int) := []
  deriving DecidableEq, Repr

/-- A speed estimate: speed in 1/16 um/s and twice the midpoint tick of its span (R166). -/
structure Estimate where
  speed : Int
  mid2 : Nat
  deriving DecidableEq, Repr

/-- A speed history (R161 to R166): the ticks of its counting edges, newest first, the direction, the last
estimate and the estimates kept for the acceleration. -/
structure Track where
  reverse : Bool := false
  edges : List Nat := []
  valid : Bool := false
  speed : Int := 0
  accel : Int := 0
  ests : List Estimate := []
  lastEdge : Option Nat := none
  deriving DecidableEq, Repr

/-- The Hall inputs (R168 to R172): the last valid H while synchronised, the steps, the errors of the present and the last
1 ms window, the contrary steps and whether the speeds last disagreed. -/
structure Hall where
  last : Option Nat := none
  steps : Int := 0
  errs : NMap Nat := []
  contrary : Nat := 0
  misSpeed : Bool := false
  track : Track := {}
  deriving DecidableEq, Repr

/-- A serial sensor (R173 to R178): the first falling edge of the word in progress, the consecutive bad words
and the last word record. -/
structure Ssn where
  busy : Option Nat := none
  bad : Nat := 0
  position : Nat := 0
  err : Bool := false
  warn : Bool := false
  words : BitVec 16 := 0#16
  bound : Int := 0
  latch : Nat := 0
  deriving DecidableEq, Repr

/-- A product trigger record (R187): sequence, X_p in 2^-16 um and the tick. -/
structure Trigger where
  seq : Nat
  xp : Int
  tick : Nat
  deriving DecidableEq, Repr

/-- The position model from one tick on (R167): X0, speed, acceleration, whether the speed is valid, the direction and S. -/
structure XSnap where
  at_ : Nat
  x0 : Int
  speed : Int
  accel : Int
  valid : Bool
  reverse : Bool
  scale : Nat
  deriving DecidableEq, Repr

/-- The position unit, with the models of the recent past (R178, R187) and the trigger edges whose X0 still waits for
pending edges. `off` is what X0 adds to the distance of the model source; the stretch is held in 2^-16
ppb, with the ramp from `sFrom` to `sTo` that began at X0 `sAt`, and the window that began at `wX0`, `wD1`. -/
structure PosS where
  ins : NMap EdgeIn := []
  encs : NMap Encoder := []
  hall : Hall := {}
  ssns : NMap Ssn := []
  track : Track := {}
  off : Int := 0
  sFrom : Int := 0
  sTo : Int := 0
  sAt : Option Int := none
  wX0 : Int := 0
  wD1 : Int := 0
  wOn : Bool := false
  wSpoiled : Bool := false
  tracked : Bool := false
  hist : List XSnap := []
  trigWait : List Nat := []
  trigs : NMap Trigger := []
  pend : List Int := []
  lastXp : Option Int := none
  validSince : Nat := 0
  deriving DecidableEq, Repr

/-! ### Jobs, bands and codecs (05, 06) -/

/-- One segment of a band (R243): its bar and chain, place in the band, column range and DCRC, and whether a
decode error has marked it bad (R258). -/
structure Segment where
  bar : Nat
  chain : Nat
  off : Nat
  clen : Nat
  colStart : Nat
  colCount : Nat
  dcrc : Nat
  bad : Bool := false
  deriving DecidableEq, Repr

/-- A landed band (R241, R249): header fields, its stream position and length, and whether it is bad or has
been superseded by a replacement (R239). -/
structure Band where
  number : Nat
  first : Nat
  nlines : Nat
  pos : Nat
  len : Nat
  hist : Bool
  last : Bool
  bad : Bool
  gone : Bool := false
  segs : List Segment := []
  deriving DecidableEq, Repr

/-- A job as accepted (R231) with the landing of its bands: those landed, the next band number and stream
position, and whether the pass has ended. For product jobs: the trigger sequence at the start, the
products judged, those missed, and the bound that END set. `join` marks a job that a standby joined while its
twin was printing it (R594). -/
structure Job where
  id : Nat
  kind : Nat
  bars : Nat
  depth2 : Bool
  lpi600 : Bool
  basin : Nat
  lpb : Nat
  passes : Nat
  start : Nat
  passBytes : Nat
  xstart : Int
  lines : Nat
  ended : Option Nat := none
  bands : List Band := []
  nextBand : Nat := 0
  nextPos : Nat := 0
  passDone : Bool := false
  trig0 : Nat := 0
  judged : Nat := 0
  missed : List Nat := []
  cmdBasin : Nat := 0
  join : Bool := false
  deriving DecidableEq, Repr

/-- A decompressor channel (R252 to R259): the next line of the stream to deliver, the next line to become
due, the band being decoded with its stream position, the history before and at the end of it, the compressed bytes
consumed, and delivered lines that await mapping. -/
structure Dcp where
  on : Bool := false
  next : Nat := 0
  due : Nat := 0
  band : Nat := 0
  src : Option Nat := none
  histIn : List Byte := []
  consumed : Nat := 0
  lines : NMap (List Byte) := []
  deriving DecidableEq, Repr

/-- The jobs (R233): complete records in the order of their completion, each as its tick and its command basin, the running
and the queued job, the decompressor channels, and the tick of the last entry to HALTED (R686). -/
structure JobsS where
  order : List (Nat × Nat) := []
  cur : Option Job := none
  queued : Option Job := none
  dcps : NMap Dcp := []
  haltAt : Option Nat := none
  deriving DecidableEq, Repr

/-- What SAVE records beside the window (R272): the words of the private record are free values from draw
`rec` on, and the fields are what RESTORE brings back. -/
structure CmpSnap where
  draw : Nat
  window : List Byte
  icount : Nat
  ocount : Nat
  bits : Nat
  held : Nat
  done : Bool
  hist : Bool
  deriving DecidableEq, Repr

/-- A compressor channel (R262 to R272): mailbox items 0 to 4, the counts, the bytes written to the
present destination, the held bits of the unfinished byte, the window and the state before SAVE. -/
structure Cmp where
  src : Nat := 0
  srcLen : Nat := 0
  dst : Nat := 0
  cap : Nat := 0
  area : Nat := 0
  icount : Nat := 0
  ocount : Nat := 0
  written : Nat := 0
  held : Nat := 0
  window : List Byte := []
  prior : Nat := 0
  deriving DecidableEq, Repr

/-! ### Raster path and fire scheduling (07, 08, 11) -/

/-- A bar of the raster path since the last job start (R282, R295, R296): row delays and trims by
t × 4 + r, tile phases, the next stream line to map, the job line held by each line slot (plus one), the
presence bits by slot × 22 + tile, the writes held for their line (R587), the entries whose changed factor waits for
the next line mapped, which no trigger has fixed yet (R327), and the seam buffers: the overlap columns of a joint, row
and line that one of its two tiles has fetched and the other has not reached, under `seamKey` (R298). -/
structure BarRast where
  k : NMap Int := []
  f : NMap Int := []
  kt : NMap Nat := []
  next : Nat := 0
  mapped : NMap Nat := []
  present : NMap Nat := []
  writes : List NozWrite := []
  facs : List Nat := []
  seam : NMap (List Nat) := []
  deriving DecidableEq, Repr

/-- A pace frame (R312). -/
structure Pace where
  s : Nat := 0
  t0 : Nat := 0
  l0 : Int := 0
  p1 : Nat := 0
  p2 : Int := 0
  adv : Int := 0
  firelim : Int := 0
  nomap : Bool := true
  sent : Bool := false
  deriving DecidableEq, Repr

/-- A bar of the fire scheduler: first slot of the job, next slot to transmit, recent transmissions
(slot, tick), the clean stop slot while it binds FIRELIM, its last value, the last pace frame, the frames from the map in
force on, newest first (R317), and the warm-up range pending (R309, R319, R320, R312, R422), whether R423 has been
checked, and the resume slots of hard stops by tile (R334). -/
structure BarFire where
  first : Int := 0
  next : Int := 0
  recent : List (Int × Nat) := []
  stop : Option Int := none
  sigma : Int := 0
  pace : Pace := {}
  maps : List Pace := []
  warm : Option (Int × Int) := none
  warmChecked : Bool := false
  resume : NMap Int := []
  deriving DecidableEq, Repr

/-- A tile as the fire scheduler sees it (R322 to R336): last temperature and supply, whether it has
reported, stale, skipped nozzles, last STATUS tick, the values of the last SET, whether one under R324 is withheld,
LASTFIRED since the job start and as last reported, the APPLY of each SET and FACTORS frame that the tile has not reached,
and the SETs (APPLY, IDLEWARM) and factors (entry, APPLY) that wait for room (R375). -/
structure TileFire where
  temp : Int := 0
  volt : Nat := 0
  known : Bool := false
  stale : Bool := false
  skipped : Nat := 0
  statAt : Nat := 0
  setT : Int := 0
  setV : Nat := 0
  owed : Bool := false
  lastFired : Option Int := none
  fired : Int := 0
  sets : List Int := []
  setQ : List (Int × Bool) := []
  facs : List Int := []
  facQ : List (Nat × Int) := []
  deriving DecidableEq, Repr

/-- The fire scheduler's common part: whether each source asserts SPEED_LIMIT, the inspection marks
pending (positions of X0, 2^-16 um) with the end of the mark pulse (R340, R344), XSTART and the lines per inch of the
last job, on which the marks count, and the tick at which the stop sequence started (R445). -/
structure FireS where
  limit : Bool := false
  thermal : Bool := false
  ending : Bool := false
  marks : List Int := []
  markEnd : Nat := 0
  lastS : Nat := 0
  xstart : Int := 0
  lpi : Nat := 1200
  sbAt : Nat := 0
  deriving DecidableEq, Repr

/-! ### Tile link (09) and head health (10) -/

/-- One position of a chain (R387, TLNK items): CAP and LINK as reported, delays in 1/16 tick, the last wire
delays, theta, TLOST, the last STATUS, unlocked-port reports, and what the tile has been sent. -/
structure TilePos where
  cap : Option (List Byte) := none
  answered : Bool := false
  link : List Byte := []
  linked : Bool := false
  dW : Int := 0
  dE : Int := 0
  samples : List Int := []
  theta : Int := 0
  tlost : Option Bool := none
  qfull : Bool := false
  statAt : Nat := 0
  unlockW : Nat := 0
  unlockE : Nat := 0
  lockedRuns : Nat := 0
  setSent : Bool := false
  facSent : Bool := false
  delaySent : Bool := false
  deriving DecidableEq, Repr

/-- A tile lane (R350 to R364, R392): frames sent, their count, training and rate-ladder
state, PRBS counters and the next tile to probe. -/
structure TileLane where
  pos : NMap TilePos := []
  seq : Nat := 0
  tx : List (List Byte) := []
  txAt : Nat := 0
  maxRate : Nat := 3
  prev : Nat := 0
  cap : Nat := 3
  fails : NMap Nat := []
  dwellAt : Option Nat := none
  asked : Bool := false
  prbs : Nat := 0
  eqPrbs : Nat := 0
  eqStep : Nat := 0
  switchAt : Nat := 0
  huntAt : Nat := 0
  inverted : Bool := false
  probe : Nat := 0
  probeAt : Nat := 0
  probed : Option (Nat × Nat) := none
  prbsAt : Nat := 0
  syncAt : Nat := 0
  deriving DecidableEq, Repr

/-- An outstanding MEAS command (R402 to R405). -/
structure MeasCmd where
  tag : Nat
  row : Nat
  col : Nat
  count : Nat
  at_ : Nat
  deriving DecidableEq, Repr

/-- The history of a nozzle (R408 to R411): m, n_f, b and the consecutive counts of WEAK, OUTDRIFT, RANGE,
SHORT and OPEN. -/
structure NozHealth where
  m : Nat := 0
  nf : Nat := 0
  base : Nat := 0
  counts : List Nat := [0, 0, 0, 0, 0]
  deriving DecidableEq, Repr

/-- A tile of the head-health block (R402 to R419): the scan, the command outstanding, and the number of columns that a
retry names (R405). -/
structure TileHealth where
  row : Nat := 0
  col : Nat := 0
  tag : Nat := 0
  out : Option MeasCmd := none
  issued : Option Nat := none
  again : Option Nat := none
  scansNow : Nat := 0
  scanTick : Nat := 0
  tRange : Option (Int × Int) := none
  vRange : Option (Nat × Nat) := none
  supplyBad : Bool := false
  serial : Nat := 0
  rebaseTick : Nat := 0
  scans : Nat := 0
  deriving DecidableEq, Repr


/-! ### Cameras (12) -/

/-- An issued trigger (R454, R457, R458): issue tick, position in 1/256 um, and the exposure latched for its frame
with the issue tick of that frame's first trigger. -/
structure CamTrig where
  tick : Nat
  pos : Int
  exp : Nat
  mode : Bool
  first : Nat
  deriving DecidableEq, Repr

/-- A line in a line store: frame and place in the frame, the pixels as captured, its store bytes and its trigger.
A line dropped under R462 leaves a mark without bytes. -/
structure CamLine where
  frame : Nat
  line : Nat
  fmt : Nat
  pixels : List Nat
  bytes : Nat
  trig : Option CamTrig
  dropped : Bool
  exp : Nat
  mode : Bool
  deriving DecidableEq, Repr

/-- A camera port (R446 to R463, R476, R477): the frames started, the complete lines of the frame in progress, the
line store, untaken triggers, the highest position triggered, the trigger pulse, the triggers issued since
enable, whether the next trigger is the first of a frame, the latched exposure, the exposure before the last
FRAME boundary that changed it with that boundary's tick, the exposure of the present frame, and the active
copy of the tables. -/
structure CamPort where
  frames : Nat := 0
  line : Nat := 0
  store : List CamLine := []
  trigs : List CamTrig := []
  top : Int := 0
  due : Option Nat := none
  pulse : Bool := false
  pulseEnd : Nat := 0
  issued : Nat := 0
  newFrame : Bool := true
  exp : Nat := 0
  mode : Bool := false
  first : Nat := 0
  oldExp : Nat := 0
  oldMode : Bool := false
  expAt : Option Nat := none
  frameExp : Nat := 0
  frameMode : Bool := false
  frameFirst : Nat := 0
  cut : Option Nat := none
  taps : Nat := 0
  copy : Bool := false
  pend : Bool := false
  deriving DecidableEq, Repr

/-- An open instance of a statistics window (R470 to R474): its number k, the frame, flags, exposure echo, the
first line's tick and position, the last line's position, the lines counted, and per cell the pixel count and
three density sums. -/
structure CamInst where
  k : Nat
  frame : Nat
  isPartial : Bool
  dropped : Bool
  exp : Nat
  mode : Bool
  tick : Nat
  posFirst : Int
  posLast : Int
  lines : Nat
  cells : List (List Nat)
  deriving DecidableEq, Repr

/-- A statistics window: S in 1/256 um, LEN and REP in um, the open instances and the number of the last instance
that has closed, plus one. -/
structure CamWin where
  s : Int := 0
  len : Nat := 0
  rep : Nat := 0
  open_ : List CamInst := []
  closed : Nat := 0
  deriving DecidableEq, Repr

/-- The image pipeline (R461, R465, R467): the ports, tables by port, copy, table and index, the port of the last
line taken, the windows, and the load of the present and the previous 1 ms window with the peak. -/
structure CamS where
  ports : NMap CamPort := []
  tables : NMap Nat := []
  last : Nat := 1
  wins : NMap CamWin := []
  loadWin : Nat := 0
  loadNow : Nat := 0
  loadPrev : Nat := 0
  peak : Nat := 0
  deriving DecidableEq, Repr

/-! ### Colour loop (13) -/

/-- The cell state of the colour loop (R491, R494): acc, WEAK and OUT counts, the last D, n_px and e, and the
learning sum and count with the learned target. -/
structure LoopCell where
  acc : Int := 0
  weak : Nat := 0
  out : Nat := 0
  d : Nat := 0
  npx : Nat := 0
  e : Int := 0
  sum : Nat := 0
  cnt : Nat := 0
  target : Nat := 0
  deriving DecidableEq, Repr

/-- A bar under control (R489; LOOP items 0 to 7): learning cycles left, cycles run, its learning sum and count,
the TMODE 1 target, the cells at limit and skipped in the last cycle, its tick, and L_apply (R488). -/
structure LoopBar where
  learn : Nat := 0
  cycles : Nat := 0
  sum : Nat := 0
  cnt : Nat := 0
  target : Nat := 0
  limit : Nat := 0
  skipped : Nat := 0
  tick : Nat := 0
  lapply : Int := 0
  deriving DecidableEq, Repr

/-- An owned window (R484): the strip it is placed for, the stage (0 paper patch, 1 + i bar i), the row of the
instance expected next, and the exposure echo of its paper record. -/
structure LoopWin where
  strip : Nat := 0
  stage : Nat := 0
  row : Nat := 0
  echo : Option (Nat × Bool) := none
  deriving DecidableEq, Repr

/-- The records of one bar in one strip (R490, R500): windows whose row-3 instance has closed, records used, windows
with a record discarded, and stale records. -/
structure LoopStrip where
  ended : Nat := 0
  good : Nat := 0
  disc : List Nat := []
  stale : Nat := 0
  deriving DecidableEq, Repr

/-- The colour loop (R479 to R500): whether it runs for the job and on which bars, the hold condition and mark, the
bars, cells and nozzle bases, the pixels counted and densities measured by strip, the owned windows, the
strips in measurement, cycles due (strip, bar) and the cell that item 8 selects. -/
structure LoopS where
  on : Bool := false
  bars : List Nat := []
  held : Bool := false
  h : Option Int := none
  bar : NMap LoopBar := []
  cells : NMap LoopCell := []
  base : NMap Int := []
  npx : NMap Nat := []
  meas : NMap (List Nat) := []
  wins : NMap LoopWin := []
  strips : NMap LoopStrip := []
  due : List (Nat × Nat) := []
  sel : Nat := 0
  deriving DecidableEq, Repr

/-! ### The Weir (14) -/

/-- An activity of the Weir (R509, R510, R518): level, bank, stall count, tokens admitted, and whether one of its
words could take no token in the present period. -/
structure WeirAct where
  level : Nat := 0
  bank : Nat := 0
  stall : Nat := 0
  admitted : Nat := 0
  stalled : Bool := false
  deriving DecidableEq, Repr

/-- The Weir (R506, R509 to R521, R716, R717): activities, spare, the start of the present period, whether periods have
begun, whether the speed of the present period has been measured, whether throttling is in force, periods of low speed in a
row, the two reasons for OVERSUB, and whether the reset settings of a block reset take effect at the next period start. -/
structure WeirS where
  acts : NMap WeirAct := []
  spare : Nat := 0
  start : Nat := 0
  begun : Bool := false
  sped : Bool := false
  throttled : Bool := false
  slow : Nat := 0
  overSet : Bool := false
  overNow : Bool := false
  resetDue : Bool := false
  deriving DecidableEq, Repr

/-! ### The DRAM controller (15) -/

/-- A transaction in a subchannel queue or in flight (R526, R532, R536): address, port, bursts, write, read-modify-write,
the bar whose feeder it serves, and its admission tick. -/
structure DramTxn where
  pa : Nat
  port : Nat
  bursts : Nat
  write : Bool
  rmw : Bool
  bar : Nat
  admitAt : Nat
  seq : Nat := 0
  deadline : Nat := 0
  deriving DecidableEq, Repr

/-- A subchannel (R532, R533, R537 to R552): queue, reads in flight, transactions that wait at their port, open rows
by bank and their last access, debt, the end of the refresh interval, the end of a refresh in progress, last
pause, retraining step and its failures, trained centres, the next block to scrub and the tick of the last scrub,
and whether recovery starts when the pause ends (R558). -/
structure DramSc where
  queue : List DramTxn := []
  flight : List DramTxn := []
  waits : List DramTxn := []
  rows : NMap Nat := []
  used : NMap Nat := []
  debt : Nat := 0
  intEnd : Nat := 0
  busy : Nat := 0
  pauseAt : Option Nat := none
  step : Nat := 0
  fails : Nat := 0
  centres : NMap Nat := []
  scrub : Nat := 0
  scrubAt : Nat := 0
  recovAfter : Bool := false
  deriving DecidableEq, Repr

/-- Completions of a port (DRAM items 16 to 31): transactions, those after their deadline, and the longest wait. -/
structure DramPort where
  done : Nat := 0
  late : Nat := 0
  wait : Nat := 0
  deriving DecidableEq, Repr

/-- An error record (DRAM items 0 and 1): address, port, word in burst, scrub, syndrome, bits, tick. -/
structure DramErr where
  pa : Nat := 0
  port : Nat := 0
  word : Nat := 0
  scrub : Bool := false
  syndrome : Nat := 0
  bits : Nat := 0
  tick : Nat := 0
  deriving DecidableEq, Repr

/-- The controller: subchannels, ports, the last correctable error, the freeze and parity records, the held
entries by item, the subchannel of the recorded error, the tick of the freeze, whether release training runs, the number
of transactions admitted, and reads whose data waits for an older read of their port (R538). -/
structure DramS where
  scs : NMap DramSc := []
  ports : NMap DramPort := []
  corr : DramErr := {}
  froze : DramErr := {}
  parity : Nat × Nat × Nat := (0, 0, 0)
  heldQ : NMap DramTxn := []
  frzSc : Nat := 0
  frzAt : Nat := 0
  training : Bool := false
  admits : Nat := 0
  back : List DramTxn := []
  deriving DecidableEq, Repr

/-! ### Check-value units (16) -/

/-- A context of a channel (R559 to R567): running value, last result, unit count, MISMATCH, whether a unit is open, and the
bytes of the tick of its last byte with the starts of units among them (R573). -/
structure ChkCtx where
  r : Nat := 0
  res : Nat := 0
  units : Nat := 0
  mis : Bool := false
  unit : Bool := false
  seenAt : Nat := 0
  seen : List (Bool × List Byte) := []
  deriving DecidableEq, Repr

/-- The channels: POLY and INIT where they differ from PRESET 1, the contexts by channel × 64 + context, and the ticks at
which channels were last disabled (R574). -/
structure ChkS where
  poly : NMap Nat := []
  init : NMap Nat := []
  ctx : NMap ChkCtx := []
  off : NMap Nat := []
  deriving DecidableEq, Repr

/-! ### Thermal management (18) -/

/-- A sensor (R616 to R622): last reading (1/128 degC), fault, good readings in a row, fast sampling, readings in a
row outside the margin, rate of rise, last count and tick, readings in a row below the limit of the level, and
the readings kept for the rate, newest first. -/
structure ThermSensor where
  temp : Int := 0
  seen : Bool := false
  fault : Bool := false
  good : Nat := 0
  fast : Bool := false
  out : Nat := 0
  rate : Int := 0
  count : Nat := 0
  tick : Nat := 0
  below : Nat := 0
  hist : List (Nat × Int) := []
  deriving DecidableEq, Repr

/-- The thermal block: the sensors, whether throttling is requested, and the tick at which that changed (R524). -/
structure ThermS where
  sens : NMap ThermSensor := []
  throttle : Bool := false
  throttleAt : Nat := 0
  deriving DecidableEq, Repr

end Sys2Proof.Machine
end

