-- ==== Sys2Proof/Machine/State.lean ====
section
/-!
DEFINITION. The state of the block, the reasons a command can stop, and the state after reset.
-/
namespace Sys2Proof.Machine

/-- Reasons for a fault. No command of this block faults (INVENTORY.md, Faults): refused writes, error flags
and the side states are ordinary effects. The type is closed and has one constructor that no meaning uses. -/
inductive Fault where
  /-- Raised by nobody; kept so that the type is inhabited. Safe. -/
  | unused
  deriving DecidableEq, Repr

/-- Reasons for a refusal. -/
inductive Refusal where
  /-- A command without a meaning, by its mnemonic. Raised by `exec`'s refused arms only. Safe: nothing is claimed. -/
  | notModelled (mnemonic : String)
  deriving DecidableEq, Repr

/-- The state of the device. `regs` is the register file: one entry for each register word that differs from
its reset value. `ntHost` and `ntEngine` hold the nozzle entries that software and engines wrote, with the tick. `staged`, `waiting` and `committed` are the shadow storage of R79 to R83 by address. `win`
is the window of R86, `early` the commands of this tick that have acted ahead of their turn (R111, R427). `free`
is the model's own counter for free values (log entry 4), `raised` the flags (page, number, detail) that the handshake in
progress sets, empty between commands (R73), and `pending` its queue of waiting commands. -/
structure State where
  counter : Tick := 0#80
  regs : NMap Word := []
  staged : NMap Word := []
  waiting : NMap Waiting := []
  committed : NMap Word := []
  hdr : NMap Hdr := []
  dev : Dev := {}
  part : Part := {}
  svc : List Byte := []
  priv : Priv := {}
  sess : NMap Session := []
  lanes : NMap HostLane := []
  basins : NMap Basin := []
  time : TimeS := {}
  ptp : PtpS := {}
  twin : TwinS := {}
  avs : AvsS := {}
  pio : PioS := {}
  rings : NMap Ring := []
  pos : PosS := {}
  lines : Lines := {}
  jobs : JobsS := {}
  cmps : NMap Cmp := []
  saves : List CmpSnap := []
  noz : NMap Word := []
  ntHost : List (Nat × Nat) := []
  ntEngine : List (Nat × Nat) := []
  thr : NMap Nat := []
  rast : NMap BarRast := []
  bars : NMap BarFire := []
  tiles : NMap TileFire := []
  fire : FireS := {}
  tlnk : NMap TileLane := []
  nozHealth : NMap NozHealth := []
  tileHealth : NMap TileHealth := []
  cam : CamS := {}
  loop : LoopS := {}
  weir : WeirS := {}
  dram : DramS := {}
  chk : ChkS := {}
  therm : ThermS := {}
  mem : List Host.Cell := []
  win : Window := {}
  early : List Instr := []
  free : Nat := 0
  raised : List (Nat × Nat × Nat) := []
  pending : List Instr := []
  deriving DecidableEq, Repr

/-- The machine held in RESET after power-up: every field at its reset value, an empty queue (R25, R634,
R659; log entry 5). -/
def State.reset : State := {}

end Sys2Proof.Machine
end

