-- ==== Sys2Proof/Machine/Regs.lean ====
section
/-!
DEFINITION. The register file: the page map of R36, the constants of each page header, the reset value of
every register, and reads and writes of registers and fields.
-/
namespace Sys2Proof.Machine

/-! ### Page numbers (R36): bits [23:12] of the page base -/

def pgSYS : Nat := 0x000
def pgPRIV : Nat := 0x001
def pgWEIR : Nat := 0x002
def pgTHRM : Nat := 0x003
def pgHLNK (n : Nat) : Nat := 0x010 + n
def pgYRT : Nat := 0x014
def pgBASN : Nat := 0x018
def pgBASNW : Nat := 0x019
def pgTIME : Nat := 0x020
def pgPTPA : Nat := 0x021
def pgCHK : Nat := 0x030
def pgDFL : Nat := 0x040
def pgCMP : Nat := 0x041
def pgDCP : Nat := 0x042
def pgDRAM : Nat := 0x050
def pgSC (n : Nat) : Nat := 0x051 + n
def pgPOS : Nat := 0x060
def pgRAST (b : Nat) : Nat := 0x070 + b
def pgRASTC : Nat := 0x078
def pgFIRE (b : Nat) : Nat := 0x080 + b
def pgFIREC : Nat := 0x088
def pgHLTH (b : Nat) : Nat := 0x0B0 + b
def pgCAMP (p : Nat) : Nat := 0x0C0 + p
def pgCAMI : Nat := 0x0C2
def pgCAMS : Nat := 0x0C3
def pgLOOP : Nat := 0x0D0
def pgTWIN : Nat := 0x0E0
def pgPIO : Nat := 0x0F0
def pgTLNK (n : Nat) : Nat := 0x100 + n

/-- Whether a number lies in `[lo, lo + n)`. -/
def inRun (x lo n : Nat) : Bool := decide (lo ≤ x) && decide (x < lo + n)

/-- The kind and instance of a page number, if a page occupies it (R36). -/
def pageKind (pg : Nat) : Option (PageKind × Nat) :=
  if pg = 0x000 then some (.sys, 0) else if pg = 0x001 then some (.priv, 0)
  else if pg = 0x002 then some (.weir, 0) else if pg = 0x003 then some (.thrm, 0)
  else if inRun pg 0x010 4 then some (.hlnk, pg - 0x010) else if pg = 0x014 then some (.yrt, 0)
  else if pg = 0x018 then some (.basn, 0) else if pg = 0x019 then some (.basnw, 1)
  else if pg = 0x020 then some (.time, 0) else if pg = 0x021 then some (.ptpa, 0)
  else if pg = 0x030 then some (.chk, 0) else if pg = 0x040 then some (.dfl, 0)
  else if pg = 0x041 then some (.cmp, 0) else if pg = 0x042 then some (.dcp, 0)
  else if pg = 0x050 then some (.dram, 0) else if inRun pg 0x051 8 then some (.sc, pg - 0x051)
  else if pg = 0x060 then some (.pos, 0) else if inRun pg 0x070 8 then some (.rast, pg - 0x070)
  else if pg = 0x078 then some (.rastc, 0) else if inRun pg 0x080 8 then some (.fire, pg - 0x080)
  else if pg = 0x088 then some (.firec, 0) else if inRun pg 0x0B0 8 then some (.hlth, pg - 0x0B0)
  else if inRun pg 0x0C0 2 then some (.camp, pg - 0x0C0) else if pg = 0x0C2 then some (.cami, 0)
  else if pg = 0x0C3 then some (.cams, 0) else if pg = 0x0D0 then some (.loop, 0)
  else if pg = 0x0E0 then some (.twin, 0) else if pg = 0x0F0 then some (.pio, 0)
  else if inRun pg 0x100 40 then some (.tlnk, pg - 0x100) else none

/-- The block code of PG_ID.BLOCK (R36). -/
def PageKind.block : PageKind → Nat
  | .sys => 0x01 | .priv => 0x02 | .weir => 0x03 | .thrm => 0x04 | .hlnk => 0x10 | .yrt => 0x11
  | .basn => 0x12 | .basnw => 0x12 | .time => 0x20 | .ptpa => 0x21 | .chk => 0x30 | .dfl => 0x40
  | .cmp => 0x41 | .dcp => 0x42 | .dram => 0x50 | .sc => 0x51 | .pos => 0x60 | .rast => 0x70
  | .rastc => 0x71 | .fire => 0x80 | .firec => 0x81 | .hlth => 0xB0 | .camp => 0xC0 | .cami => 0xC2
  | .cams => 0xC3 | .loop => 0xD0 | .twin => 0xE0 | .pio => 0xF0 | .tlnk => 0xA0

/-- PG_CAP of each page. The chapters give the word, except for SYS's neighbours PRIV, HLNK, YRT, BASN, TIME
and PTPA, whose word follows from their CLASSES, event flags and mailbox items (log entry 6). -/
def PageKind.cap : PageKind → Nat
  | .sys => 0x00010102 | .priv => 0x0FFF0100 | .weir => 0x00371106 | .thrm => 0x00270102
  | .hlnk => 0x00030102 | .yrt => 0x00070102 | .basn => 0x007E0103 | .basnw => 0x00000101
  | .time => 0x00100102 | .ptpa => 0x00020102 | .chk => 0x02FF0102 | .dfl => 0x00002106
  | .cmp => 0x003F0100 | .dcp => 0x00270100 | .dram => 0x01FF0102 | .sc => 0x00000100
  | .pos => 0x0FFF2106 | .rast => 0x00242106 | .rastc => 0x00002104 | .fire => 0x001D2106
  | .firec => 0x00002106 | .hlth => 0x00352107 | .camp => 0x00012906 | .cami => 0x00000906
  | .cams => 0x003F0102 | .loop => 0x00092107 | .twin => 0x00090103 | .pio => 0x000F0103
  | .tlnk => 0x00140102

/-- PG_PRIV of each page: the privileged groups of 0x80 bytes. -/
def PageKind.privGroups : PageKind → Nat
  | .priv => 0x2 | .weir => 0x2 | .thrm => 0x2 | .dram => 0x2 | .sc => 0x2 | .twin => 0x2
  | .sys => 0x4 | .fire => 0x4 | .chk => 0x8 | .rast => 0x80 | _ => 0x0

/-- Whether the page is a mirror page (PG_CAP.MIRROR). -/
def PageKind.mirror (k : PageKind) : Bool := bitOf k.cap 0

/-- Whether PG_CTL.EN is writable on the page; elsewhere it reads 1 (R705). -/
def PageKind.enWritable : PageKind → Bool
  | .ptpa => true | .yrt => true | .pos => true | .tlnk => true | .camp => true | .loop => true
  | .pio => true | _ => false

/-! ### Reset values -/

/-- Finds the register of a list that lies at a page-relative offset, with its array index. -/
def findReg : List RegDef → Nat → Option (RegDef × Nat)
  | [], _ => none
  | d :: ds, off =>
    if d.off ≤ off ∧ (off - d.off) % d.stride = 0 ∧ (off - d.off) / d.stride < d.count then
      some (d, (off - d.off) / d.stride)
    else findReg ds off

/-- The reset value of WEIR_BUDGETa (R507). -/
def weirBudgetReset : List Nat :=
  [8600, 8600, 256, 2900, 16, 400, 320, 320, 64, 32, 800, 800, 800, 800, 256, 500, 64, 256, 300, 256,
   1000, 4, 320, 4]

/-- Whether an activity is real-time, and whether its words target DRAM (R507). -/
def weirRt (a : Nat) : Bool := [0, 1, 2, 3, 4, 5, 6, 20, 22, 23].contains a

/-- Whether an activity's words target DRAM (R507). -/
def weirDram (a : Nat) : Bool := [0, 1, 2, 3, 5, 10, 11, 12, 13, 14, 15, 17, 18, 19].contains a

/-- The reset value of DRAM_PORTCFGn.VALUE (R534); the table gives none for port 10, which reads 0. -/
def portValueReset : List Nat :=
  [192, 64, 2000, 4000, 4000, 8000, 16000, 32000, 16000, 8000, 0, 0, 0, 0, 0, 0]

/-- Reset values that differ between the instances of a register: HLNK_CTL, BASN_RCFGb, CAM_PCFG,
WEIR_BUDGETa and WEIR_ACTCFGa (R507), and DRAM_PORTCFGn (R534). -/
def resetOf (k : PageKind) (inst : Nat) (d : RegDef) (i : Nat) : Nat :=
  match k with
  | .hlnk => if d.off = 0x40 ∧ inst ≠ 0 then 0x10 else d.reset
  | .basnw =>
    if d.off = 0x44 then if i < 16 then 0xC0 else if i < 24 then 0xC2 else if i < 30 then 0xCC else 0xCE
    else d.reset
  | .camp => if d.off = 0x40 ∧ inst = 1 then 0x20 else d.reset
  | .weir =>
    if d.off = 0x100 then nth 0 weirBudgetReset i
    else if d.off = 0x104 then b2n (weirRt i) * 2 ^ 24 + b2n (weirDram i) * 2 ^ 25
    else d.reset
  | .dram => if d.off = 0x100 then nth 0 portValueReset i else d.reset
  | _ => d.reset

/-- Word `w` of the descriptor table of bar `b` (08, FIRE_TBLDATA): the table lies behind a window, so the
register file holds it above the address space. -/
def tblAddr (b w : Nat) : Nat := 2 ^ 24 + b * 128 + w

/-- The page that owns a register-file address. -/
def pageOf (addr : Nat) : Nat := if 2 ^ 24 ≤ addr then pgFIRE ((addr - 2 ^ 24) / 128) else addr / 4096

/-- The register at an address, if there is one. A descriptor table word is a JOB-class value of its own. -/
def regAt (addr : Nat) : Option RegDef :=
  if 2 ^ 24 ≤ addr then some ⟨0, 1, 4, .job, 0, 0, 0xFFFFFFFF, 0, 0⟩
  else match pageKind (addr / 4096) with
    | none => none
    | some (k, _) => (findReg k.regs (addr % 4096)).map Prod.fst

/-- The reset value of the register word at an address; 0 where there is none (R34). -/
def regReset (addr : Nat) : Word :=
  if 2 ^ 24 ≤ addr then if 64 ≤ addr % 128 then 16384#32 else 0#32 else
  match pageKind (addr / 4096) with
  | none => 0#32
  | some (k, inst) =>
    match findReg k.regs (addr % 4096) with
    | none => 0#32
    | some (d, i) => BitVec.ofNat 32 (resetOf k inst d i)

/-! ### Access to the register file -/

/-- Runs an operation for each element of a list. -/
def State.each {α : Type} (f : State → α → State) (s : State) : List α → State
  | [] => s
  | a :: t => State.each f (f s a) t

/-- The tick of the counter as a number. -/
def State.now (s : State) : Nat := s.counter.toNat

/-- The register word in force at an address. -/
def State.word (s : State) (addr : Nat) : Word := mget (regReset addr) s.regs addr

/-- Writes a register word in force. -/
def State.setWord (s : State) (addr : Nat) (v : Word) : State :=
  { s with regs := mset (regReset addr) s.regs addr v }

/-- Reads a field of a page. -/
def State.rd (s : State) (pg : Nat) (f : Fld) : Nat :=
  bitsOf (s.word (pg * 4096 + f.off)).toNat f.lo f.w

/-- Reads a one-bit field of a page. -/
def State.rdb (s : State) (pg : Nat) (f : Fld) : Bool := s.rd pg f == 1

/-- Reads a field as a signed number. -/
def State.rdi (s : State) (pg : Nat) (f : Fld) : Int := sgn f.w (s.rd pg f)

/-- Writes a field of a page. -/
def State.wr (s : State) (pg : Nat) (f : Fld) (v : Nat) : State :=
  let a := pg * 4096 + f.off
  s.setWord a (BitVec.ofNat 32 (setBits (s.word a).toNat f.lo f.w v))

/-- Writes a signed number to a field. -/
def State.wri (s : State) (pg : Nat) (f : Fld) (v : Int) : State := s.wr pg f (uns f.w v)

/-- The window of the present tick (R86). -/
def State.window (s : State) : Window := if s.win.tick = s.now then s.win else { tick := s.now }

/-- Notes that the hardware raises a count (R86). -/
def State.hit (s : State) (addr lo w k : Nat) (wrap : Bool) : State :=
  { s with win := { s.window with hits := s.window.hits ++ [{ addr := addr, lo := lo, w := w, k := k, wrap := wrap }] } }

/-- Notes that software writes a register (R86). -/
def State.noteWrite (s : State) (addr : Nat) : State :=
  { s with win := { s.window with wrote := addr :: s.window.wrote } }

/-- Raises a field of a word. -/
def raiseField (v : Word) (h : Hit) : Word :=
  let n := bitsOf v.toNat h.lo h.w
  BitVec.ofNat 32 (setBits v.toNat h.lo h.w (if h.wrap then n + h.k else satAdd h.w n h.k))

/-- A value written to a register whose counts the hardware has raised in the same window: the increments apply to the
value written (R86). -/
def State.withHits (s : State) (addr : Nat) (v : Word) : Word :=
  (s.window.hits.filter fun h => decide (h.addr = addr)).foldl raiseField v

/-- Raises a saturating count. -/
def State.addTo (s : State) (pg : Nat) (f : Fld) (k : Nat) : State :=
  (s.wr pg f (satAdd f.w (s.rd pg f) k)).hit (pg * 4096 + f.off) f.lo f.w k false

/-- Raises a saturating count by one. -/
def State.inc (s : State) (pg : Nat) (f : Fld) : State := s.addTo pg f 1

/-- Raises a count that wraps. -/
def State.incWrap (s : State) (pg : Nat) (f : Fld) : State :=
  (s.wr pg f (s.rd pg f + 1)).hit (pg * 4096 + f.off) f.lo f.w 1 true

/-- The hardware changes a control field of its own accord; a value that software has written in the same window stands
(R86). -/
def State.wrSelf (s : State) (pg : Nat) (f : Fld) (v : Nat) : State :=
  if s.window.wrote.contains (pg * 4096 + f.off) then s else s.wr pg f v

/-- The address of a header register of a page (R36, R38). -/
def headAddr (pg off : Nat) : Nat := pg * 4096 + off

/-- The header of a page. -/
def State.head (s : State) (pg : Nat) : Hdr := mget {} s.hdr pg

/-- Replaces the header of a page. -/
def State.setHead (s : State) (pg : Nat) (h : Hdr) : State := { s with hdr := mset {} s.hdr pg h }

/-- PG_CTL.EN as it reads (R705). -/
def State.enabled (s : State) (pg : Nat) : Bool :=
  match pageKind pg with
  | none => false
  | some (k, _) => if k.enWritable then (s.head pg).en else true

/-- Ticks of a number of microseconds. -/
def us (n : Nat) : Nat := 16000 * n

/-- Ticks of a number of milliseconds. -/
def ms (n : Nat) : Nat := 16000000 * n

/-- A field where 0 acts as 1. -/
def atLeast1 (n : Nat) : Nat := if n = 0 then 1 else n

end Sys2Proof.Machine
end

