-- ==== Sys2Proof/Machine/Chk.lean ====
section
/-!
DEFINITION. The check-value channels (16): the CRC model, units, and the bytes of a snoop tap.
-/
namespace Sys2Proof.Machine

/-- The low `w` bits in reverse order. -/
def reflectW (w n : Nat) : Nat := (List.range w).foldl (fun a i => a * 2 + b2n (bitOf n i)) 0

/-- One bit of R559. -/
def chkBit (w p b i r : Nat) : Nat :=
  let top := bitOf r (w - 1) != bitOf b i
  let r2 := r * 2 % 2 ^ w
  if top then Nat.xor r2 (p % 2 ^ w) else r2

/-- The low `k` bits of a byte, highest first. -/
def chkBits (w p b : Nat) : Nat → Nat → Nat
  | 0, r => r
  | k + 1, r => chkBits w p b k (chkBit w p b k r)

/-- One byte of a tap (R559). -/
def chkByte (w p : Nat) (refin : Bool) (r : Nat) (b : Byte) : Nat :=
  chkBits w p (if refin then reflectW 8 b.toNat else b.toNat) 8 r

/-- Bytes of a tap in stream order (R561). -/
def chkBytes (w p : Nat) (refin : Bool) (r : Nat) (bs : List Byte) : Nat := bs.foldl (chkByte w p refin) r

/-- The final value of a running value (R560). -/
def chkFinal (w : Nat) (refout inv : Bool) (r : Nat) : Nat :=
  Nat.xor (if refout then reflectW w r else r % 2 ^ w) (if inv then 2 ^ w - 1 else 0)

/-- WIDTH of a channel, 1 to 64. -/
def State.chkWidth (s : State) (n : Nat) : Nat := s.rd pgCHK (R.CHK_CFG_WIDTH n) + 1

/-- POLY of a channel (CHK item 4n). -/
def State.chkPoly (s : State) (n : Nat) : Nat := mget 0x1EDC6F41 s.chk.poly n

/-- INIT of a channel (CHK item 4n + 1). -/
def State.chkInit (s : State) (n : Nat) : Nat := mget 0xFFFFFFFF s.chk.init n

/-- INIT as a running value. -/
def State.chkStart (s : State) (n : Nat) : Nat := s.chkInit n % 2 ^ s.chkWidth n

/-- A context of a channel. -/
def State.chkCtx (s : State) (n c : Nat) : ChkCtx := mget {} s.chk.ctx (n * 64 + c)

/-- Replaces a context. -/
def State.setChkCtx (s : State) (n c : Nat) (x : ChkCtx) : State :=
  { s with chk := { s.chk with ctx := mset {} s.chk.ctx (n * 64 + c) x } }

/-- The final value of a context. -/
def State.chkValue (s : State) (n c : Nat) : Nat :=
  chkFinal (s.chkWidth n) (s.rdb pgCHK (R.CHK_CFG_REFOUT n)) (s.rdb pgCHK (R.CHK_CFG_INV n)) (s.chkCtx n c).r

/-- The number of instances of a tap (R563); codes above 0x08 act as no tap. -/
def tapInstances (src : Nat) : Nat := nth 0 [0, 4, 16, 32, 8, 8, 40, 40, 2] src

/-- Whether a channel takes bytes: it is enabled, or was disabled in this very tick, whose units complete (R574). -/
def State.chkTakes (s : State) (n : Nat) : Bool :=
  s.rdb pgCHK (R.CHK_CFG_EN n) || (s.rdb pgCHK (R.CHK_CFG_MODE n) && mfind s.chk.off n == some s.now)

/-- Whether a channel is attached to an instance of a tap (R563). -/
def State.chkAttached (s : State) (n src inst : Nat) : Bool :=
  s.chkTakes n && decide (inst < tapInstances src) && s.rd pgCHK (R.CHK_TAP_SRC n) == src &&
  (decide (16 ≤ n) || s.rd pgCHK (R.CHK_TAP_SEL n) == inst)

/-- The bytes that a context has taken in this tick. -/
def State.chkSeen (s : State) (x : ChkCtx) : List (Bool × List Byte) := if x.seenAt = s.now then x.seen else []

/-- Bytes of a tap update a running value (R559, R566). -/
def State.chkRun (s : State) (n : Nat) (r : Nat) (e : Bool × List Byte) : Nat :=
  chkBytes (s.chkWidth n) (s.chkPoly n) (s.rdb pgCHK (R.CHK_CFG_REFIN n))
    (if s.rdb pgCHK (R.CHK_CFG_MODE n) && e.1 then s.chkStart n else r) e.2

/-- A running value is written: the value is taken, then the bytes of this tick are applied to it (R573). -/
def State.chkRewrite (s : State) (n c v : Nat) : State :=
  let x := s.chkCtx n c
  s.setChkCtx n c { x with r := (s.chkSeen x).foldl (s.chkRun n) (v % 2 ^ s.chkWidth n) }

/-- Bytes of one instance of a tap reach one channel; `first` and `last` tell whether they begin and end a unit, and
`expected` gives the value to compare with. Answers the flags to set with their details (R566, R567). -/
def State.chkFeed (s : State) (n inst : Nat) (bs : List Byte) (first last : Bool) (expected : Option Nat) :
    List (Nat × Nat) × State :=
  let c := if 16 ≤ n then inst % 64 else 0
  let x := s.chkCtx n c
  let x := { x with seenAt := s.now, seen := s.chkSeen x ++ [(first, bs)] }
  let unit := s.rdb pgCHK (R.CHK_CFG_MODE n)
  let r := s.chkRun n x.r (first, bs)
  if !unit then ([], s.setChkCtx n c { x with r := r })
  else
    let isOpen := x.unit || first
    if !(last && isOpen) then ([], s.setChkCtx n c { x with r := r, unit := isOpen })
    else
      let f := chkFinal (s.chkWidth n) (s.rdb pgCHK (R.CHK_CFG_REFOUT n)) (s.rdb pgCHK (R.CHK_CFG_INV n)) r
      let bad := match expected with | some e => f != e | none => false
      let s1 := s.setChkCtx n c { x with r := r, res := f, units := (x.units + 1) % 2 ^ 32, mis := x.mis || bad, unit := false }
      ((if bad then [(0, n * 256 + inst)] else []) ++
        (if s.rdb pgCHK (R.CHK_CFG_UNITEV n) then [(1, n * 256 + inst)] else []),
       if bad then s1.inc pgCHK R.CHK_MISCNT else s1)

/-- Bytes of a tap reach every attached channel below `n` (R565). -/
def State.chkTap (s : State) (src inst : Nat) (bs : List Byte) (first last : Bool) (expected : Option Nat) :
    Nat → List (Nat × Nat) × State
  | 0 => ([], s)
  | n + 1 =>
    let (fs, s) := s.chkTap src inst bs first last expected n
    if s.chkAttached n src inst then
      let (gs, s) := s.chkFeed n inst bs first last expected
      (fs ++ gs, s)
    else (fs, s)

/-- CHK_STAT.ENABLED. -/
def State.chkEnabled (s : State) : Nat :=
  (List.range 20).foldl (fun a n => a + b2n (s.rdb pgCHK (R.CHK_CFG_EN n)) * 2 ^ n) 0

/-- A channel starts from INIT in every context, with no units counted (R571). -/
def State.chkClear (s : State) (n : Nat) : State :=
  State.each (fun s c => s.setChkCtx n c { s.chkCtx n c with r := s.chkStart n, units := 0, mis := false, unit := false }) s
    (List.range (if 16 ≤ n then 64 else 1))

/-- A channel starts with its running values kept; a unit left incomplete at the disable stays without a result (R566,
R571). -/
def State.chkKeep (s : State) (n : Nat) : State :=
  State.each (fun s c => s.setChkCtx n c { s.chkCtx n c with unit := false }) s (List.range (if 16 ≤ n then 64 else 1))

/-- Writes POLY. -/
def State.setChkPoly (s : State) (n v : Nat) : State := { s with chk := { s.chk with poly := mset 0x1EDC6F41 s.chk.poly n v } }

/-- Writes INIT. -/
def State.setChkInit (s : State) (n v : Nat) : State := { s with chk := { s.chk with init := mset 0xFFFFFFFF s.chk.init n v } }

/-- The presets of R562: the low nine bits of CHK_CFG, POLY and INIT. -/
def chkPreset : Nat → Option (Nat × Nat × Nat)
  | 1 => some (0x1DF, 0x1EDC6F41, 0xFFFFFFFF)
  | 2 => some (0x1DF, 0x04C11DB7, 0xFFFFFFFF)
  | 3 => some (0x00F, 0x1021, 0xFFFF)
  | 4 => some (0x0CF, 0x8005, 0x0000)
  | 5 => some (0x007, 0x07, 0x00)
  | 6 => some (0x1FF, 0x42F0E1EBA9EA3693, 0xFFFFFFFFFFFFFFFF)
  | _ => none

/-- The effect of an accepted write of CHK_CFGn: the preset, the fields, then the enable (R562, R571, R574). -/
def State.chkConfig (s : State) (n v : Nat) : State :=
  let was := s.rdb pgCHK (R.CHK_CFG_EN n)
  let p := chkPreset (bitsOf v 12 3)
  let v1 := match p with | some (lo, _, _) => setBits v 0 9 lo | none => v
  let s := match p with | some (_, a, b) => (s.setChkPoly n a).setChkInit n b | none => s
  let s := s.wr pgCHK (R.CHK_CFG n) (bitsOf v1 0 11 + bitsOf v1 16 2 * 2 ^ 16)
  if bitOf v 16 && !was then (if bitOf v 17 then s.chkKeep n else s.chkClear n)
  else if was && !bitOf v 16 then { s with chk := { s.chk with off := mput s.chk.off n s.now } }
  else s

/-- Whether a write of CHK_CFGn to an enabled channel changes a field other than EN and UNITEV (R570). -/
def State.chkLocked (s : State) (n v : Nat) : Bool :=
  let old := s.rd pgCHK (R.CHK_CFG n)
  bitOf old 16 && (bitsOf old 0 10 != bitsOf v 0 10 || bitOf old 17 != bitOf v 17 || (chkPreset (bitsOf v 12 3)).isSome)

end Sys2Proof.Machine
end

