-- ==== Sys2Proof/Machine/Coord.lean ====
section
/-!
DEFINITION. Coordinates of the web (04): X0, the stretch in force, the coordinate and speed of each bar.
Lengths are in 2^-16 um, speeds in 1/16 um/s, the stretch in 2^-16 ppb.
-/
namespace Sys2Proof.Machine

/-! ### Coordinates (R180 to R185) -/

/-- An encoder. -/
def State.enc (s : State) (n : Nat) : Encoder := mget {} s.pos.encs n

/-- Replaces the position unit's state. -/
def State.setPos (s : State) (p : PosS) : State := { s with pos := p }

/-- Replaces an encoder. -/
def State.setEnc (s : State) (n : Nat) (e : Encoder) : State :=
  s.setPos { s.pos with encs := mset {} s.pos.encs n e }

/-- SCALE of an encoder; 0 acts as 1. -/
def State.encScale (s : State) (n : Nat) : Nat := atLeast1 (s.rd pgPOS (R.POS_ENCSCALE n))

/-- D1, the distance of encoder 1 (or of encoder 0): count times SCALE (R150). -/
def State.encDist (s : State) (n : Nat) : Int := (s.enc n).count * s.encScale n

/-- The present model source, POS_STAT.MSRC. -/
def State.msrc (s : State) : Nat := s.rd pgPOS R.POS_STAT_MSRC

/-- The unit of stretch: 1 in 2^-16 ppb. -/
def ppbUnit : Int := 65536000000000

/-- The distance that model source `src` has covered (R186). -/
def State.srcDist (s : State) (src : Nat) (stretch : Int) : Int :=
  match src with
  | 1 => s.encDist 0
  | 2 => (s.encDist 1 * ppbUnit).fdiv (ppbUnit + stretch)
  | 3 => s.pos.hall.steps * (s.rd pgPOS R.POS_HALLSCALE : Nat)
  | _ => 0

/-- The roller-0 travel of a stretch window, POS_STRCFG.WIN in 2^-16 um; 0 acts as 1 mm (R181). -/
def State.strWin (s : State) : Int := (atLeast1 (s.rd pgPOS R.POS_STRCFG_WIN) * 65536000 : Nat)

/-- The stretch at a value of X0: linear between the ramp's ends over the net displacement of X0 (R182). -/
def State.stretchAt (s : State) (x0 : Int) : Int :=
  match s.pos.sAt with
  | none => s.pos.sTo
  | some a =>
    let d := clampI 0 s.strWin (x0 - a)
    s.pos.sFrom + ((s.pos.sTo - s.pos.sFrom) * d).fdiv s.strWin

/-- X0 (R180, R186). With encoder 1 as the source the stretch is held, so its ramp does not depend on X0. -/
def State.x0 (s : State) : Int := s.srcDist s.msrc s.pos.sTo + s.pos.off

/-- The distance per count of the model source, S. -/
def State.srcScale (s : State) : Nat :=
  match s.msrc with
  | 1 => s.encScale 0
  | 2 => s.encScale 1
  | 3 => s.rd pgPOS R.POS_HALLSCALE
  | _ => 0

/-- S divided by a number of ticks, in 1/16 um/s (R164). -/
def speedBound (scale ticks : Nat) : Nat := scale * 3906250 / ticks

/-- POS_SPDCFG.STANDTMO in ticks; 0 acts as 1 us. -/
def State.standTmo (s : State) : Nat := us (atLeast1 (s.rd pgPOS R.POS_SPDCFG_STANDTMO))

/-- A speed with the decay of R164 after `ticks` without an edge. -/
def decayed (v : Int) (scale ticks : Nat) : Int :=
  let m := min v.natAbs (speedBound scale ticks)
  if v < 0 then -(m : Int) else m

/-- The speed in force at a tick since the last counting edge: the last estimate, or its decay from STANDTMO on (R164). -/
def State.speedAt (s : State) (t : Nat) : Int :=
  let k := s.pos.track
  match k.lastEdge with
  | none => 0
  | some te =>
    if !k.valid then 0
    else if s.rdb pgPOS R.POS_STAT_DECAY && decide (te + s.standTmo ≤ t) then decayed k.speed s.srcScale (t - te)
    else k.speed

/-- POS_SPEED at the present tick. -/
def State.speed (s : State) : Int := s.speedAt s.now

/-- The acceleration in force, 0 while the speed is not valid (R166). -/
def State.accel (s : State) : Int := if s.pos.track.valid then s.pos.track.accel else 0

/-- The quadratic of R167 after `dt` ticks, limited to less than one count in the direction of travel. -/
def betweenEdges (speed accel : Int) (reverse : Bool) (scale dt : Nat) : Int :=
  let d := (speed * dt * 256000000000 + accel * dt * dt * 128).fdiv 1000000000000000000
  let lim : Int := (scale - 1 : Nat)
  if reverse then clampI (-lim) 0 d else clampI 0 lim d

/-- X0 at a tick before the last change of the model, as the model stood then (R167, R187). -/
def State.x0Past (s : State) (t : Nat) : Option Int :=
  (s.pos.hist.find? fun h => decide (h.at_ ≤ t)).map fun h =>
    let v := if h.at_ + s.standTmo ≤ t then decayed h.speed h.scale (t - h.at_) else h.speed
    if h.valid then h.x0 + betweenEdges v h.accel h.reverse h.scale (t - h.at_) else h.x0

/-- X0 at a tick (R167): the last count plus the quadratic in the time since. -/
def State.x0At (s : State) (t : Nat) : Int :=
  let k := s.pos.track
  if s.pos.hist.any (fun h => decide (t < h.at_)) then (s.x0Past t).getD s.x0
  else
    match k.lastEdge with
    | none => s.x0
    | some te =>
      if !k.valid || decide (t ≤ te) then s.x0
      else s.x0 + betweenEdges (s.speedAt (min t s.now)) s.accel k.reverse s.srcScale (t - te)

/-- The stretch in force. -/
def State.stretch (s : State) : Int := s.stretchAt (s.x0At s.now)

/-- The model as it stands from a tick on joins the history of the recent past, which goes back to the longest hold of an
input and the latch tick of a serial word (R176, R178, R187). -/
def State.noteX (s : State) (t : Nat) : State :=
  let k := s.pos.track
  let h : XSnap := { at_ := t, x0 := s.x0, speed := k.speed, accel := s.accel, valid := k.valid, reverse := k.reverse, scale := s.srcScale }
  let old := s.now - us 131072
  let keep := s.pos.hist.takeWhile fun e => decide (old < e.at_)
  s.setPos { s.pos with hist := h :: keep ++ (s.pos.hist.drop keep.length).take 1 }

/-- X0 predicted at a tick ahead: the quadratic of R167 without the limit, which binds the position shown
between edges and not a prediction (R314; log entry 20). -/
def State.x0Ahead (s : State) (t : Nat) : Int :=
  let k := s.pos.track
  match k.lastEdge with
  | none => s.x0
  | some te =>
    if !k.valid || decide (t ≤ te) then s.x0
    else
      let dt : Int := (t - te : Nat)
      s.x0 + (s.speed * dt * 256000000000 + s.accel * dt * dt * 128).fdiv 1000000000000000000

/-- X_b for a value of X0 (R183). -/
def State.barXOf (s : State) (b : Nat) (x0 : Int) : Int :=
  x0 - s.rdi pgPOS (R.POS_BARDIST b) * 65536 + (s.stretchAt x0 * s.rdi pgPOS (R.POS_BARK b)).fdiv 1000000000

/-- X_b at a tick. -/
def State.barXAt (s : State) (b t : Nat) : Int := s.barXOf b (s.x0At t)

/-- X_b now. -/
def State.barX (s : State) (b : Nat) : Int := s.barXAt b s.now

/-- V_b (R184). -/
def State.barV (s : State) (b : Nat) : Int :=
  match s.pos.sAt with
  | none => s.speed
  | some a =>
    let d := s.x0At s.now - a
    if 0 ≤ d ∧ d < s.strWin then
      s.speed + (s.rdi pgPOS (R.POS_BARK b) * (s.pos.sTo - s.pos.sFrom) * s.speed).fdiv
        (s.strWin * 1000000000)
    else s.speed

/-- A length in units of 1/256 um, truncated towards minus infinity (R185). -/
def to256 (x : Int) : Int := x.fdiv 256

end Sys2Proof.Machine
end

