-- ==== Sys2Proof/Machine/Flags.lean ====
section
/-!
DEFINITION. Event flags of a page header (02, R72 to R77): setting and clearing a flag, its route and IRQ_N.
-/
namespace Sys2Proof.Machine

/-- Header flag APPLIED. -/
def flagApplied : Nat := 22

/-- Header flag REFUSED. -/
def flagRefused : Nat := 23

/-- Sets a flag: PG_EVT.SEQ advances and the flag remembers it (R72). -/
def Hdr.set (h : Hdr) (flag : Nat) : Hdr :=
  { h with flags := h.flags ||| BitVec.ofNat 24 (2 ^ flag), seq := h.seq + 1#8, rem := mput h.rem flag (h.seq + 1#8) }

/-- The flags that a write of PG_EVTCLR leaves set: those outside its mask, and those whose remembered number is newer
than its SEQ (R74). -/
def Hdr.kept (h : Hdr) (v : Nat) : List Nat :=
  let old := fun f => decide ((bitsOf v 24 8 + 256 - (mget 0#8 h.rem f).toNat) % 256 < 128)
  (List.range 24).filter fun f => bitOf h.flags.toNat f && !(bitOf v f && old f)

/-- Clears the flags that a write of PG_EVTCLR names (R74). -/
def Hdr.clear (h : Hdr) (v : Nat) : Hdr :=
  { h with flags := (h.kept v).foldl (fun m f => m ||| BitVec.ofNat 24 (2 ^ f)) 0#24 }

/-- Whether a flag is enabled and its page routed to an event basin (R76, R77). -/
def Hdr.routed (h : Hdr) (flag : Nat) : Bool := bitOf h.evten.toNat flag && bitOf h.evten.toNat 24

/-- The event basin of a page: PG_EVTEN.BASIN, basins 24 to 29; 6 and 7 act as 0 (R77). -/
def Hdr.eventBasin (h : Hdr) : Nat :=
  let sel := bitsOf h.evten.toNat 26 3
  24 + (if sel < 6 then sel else 0)

/-- The flags that drive IRQ_N on one page: set, enabled and routed to IRQ_N (R76). -/
def Hdr.irq (h : Hdr) : Bool :=
  bitOf h.evten.toNat 25 && decide (Nat.land h.flags.toNat (h.evten.toNat % 2 ^ 24) ≠ 0)

end Sys2Proof.Machine
end

