-- ==== Sys2Proof/Machine/Ops.lean ====
section
/-!
DEFINITION. The operations that every block shares: frames to the host, production into basins, event
flags and records, rings and audit entries, refused writes, and changes of the device state.
-/
namespace Sys2Proof.Machine

/-! ### Frames to the host (R198, R210, R226, R714) -/

/-- A host lane. -/
def State.lane (s : State) (n : Nat) : HostLane := mget {} s.lanes n

/-- Replaces a host lane. -/
def State.setLane (s : State) (n : Nat) (l : HostLane) : State := { s with lanes := mset {} s.lanes n l }

/-- A NET session. -/
def State.session (s : State) (k : Nat) : Session := mget {} s.sess k

/-- Replaces a NET session. -/
def State.setSession (s : State) (k : Nat) (x : Session) : State := { s with sess := mset {} s.sess k x }

/-- The MAC address of a host lane: HLNK mailbox item 0, or its reset value (05, HLNK items). -/
def State.laneMac (s : State) (n : Nat) : Nat :=
  match (s.lane n).mac with
  | some m => m
  | none => 0x02 * 2 ^ 40 + s.part.serial.toNat % 2 ^ 38 * 4 + n

/-- Whether a host frame is a CREDIT, by its TYPE byte; CREDIT goes ahead of waiting frames (R226). -/
def HostTx.isCredit : HostTx → Bool
  | .frame bs => byteAt bs 15 == 0x11
  | .delayReq .. => false

/-- Sends a frame on a host lane: nothing in listening mode (YRT_CTL.LISTEN), held while a received PAUSE
stops the lane (R196), a CREDIT ahead of the other held frames (R226). -/
def State.hostSend (s : State) (n : Nat) (x : HostTx) : State :=
  if s.rdb pgYRT R.YRT_CTL_LISTEN then s
  else
    let l := s.lane n
    if s.rdb (pgHLNK n) R.HLNK_STAT_PAUSED then
      let held := if x.isCredit then l.held.filter HostTx.isCredit ++ [x] ++ l.held.filter (!·.isCredit)
        else l.held ++ [x]
      s.setLane n { l with held := held }
    else s.setLane n { l with tx := l.tx ++ [x] }

/-- The counts of a basin. -/
def State.basin (s : State) (b : Nat) : Basin := mget {} s.basins b

/-- Replaces the counts of a basin. -/
def State.setBasin (s : State) (b : Nat) (x : Basin) : State := { s with basins := mset {} s.basins b x }

/-- A frame with its Ethernet FCS behind it (R194, R198). -/
def withFcs (f : List Byte) : List Byte := f ++ leBytes (fcs32 f) 4

/-- The bytes of a YRT frame with its Ethernet header and FCS (R198); short frames are not padded (log entry 87). -/
def State.yrtFrame (s : State) (lane mac type sess flags seq ack basin status offset : Nat)
    (payload : List Byte) : List Byte :=
  let body := leBytes 1 1 ++ leBytes type 1 ++ leBytes sess 1 ++ leBytes flags 1 ++ leBytes seq 4 ++
    leBytes ack 4 ++ leBytes payload.length 2 ++ leBytes basin 1 ++ leBytes status 1 ++
    leBytes offset 8 ++ payload
  withFcs (beBytes mac 6 ++ beBytes (s.laneMac lane) 6 ++ beBytes (s.rd pgYRT R.YRT_CTL_ETYPE) 2 ++ body ++
    leBytes (crc32c body) 4)

/-- Sends an unsequenced frame in a session: it carries the current ACKSEQ, and its SEQ is the next
sequence number unless one is given (R211, R714). -/
def State.sendPlain (s : State) (k type status basin : Nat) (seq : Option Nat) (payload : List Byte) : State :=
  let x := s.session k
  let f := s.yrtFrame x.lane x.mac type k 0 (seq.getD x.nextSeq) x.expected basin status 0 payload
  (s.setSession k { x with ackDue := none }).hostSend x.lane (.frame f)

/-- The number of frames a session keeps unacknowledged (YRT_RTO.TXWIN). -/
def State.txWin (s : State) : Nat := clampN 1 64 (s.rd pgYRT R.YRT_RTO_TXWIN)

/-- C of a device-produced basin advances (R216, R219). -/
def State.readOut (s : State) : Option (Nat × Nat) → State
  | some (b, c) => if (s.basin b).c < c then s.setBasin b { s.basin b with c := c } else s
  | none => s

/-- Sends a sequenced frame now and keeps it; what it consumes is consumed (R205, R210, R219). -/
def State.sendNow (s : State) (k : Nat) (f : ToSend) : State :=
  let x := s.session k
  let bytes := s.yrtFrame x.lane x.mac f.type k f.flags x.nextSeq x.expected f.basin f.status f.offset f.payload
  let kept : Kept := { seq := x.nextSeq, frame := bytes, sentAt := s.now, retx := 0, req := f.req }
  ((s.setSession k { x with
    nextSeq := (x.nextSeq + 1) % 2 ^ 32, kept := x.kept ++ [kept], ackDue := none,
    ackMoved := if x.kept.isEmpty then s.now else x.ackMoved }).hostSend x.lane (.frame bytes)).readOut f.consume

/-- Sends a sequenced frame in a session, or lets it wait while the window is full (R210). -/
def State.sendSeq (s : State) (k : Nat) (f : ToSend) : State :=
  let x := s.session k
  if x.kept.length < s.txWin ∧ x.queue.isEmpty then s.sendNow k f
  else s.setSession k { x with queue := x.queue ++ [f] }

/-- Sends waiting frames while the window has room, at most `n`. -/
def State.pump (s : State) (k : Nat) : Nat → State
  | 0 => s
  | n + 1 =>
    let x := s.session k
    match x.queue with
    | [] => s
    | f :: fs => if x.kept.length < s.txWin then ((s.setSession k { x with queue := fs }).sendNow k f).pump k n else s

/-! ### Basins (R213 to R218) -/

/-- Whether a basin is enabled. -/
def State.basinOn (s : State) (b : Nat) : Bool := s.rdb pgBASNW (R.BASN_RCFG_EN b)

/-- USE of a basin: 0 job data, 1 command, 2 event, 3 archive. -/
def State.basinUse (s : State) (b : Nat) : Nat := s.rd pgBASNW (R.BASN_RCFG_USE b)

/-- Whether the device produces into a basin (R216). -/
def State.basinDev (s : State) (b : Nat) : Bool := decide (2 ≤ s.basinUse b)

/-- The size of a basin in bytes; LOG2SIZE outside 12 to 32 acts as the nearer limit. -/
def State.basinSize (s : State) (b : Nat) : Nat := 2 ^ clampN 12 32 (s.rd pgBASNW (R.BASN_RCFG_LOG2SIZE b))

/-- The DRAM base of a basin. -/
def State.basinBase (s : State) (b : Nat) : Nat := s.rd pgBASNW (R.BASN_RBASE_BASE b) * 4096

/-- The free space of a basin (R213). -/
def State.basinFree (s : State) (b : Nat) : Nat :=
  s.basinSize b - ((s.basin b).p - (s.basin b).c)

/-- The DRAM address of byte `n` of a basin's stream (R213). -/
def State.basinAddr (s : State) (b n : Nat) : Nat := s.basinBase b + n % s.basinSize b

/-- Writes bytes at stream positions from `n` on. -/
def State.basinPut (s : State) (b n : Nat) : List Byte → State
  | [] => s
  | x :: xs => ({ s with mem := memPut s.mem (s.basinAddr b n) x } : State).basinPut b (n + 1) xs

/-- Reads `k` bytes at stream positions from `n` on. -/
def State.basinGet (s : State) (b n : Nat) : Nat → List Byte
  | 0 => []
  | k + 1 => memByte s.mem (s.basinAddr b n) :: s.basinGet b (n + 1) k

/-- Whether a device-produced record of `n` bytes has space (R78, R218). -/
def State.canProduce (s : State) (b n : Nat) : Bool :=
  s.basinOn b && s.basinDev b && decide (n ≤ s.basinFree b)

/-- Sends an EVENT frame to each session below `n` that streams an event basin (R220). -/
def State.streamEvent (s : State) (b pos : Nat) (bs : List Byte) : Nat → State
  | 0 => s
  | n + 1 =>
    let s := s.streamEvent b pos bs n
    let x := s.session n
    if x.open_ && inRun b 24 6 && bitOf x.evmask (b - 24) then
      s.sendSeq n { type := 0x32, flags := 0, basin := b, status := 0, offset := pos, payload := bs, req := none }
    else s

/-- Streams a record of an event basin, at most 2,048 bytes a frame (R220, R226). -/
def State.stream (s : State) (b pos : Nat) (bs : List Byte) : Nat → State
  | 0 => s
  | n + 1 => if bs.isEmpty then s else (s.streamEvent b pos (bs.take 2048) 8).stream b (pos + 2048) (bs.drop 2048) n

/-- Appends bytes to a device-produced basin, P advancing past them (R216). -/
def State.appendRaw (s : State) (b : Nat) (bs : List Byte) : State :=
  let x := s.basin b
  (s.basinPut b x.p bs).setBasin b { x with p := x.p + bs.length }

/-- Writes a record to a device-produced basin, or counts its omission in BASN_RDROP (R78). -/
def State.recordRaw (s : State) (b : Nat) (bs : List Byte) : State :=
  if s.canProduce b bs.length then (s.appendRaw b bs).stream b (s.basin b).p bs (bs.length / 2048 + 1)
  else s.inc pgBASNW (R.BASN_RDROP b)

/-! ### Events (R72 to R78) -/

/-- The word of PG_ID. -/
def pgId (pg : Nat) : Nat :=
  match pageKind pg with
  | none => 0
  | some (k, i) => i + 0x100 + k.block * 2 ^ 16

/-- The 32 bytes of an event record (R77). -/
def State.eventRecord (s : State) (pg flag : Nat) (seq : BitVec 8) (detail : Nat) : List Byte :=
  let b := leBytes s.now 10 ++ leBytes pg 2 ++ leBytes flag 1 ++ leBytes seq.toNat 1 ++ zeros 2 ++
    leBytes detail 8 ++ leBytes (pgId pg) 4
  b ++ leBytes (crc32c b) 4

/-- Sets an event flag: SEQ advances, the flag remembers it, and an event record is written when the flag
is routed to an event basin (R72, R77). Answers the record written, with its basin. -/
def State.raiseRaw (s : State) (pg flag : Nat) (detail : Nat) : Option (Nat × List Byte) × State :=
  let h := s.head pg
  let s1 := s.setHead pg (h.set flag)
  if h.routed flag then
    let b := h.eventBasin
    let r := s.eventRecord pg flag (h.seq + 1#8) detail
    (if s1.canProduce b 32 then some (b, r) else none, s1.recordRaw b r)
  else (none, s1)

/-- Sets the flags that a tap answers. An event record that such a flag writes does not pass the tap again
(log entry 26). -/
def State.raiseChk (s : State) : List (Nat × Nat) → State
  | [] => s
  | (f, d) :: t => (s.raiseRaw pgCHK f d).2.raiseChk t

/-- Bytes pass a tap: every attached channel takes them (R563 to R567). -/
def State.tap (s : State) (src inst : Nat) (bs : List Byte) (first last : Bool) (expected : Option Nat) : State :=
  let (fs, s) := s.chkTap src inst bs first last expected 20
  s.raiseChk fs

/-- Appends a record to a device-produced basin and streams it; its bytes pass tap 0x03 (R220, R563). -/
def State.append (s : State) (b : Nat) (bs : List Byte) : State :=
  ((s.appendRaw b bs).stream b (s.basin b).p bs (bs.length / 2048 + 1)).tap 3 b bs true true none

/-- Writes a record to a device-produced basin, or counts its omission in BASN_RDROP (R78). -/
def State.record (s : State) (b : Nat) (bs : List Byte) : State :=
  if s.canProduce b bs.length then (s.recordRaw b bs).tap 3 b bs true true none else s.recordRaw b bs

/-- Sets an event flag now; the event record, if one is written, passes tap 0x03 (R72, R77, R563). -/
def State.raiseNow (s : State) (pg flag detail : Nat) : State :=
  let (r, s) := s.raiseRaw pg flag detail
  match r with
  | some (b, bs) => s.tap 3 b bs true true none
  | none => s

/-- Sets an event flag in the handshake of the present command: the flags of a handshake are numbered together
(`State.raiseAll`, R73). -/
def State.raise (s : State) (pg flag : Nat) (detail : Nat := 0) : State :=
  { s with raised := s.raised ++ [(pg, flag, detail)] }

/-- Sets the flags of a list in its order. -/
def State.raiseList (s : State) : List (Nat × Nat × Nat) → State
  | [] => s
  | (pg, f, d) :: t => (s.raiseNow pg f d).raiseList t

/-- Puts a flag into a list in ascending order of flag number, behind those of its own number. -/
def insertFlag (e : Nat × Nat × Nat) : List (Nat × Nat × Nat) → List (Nat × Nat × Nat)
  | [] => [e]
  | x :: t => if e.2.1 < x.2.1 then e :: x :: t else x :: insertFlag e t

/-- The flags set in one handshake, in ascending order of flag number (R73). -/
def flagOrder (l : List (Nat × Nat × Nat)) : List (Nat × Nat × Nat) := l.foldl (fun m e => insertFlag e m) []

/-- The flags set in the handshake of a command take their sequence numbers in ascending order of flag number (R73). -/
def State.raiseAll (s : State) : State := ({ s with raised := [] } : State).raiseList (flagOrder s.raised)

/-- Sets an event flag with a signed detail of 64 bits. -/
def State.raiseI (s : State) (pg flag : Nat) (detail : Int) : State := s.raise pg flag (uns 64 detail)

/-- The level of IRQ_N: low while any page drives it (R76). -/
def State.irqN (s : State) : Bool := !(s.hdr.any fun e => e.2.irq)

/-! ### Rings and the audit log (R94 to R97, R710) -/

/-- The key of a ring in the state. -/
def ringKey : SpillRing → Nat
  | .audit => 0 | .defect => 1 | .loop => 2 | .health b => 8 + b.val

/-- The number of entries a ring holds (R96, R343, R426, R500). -/
def ringSize : SpillRing → Nat
  | .audit => 1024 | .defect => 4096 | .loop => 512 | .health _ => 1024

/-- The page and fields that govern a ring: spill enable, spill basin and count of lost entries. -/
def ringCfg : SpillRing → Nat × Fld × Fld × Fld
  | .audit => (pgPRIV, R.PRIV_AUDITCTL_SPILLEN, R.PRIV_AUDITCTL_BASIN, R.PRIV_AUDITLOST)
  | .defect => (pgFIREC, R.FIRE_DEFCTL_SPILL, R.FIRE_DEFCTL_BASIN, R.FIRE_DEFLOST)
  | .loop => (pgLOOP, R.LOOP_LOGCTL_SPILL, R.LOOP_LOGCTL_BASIN, R.LOOP_LOGLOST)
  | .health b => (pgHLTH b.val, R.HLTH_LOGCTL_SPILL, R.HLTH_LOGCTL_BASIN, R.HLTH_LOGLOST)

/-- A ring. -/
def State.ring (s : State) (r : SpillRing) : Ring := mget {} s.rings (ringKey r)

/-- Replaces a ring. -/
def State.setRing (s : State) (r : SpillRing) (x : Ring) : State :=
  { s with rings := mset {} s.rings (ringKey r) x }

/-- Whether spilling of a ring is enabled. -/
def State.spillOn (s : State) (r : SpillRing) : Bool := s.rdb (ringCfg r).1 (ringCfg r).2.1

/-- The slot that the next entry of a ring takes: its number modulo the size (R96). -/
def State.nextSlot (s : State) (r : SpillRing) : Nat := (s.ring r).next % ringSize r

/-- The unspilled entries of a ring; none while spilling is off (R710). -/
def State.unspilled (s : State) (r : SpillRing) : Nat :=
  if s.spillOn r then (s.ring r).unsp.length else 0

/-- Whether the next entry of a ring overwrites one that is not yet spilled (R97, R710). -/
def State.ringFull (s : State) (r : SpillRing) : Bool := s.spillOn r && (s.ring r).unsp.contains (s.nextSlot r)

/-- Copies the oldest unspilled entry to the spill basin if it fits; nothing otherwise (R710). -/
def State.spillOne (s : State) (r : SpillRing) : State :=
  let x := s.ring r
  match x.unsp with
  | [] => s
  | i :: rest =>
    let b := s.rd (ringCfg r).1 (ringCfg r).2.2.1
    let e := (mfind x.slots i).getD []
    if s.spillOn r && s.canProduce b e.length then
      (s.append b e).setRing r { x with unsp := rest }
    else s

/-- After spilling of a ring is switched off, no entry of it is unspilled (R710). -/
def State.spillSync (s : State) (r : SpillRing) : State :=
  if s.spillOn r then s else s.setRing r { s.ring r with unsp := [] }

/-- An entry enters a ring; an unspilled entry that it overwrites is lost and counted (R96, R97). -/
def State.ringPut (s : State) (r : SpillRing) (e : List Byte) : State :=
  let s := if s.ringFull r then s.inc (ringCfg r).1 (ringCfg r).2.2.2 else s
  let x := s.ring r
  let i := s.nextSlot r
  let x1 := { x with slots := mput x.slots i e, next := x.next + 1, unsp := x.unsp.filter (· ≠ i) ++ [i] }
  ((s.setRing r x1).spillSync r).spillOne r

/-- The master code of R41. -/
def masterCode : Master → Nat
  | .svc => 0x0 | .net k => 1 + k.val | .twin => 0x9 | .engine => 0xF

/-- Writes an audit entry (R94, R95): its 32 bytes enter the audit ring and PRIV_AUDITSEQ advances. -/
def State.audit (s : State) (m : Master) (addr val old result : Nat) : State :=
  let q := s.rd pgPRIV R.PRIV_AUDITSEQ
  let b := leBytes s.now 10 ++ leBytes q 4 ++ leBytes addr 3 ++ leBytes val 4 ++ leBytes old 4 ++
    leBytes (masterCode m + 16 * s.priv.epoch) 1 ++ leBytes result 1 ++ zeros 1
  (s.incWrap pgPRIV R.PRIV_AUDITSEQ).ringPut .audit (b ++ leBytes (crc32c b) 4)

/-- A refused write: the register is unchanged, PRIV_REFUSED advances, the page sets REFUSED and an audit
entry carries the STATUS code (R44, R94). -/
def State.refuse (s : State) (m : Master) (addr val code : Nat) : State :=
  ((s.inc pgPRIV R.PRIV_REFUSED).raise (addr / 4096) flagRefused).audit m addr val 0 code

/-! ### The device state (R25 to R31) -/

/-- The word of SYS_STATE. -/
def State.sysState (s : State) : Nat :=
  s.dev.state.code + s.dev.role.code * 2 ^ 4 + s.dev.prior.code * 2 ^ 8 + s.dev.cause * 2 ^ 12 +
    s.dev.transeq.toNat * 2 ^ 16

/-- Changes STATE, ROLE or both in one handshake: PRIOR records the state left, TRANSEQ advances, flag STATE
of the SYS page is set with SYS_STATE as detail (01, SYS_STATE; 20, SYS flags). -/
def State.change (s : State) (st : DevState) (role : Role) (cause : Nat) : State :=
  if st = s.dev.state ∧ role = s.dev.role then s
  else
    let prior := if st = s.dev.state then s.dev.prior else s.dev.state
    let d := { s.dev with state := st, role := role, prior := prior, cause := cause, transeq := s.dev.transeq + 1#8 }
    let s := ({ s with dev := d } : State).hit (pgSYS * 4096 + R.SYS_STATE.off) 16 8 1 true
    s.raise pgSYS 0 s.sysState

/-- Changes STATE alone. -/
def State.goto (s : State) (st : DevState) : State := s.change st s.dev.role s.dev.cause

/-- Whether SYS_STATE.STATE is PRINTING or HALTED: a job is under way. -/
def State.inJob (s : State) : Bool := s.dev.state == .printing || s.dev.state == .halted

/-- Whether the states from LINKUP on have been reached, so that every page answers (R661). -/
def State.pagesUp (s : State) : Bool :=
  match s.dev.state with
  | .off => false | .reset => false | .load => false | .build => false
  | .safe => s.rd pgSYS R.SYS_START_STEP ≥ 12
  | .frozen => s.rd pgSYS R.SYS_START_STEP ≥ 12
  | _ => true

/-- Whether the device is active in a pair. -/
def State.isActive (s : State) : Bool := s.dev.role == .active

/-- Whether the device is standby. -/
def State.isStandby (s : State) : Bool := s.dev.role == .standby

/-- The pair tick: the counter plus the pair offset (R577). -/
def State.pairTick (s : State) : Nat := uns 80 (s.now + s.twin.offset)

/-- Whether a twin lane is locked. -/
def State.twinUp (s : State) (n : Nat) : Bool :=
  if n = 0 then s.rdb pgTWIN R.TWIN_STAT_LANE0 else s.rdb pgTWIN R.TWIN_STAT_LANE1

/-- Whether any twin lane is locked. -/
def State.anyTwin (s : State) : Bool := s.twinUp 0 || s.twinUp 1

/-- Sends a frame on one twin lane if it is up. -/
def State.twinSendOn (s : State) (n : Nat) (f : TwinFrame) : State :=
  if s.twinUp n then { s with twin := { s.twin with tx := s.twin.tx ++ [(n, f)], txAt := mput s.twin.txAt n s.now } } else s

/-- Sends a frame on both twin lanes. -/
def State.twinSendBoth (s : State) (f : TwinFrame) : State := (s.twinSendOn 0 f).twinSendOn 1 f

/-- Sends a frame on the first twin lane that is up. -/
def State.twinSend (s : State) (f : TwinFrame) : State :=
  if s.twinUp 0 then s.twinSendOn 0 f else s.twinSendOn 1 f

/-- Sends a DELTA or FETCH frame and keeps it for 1 ms (R576). -/
def State.twinKeep (s : State) (f : TwinFrame) : State :=
  let kept := s.twin.kept.filter (fun e => decide (s.now < e.1 + ms 1)) ++ [(s.now, f)]
  ({ s with twin := { s.twin with kept := kept } } : State).twinSend f

/-- The HEART that the device sends now, with an announce reason (R575, R578). What only an active device sends is
empty in the HEART of another. -/
def State.heart (s : State) (reason : Nat) : Heart :=
  { launch := BitVec.ofNat 80 s.pairTick, epoch := BitVec.ofNat 32 (s.rd pgTWIN R.TWIN_EPOCH),
    sysState := BitVec.ofNat 32 s.sysState, received := BitVec.ofNat 80 s.twin.heartAt,
    committed := if s.isActive then (List.range 8).map fun b => BitVec.ofNat 48 (mget 0 s.twin.ownCommitted b) else [],
    x0 := if s.isActive then BitVec.ofInt 64 (to256 (s.x0At s.now)) else 0#64, reason := BitVec.ofNat 4 reason }

/-- Releases SLUICE_OUT (R31, R602). -/
def State.sluiceLow (s : State) : State := { s with twin := { s.twin with sluiceOut := false, monoEnd := 0 } }

/-- The announce reason of a side state (R599). -/
def announceReason : DevState → Nat
  | .frozen => 2 | .safe => 4 | .fenced => 5 | _ => 0

/-- An active device of a pair announces the side state on both twin lanes before it releases its Sluice
(R600). -/
def State.announce (s : State) (reason : Nat) : State :=
  if s.isActive then s.twinSendBoth (.heart (s.heart reason)) else s

/-- Whether R25 lets a cause move the device from its present state to a side state; a device in a
higher-ranked side state stays there (R27, R28). -/
def sideAllowed (d : DevState) (cause : Nat) : DevState → Bool
  | .safe => d ≠ .off && d ≠ .reset && d ≠ .safe && (cause ≠ 9 || d = .load || d = .build)
  | .frozen => d ≠ .off && d ≠ .reset && d ≠ .safe && d ≠ .frozen
  | .fenced => d = .ready || d = .printing || d = .halted
  | .halted => d = .printing
  | _ => false

/-- A side state ends the trigger pulse in progress of a camera port; the records of its present frame are
PARTIAL (R477). -/
def State.camCut (s : State) (p : Nat) : State :=
  let c : CamPort := mget {} s.cam.ports p
  if c.pulse then
    { s with cam := { s.cam with ports := mset {} s.cam.ports p { c with pulse := false, pulseEnd := s.now, cut := some (c.frames - 1) } } }
  else s

/-- Whether a state is a side state (R25). -/
def isSide (d : DevState) : Bool := d == .halted || d == .fenced || d == .frozen || d == .safe

/-- The state before the handshake: where a side state has been entered at this very tick, the state left then (R26). -/
def State.priorTo (s : State) : DevState :=
  match s.dev.sideAt with
  | some (t, p) => if t = s.now && isSide s.dev.state then p else s.dev.state
  | none => s.dev.state

/-- A side state stops the press outputs: where their levels have changed at this very tick, the keepers hold those driven
before the change (R686). -/
def State.pinsHold (s : State) : State :=
  match s.pio.pinsWas with
  | some (t, p) => if t = s.now then { s with pio := { s.pio with pins := p } } else s
  | none => s

/-- Enters a side state for a cause, if R25 to R28 allow it: announcement, release of the Sluice except in
HALTED, then the state with PRIOR and CAUSE (R25, R31, R600). A higher state entered at the tick of a lower one takes the
place of that entry (R26). -/
def State.enterSide (s : State) (st : DevState) (cause : Nat) : State :=
  if sideAllowed s.dev.state cause st then
    let p := s.priorTo
    let s := if st = .halted then s else ((((s.announce (announceReason st)).sluiceLow).camCut 0).camCut 1).pinsHold
    let same := p == s.dev.state
    let h : Hit := { addr := pgSYS * 4096 + R.SYS_STATE.off, lo := 16, w := 8, k := 1, wrap := true }
    let s := { s with
      dev := { s.dev with state := p, transeq := if same then s.dev.transeq else s.dev.transeq - 1#8, sideAt := some (s.now, p) }
      win := if same then s.win else { s.win with hits := s.win.hits.erase h } }
    s.change st s.dev.role cause
  else s

/-- Takes a fresh index for a free value. -/
def State.draw (s : State) : Nat × State := (s.free, { s with free := s.free + 1 })

/-- A cause for FENCED. In FROZEN and SAFE it is only recorded in an event flag of the owning page (R27); the manual names no
flag for it: one of the page's flags from `first` to 21, a free value (log entry 4). -/
def State.fence (s : State) (cause pg first : Nat) : State :=
  if s.dev.state = .frozen ∨ s.dev.state = .safe then
    s.draw.2.raise pg (first + (Config.freeWord s.free).toNat % (22 - first))
  else s.enterSide .fenced cause

/-- The level of FAULT_N (R635). -/
def State.faultN (s : State) : Bool := !(s.dev.state == .frozen || s.dev.state == .safe)

/-! ### Time -/

/-- The command happens at tick `t`: the counter, which never goes back, reads `t` (R99, log entry 1). -/
def State.atTick (s : State) (t : Tick) : State :=
  if s.time.running && decide (s.counter.toNat < t.toNat) then { s with counter := t } else s

end Sys2Proof.Machine
end

