-- ==== Sys2Proof/Machine/Shadow.lean ====
section
/-!
DEFINITION. Shadow storage (R79 to R84, R706): the application of waiting and committed values at the
boundary of an apply class.
-/
namespace Sys2Proof.Machine

/-- The pages that occupy the register map (R36). -/
def allPages : List Nat :=
  [pgSYS, pgPRIV, pgWEIR, pgTHRM, pgHLNK 0, pgHLNK 1, pgHLNK 2, pgHLNK 3, pgYRT, pgBASN, pgBASNW, pgTIME, pgPTPA,
   pgCHK, pgDFL, pgCMP, pgDCP, pgDRAM] ++ (List.range 8).map pgSC ++ [pgPOS] ++ (List.range 8).map pgRAST ++
  [pgRASTC] ++ (List.range 8).map pgFIRE ++ [pgFIREC] ++ (List.range 8).map pgHLTH ++
  [pgCAMP 0, pgCAMP 1, pgCAMI, pgCAMS, pgLOOP, pgTWIN, pgPIO] ++ (List.range 40).map pgTLNK

/-- The RWS bits of the register at an address. -/
def rwsMask (addr : Nat) : Nat := ((regAt addr).map RegDef.rws).getD 0

/-- Puts the RWS bits of a value in force. -/
def State.applyWord (s : State) (addr : Nat) (v : Word) : State :=
  let m := rwsMask addr
  s.setWord addr (BitVec.ofNat 32 (Nat.land (s.word addr).toNat (2 ^ 32 - 1 - m) + Nat.land v.toNat m))

/-- Puts a list of values in force. -/
def State.applyWords (s : State) : List (Nat × Word) → State
  | [] => s
  | (a, v) :: t => (s.applyWord a v).applyWords t

/-- Whether a value written in automatic mode waits for this boundary of the page. -/
def waitsFor (pg : Nat) (cls : ApplyClass) (e : Nat × Waiting) : Bool :=
  decide (pageOf e.1 = pg) && decide (e.2.cls = cls)

/-- Whether an address of the register file belongs to a page. -/
def onPage (pg : Nat) (e : Nat × Word) : Bool := decide (pageOf e.1 = pg)

/-- A COMMIT of this very window on a page whose set awaits its boundary (R86). -/
def State.lateCommit (s : State) (pg : Nat) : Option LateCommit :=
  (s.head pg).late.filter fun l => decide (l.tick = s.now)

/-- The committed set that a boundary of the page's class applies: without what a COMMIT of the same window added (R86). -/
def State.dueSet (s : State) (pg : Nat) : NMap Word :=
  match s.lateCommit pg with
  | some l => l.before
  | none => s.committed.filter (onPage pg)

/-- The words that apply at the page's boundary of a class: values written in automatic mode of that listed class, then
the committed set if it awaits this class, so that a committed value is the one in force where both name a register
(DESIGN CHOICE, log entry 75). -/
def State.dueWords (s : State) (pg : Nat) (cls : ApplyClass) : List (Nat × Word) :=
  ((s.waiting.filter (waitsFor pg cls)).map fun e => (e.1, e.2.value)) ++
    (if (s.head pg).awaiting == some cls then s.dueSet pg else [])

/-- Whether anything applies at the page's boundary of a class. -/
def State.dueAt (s : State) (pg : Nat) (cls : ApplyClass) : Bool :=
  s.waiting.any (waitsFor pg cls) || (s.head pg).awaiting == some cls

/-- What is due at the page's boundary of a class leaves the shadow storage; what a COMMIT of the same window added awaits
the next boundary (R86). -/
def State.takeDue (s : State) (pg : Nat) (cls : ApplyClass) : State :=
  let h := s.head pg
  let t : State := { s with waiting := s.waiting.filter fun e => !waitsFor pg cls e }
  if h.awaiting == some cls then
    let rest := t.committed.filter (!onPage pg ·)
    match s.lateCommit pg with
    | some l => ({ t with committed := l.set.foldl (fun m e => mput m e.1 e.2) rest } : State).setHead pg { h with late := none }
    | none => ({ t with committed := rest } : State).setHead pg { h with awaiting := none, late := none }
  else t

/-- APPSEQ advances and APPLIED is set (R84). -/
def State.countApply (s : State) (pg : Nat) : State :=
  let h := s.head pg
  ((s.setHead pg { h with appseq := h.appseq + 1#8 }).hit (headAddr pg 0x1C) 16 8 1 true).raise pg flagApplied

/-- The page's boundary of a class: what is due applies. Automatic values and a committed set that apply at one boundary
are one application (R80 to R84; DESIGN CHOICE, log entry 75). -/
def State.boundary (s : State) (pg : Nat) (cls : ApplyClass) : State :=
  if s.dueAt pg cls then ((s.takeDue pg cls).applyWords (s.dueWords pg cls)).countApply pg else s

/-- The boundary of a class on several pages. -/
def State.boundaries (s : State) (cls : ApplyClass) : List Nat → State
  | [] => s
  | p :: ps => (s.boundary p cls).boundaries cls ps

/-- PG_APPLY.PENDING (R706). -/
def State.applyPending (s : State) (pg : Nat) : Bool :=
  (s.waiting.any fun e => decide (pageOf e.1 = pg)) || (s.head pg).awaiting.isSome

end Sys2Proof.Machine
end

