-- ==== Sys2Proof/Machine/PosOps.lean ====
section
/-!
DEFINITION. The position unit (04): quadrature counts, the index, speed and acceleration, Hall steps, the
web model and product triggers. Lengths are in 2^-16 um, speeds in 1/16 um/s, the stretch in 2^-16 ppb.
-/
namespace Sys2Proof.Machine

/-! ### Model source (R186, R711) -/

/-- Whether an encoder is enabled: EN of the page and its bit of POS_CTL. -/
def State.encOn (s : State) (n : Nat) : Bool :=
  s.enabled pgPOS && (if n = 0 then s.rdb pgPOS R.POS_CTL_ENC0EN else s.rdb pgPOS R.POS_CTL_ENC1EN)

/-- Whether an encoder is in fault. -/
def State.encFlt (s : State) (n : Nat) : Bool :=
  if n = 0 then s.rdb pgPOS R.POS_STAT_ENC0FLT else s.rdb pgPOS R.POS_STAT_ENC1FLT

/-- Whether an encoder is in service (R186). -/
def State.encService (s : State) (n : Nat) : Bool := s.encOn n && !s.encFlt n

/-- The model source that the faults and enables give (R186, R711). -/
def State.msrcWanted (s : State) : Nat :=
  if !s.enabled pgPOS then 0
  else if s.encService 0 then 1
  else if s.encService 1 then 2
  else if s.rd pgPOS R.POS_HALLSCALE ≠ 0 ∧ s.rdb pgPOS R.POS_STAT_HALLFLT = false then 3 else 0

/-- POS_STAT.MSTATE: INIT, TRACK or HOLD (04, States and start-up). -/
def State.mstate (s : State) : Nat :=
  if !s.enabled pgPOS then 0
  else if !(s.encService 0 && s.encService 1) then 2
  else if s.pos.tracked then 1 else 0

/-- The Hall speed at the present tick, if it is valid: as in R161 to R165 with S = HALLSCALE, none with HALLSCALE 0
(R164, R170). -/
def State.hallSpeed (s : State) : Option Int :=
  let k := s.pos.hall.track
  let scale := s.rd pgPOS R.POS_HALLSCALE
  match k.lastEdge with
  | none => none
  | some te =>
    if !k.valid || scale == 0 then none
    else some (if te + s.standTmo ≤ s.now then decayed k.speed scale (s.now - te) else k.speed)

/-- Compares the Hall speed with the source speed (R172). -/
def State.hallCompare (s : State) : State :=
  let tol := s.rd pgPOS R.POS_HALLCFG_SPDTOL
  match s.hallSpeed with
  | none => s
  | some v =>
    if tol = 0 ∨ !s.pos.track.valid then s
    else
      let off := decide (s.speed.natAbs * tol < 256 * (v - s.speed).natAbs)
      let was := s.pos.hall.misSpeed
      let s := s.setPos { s.pos with hall := { s.pos.hall with misSpeed := off } }
      if off && !was then s.raiseI pgPOS 8 v else s

/-- Whether a bar is fitted in the part and in service under BAR_MAP (R4, R88). -/
def State.barInService (s : State) (b : Nat) : Bool :=
  decide (b < (if s.part.number = .et822t4 then 4 else 8)) && decide (bitsOf s.priv.barMap (4 * b) 4 < 8)

/-- The least X_b of the bars in service. -/
def State.leastBarX (s : State) : Option Int :=
  (List.range 8).foldl (fun a b =>
    if s.barInService b then
      match a with
      | none => some (s.barX b)
      | some m => some (if s.barX b < m then s.barX b else m)
    else a) none

/-- The trigger records still pending: some bar in service has X_b < X_p (R189). -/
def State.trigPending (s : State) : List Int :=
  match s.leastBarX with
  | none => []
  | some m => s.pos.pend.filter fun x => decide (m < x)

/-- A record that every bar in service has reached is no longer pending, whatever the web does later (R189). -/
def State.trigPrune (s : State) : State := s.setPos { s.pos with pend := s.trigPending }

/-- Writes the status fields that follow the speed history and the model state; the Hall speed is compared, and triggers
that all bars have reached leave the pending ones (R172, R189). -/
def State.posStatus (s : State) : State :=
  let s := s.hallCompare.trigPrune
  let s := s.wr pgPOS R.POS_STAT_MSTATE s.mstate
  let s := s.wr pgPOS R.POS_STAT_SPEED_VALID (b2n s.pos.track.valid)
  let s := s.wr pgPOS R.POS_STAT_DIR (b2n s.pos.track.reverse)
  let s := s.wri pgPOS R.POS_SPEED s.speed
  let s := s.wri pgPOS R.POS_ACCEL s.accel
  s.wri pgPOS R.POS_STRETCH (s.stretch.fdiv 65536)

/-- A history that restarts and keeps its direction. -/
def Track.restart (k : Track) : Track :=
  { k with edges := [], valid := false, speed := 0, accel := 0, ests := [] }

/-- The stretch is held at its present value (R186). -/
def State.holdStretch (s : State) : State :=
  let st := s.stretch
  s.setPos { s.pos with sTo := st, sFrom := st, sAt := none }

/-- The model source follows the inputs: at a change X0 stays continuous, the stretch is held, the history
restarts and flag DEGRADED is set with the new source. With encoder 0 alone in service the stretch is held (R186). -/
def State.posSource (s : State) : State :=
  let new := s.msrcWanted
  if new = s.msrc then (if s.encService 1 || s.pos.sAt.isNone then s else s.holdStretch).posStatus
  else
    let x := s.x0At s.now
    let st := s.stretch
    let p := s.pos
    let s := s.setPos { p with off := x - s.srcDist new st, sTo := st, sFrom := st, sAt := none,
                               track := { p.track.restart with lastEdge := none }, wOn := false }
    let s := (s.wr pgPOS R.POS_STAT_MSRC new).wr pgPOS R.POS_STAT_DECAY 0
    ((s.noteX s.now).raise pgPOS 20 new).posStatus

/-- Settings of the page have come into force, `old` being the state before: with encoder 1 or the Hall inputs as the
source X0 goes on from where it stood, and the source follows (R180, R186). -/
def State.posApplied (s old : State) : State :=
  let p := s.pos
  let k := s.msrc
  let s := if k = 2 ∨ k = 3 then s.setPos { p with off := p.off + old.srcDist k p.sTo - s.srcDist k p.sTo } else s
  s.posSource

/-! ### Speed (R161 to R166) -/

/-- The newest estimate at or before a doubled tick. -/
def findEst : List Estimate → Nat → Option Estimate
  | [], _ => none
  | e :: es, m => if e.mid2 ≤ m then some e else findEst es m

/-- Keeps the estimates down to the first one at or before a doubled tick. -/
def keepEst : List Estimate → Nat → List Estimate
  | [], _ => []
  | e :: es, m => if e.mid2 ≤ m then [e] else e :: keepEst es m

/-- A counting edge at a tick in a history: speed over the last N intervals, acceleration over at least
`accWin` ticks; an opposite edge restarts the history (R161 to R163, R166). What the largest NAVG and ACCWIN can ask for is
kept: 65 edges, and the estimates of 255 × 16 us. -/
def Track.edge (k : Track) (rev : Bool) (t scale nMax accWin : Nat) : Track :=
  let k := if rev = k.reverse then k else { k.restart with reverse := rev }
  let edges := (t :: k.edges).take 65
  let n := min nMax (edges.length - 1)
  let first := nth t edges n
  let k := { k with edges := edges, lastEdge := some t }
  if n = 0 ∨ t ≤ first then k
  else
    let mag : Int := (n * scale * 3906250 / (t - first) : Nat)
    let v := if rev then -mag else mag
    let m2 := t + first
    let a := match findEst k.ests (m2 - 2 * accWin) with
      | some e => if e.mid2 + 2 * accWin ≤ m2 then ((v - e.speed) * 2000000000).tdiv (m2 - e.mid2 : Nat) else 0
      | none => 0
    { k with valid := true, speed := v, accel := a,
             ests := { speed := v, mid2 := m2 } :: keepEst k.ests (m2 - 2 * us 4080) }

/-- 2^NAVG; 7 acts as 6. -/
def State.navg (s : State) : Nat := 2 ^ min 6 (s.rd pgPOS R.POS_SPDCFG_NAVG)

/-- POS_SPDCFG.ACCWIN in ticks; 0 acts as 1. -/
def State.accWin (s : State) : Nat := us (16 * atLeast1 (s.rd pgPOS R.POS_SPDCFG_ACCWIN))

/-- The first stretch window begins at a counting edge of encoder 0 as the source (R181). -/
def State.windowBegin (s : State) : State :=
  if s.pos.wOn || s.msrc ≠ 1 then s
  else s.setPos { s.pos with wOn := true, wX0 := s.x0, wD1 := s.encDist 1, wSpoiled := !(s.encService 0 && s.encService 1) }

/-- A counting edge of the model source at tick `t` in direction `rev`: history, DIR, flag REVERSAL with X0 as
detail, flag MOVING at the next valid speed after standstill (R161 to R163, R165). The stretch ramp ends once its progress
has reached 1, at a count or between two (R182). -/
def State.srcEdge (s : State) (rev : Bool) (t : Nat) : State :=
  let old := s.pos.track
  let nMax := if s.msrc = 3 then min 6 s.navg else s.navg
  let s := match s.pos.sAt with
    | some a => if s.strWin ≤ s.x0At t - a then s.setPos { s.pos with sAt := none } else s
    | none => s
  let k := old.edge rev t s.srcScale nMax s.accWin
  let since := if k.valid && !old.valid then s.now else s.pos.validSince
  let s := (s.setPos { s.pos with track := k, validSince := since }).wr pgPOS R.POS_STAT_DECAY 0
  let reversed := rev ≠ old.reverse
  let s := if reversed then s.setPos { s.pos with wSpoiled := true } else s
  let s :=
    if k.valid && s.rdb pgPOS R.POS_STAT_STANDSTILL then (s.wr pgPOS R.POS_STAT_STANDSTILL 0).raise pgPOS 16
    else s
  let s := if reversed then s.raiseI pgPOS 17 (to256 s.x0) else s
  let s := match s.pos.sAt with
    | some a => if s.strWin ≤ s.x0 - a then s.setPos { s.pos with sAt := none } else s
    | none => s
  (s.windowBegin.noteX t).posStatus

/-! ### Standstill (R164, R165, R170) -/

/-- STANDTMO has passed since the last counting edge of the history (R164). -/
def State.standTimeout (s : State) : State :=
  let k := s.pos.track
  match k.lastEdge with
  | some te =>
    if k.edges.isEmpty || decide (s.now < te + s.standTmo) then s else (s.wr pgPOS R.POS_STAT_DECAY 1).posStatus
  | none => s

/-- Whether S ÷ (t − t_e) of a history has fallen below POS_STANDV (R165). -/
def State.fellBelow (s : State) (k : Track) (scale : Nat) : Bool :=
  match k.lastEdge with
  | some te => decide (te < s.now) && decide (scale * 3906250 < s.rd pgPOS R.POS_STANDV * (s.now - te))
  | none => false

/-- The speed bound falls below STANDV: the history restarts, and standstill is declared unless it stands (R165). The
history of the Hall inputs restarts by the same rule (R170). -/
def State.standDeclare (s : State) : State :=
  let h := s.pos.hall
  let s := if s.fellBelow h.track (s.rd pgPOS R.POS_HALLSCALE) then s.setPos { s.pos with hall := { h with track := h.track.restart } }
    else s
  if !s.fellBelow s.pos.track s.srcScale || s.msrc = 0 then s
  else
    let s := (s.setPos { s.pos with track := s.pos.track.restart, wSpoiled := true }).wr pgPOS R.POS_STAT_DECAY 0
    let s := if s.rdb pgPOS R.POS_STAT_STANDSTILL then s
      else (s.wr pgPOS R.POS_STAT_STANDSTILL 1).raiseI pgPOS 15 (to256 s.x0)
    (s.noteX s.now).posStatus

/-! ### Faults (R151, R169) -/

/-- Puts an encoder into fault (R151). -/
def State.encFault (s : State) (n : Nat) : State :=
  if s.encFlt n then s
  else
    let s := s.wr pgPOS (if n = 0 then R.POS_STAT_ENC0FLT else R.POS_STAT_ENC1FLT) 1
    ((s.setPos { s.pos with wSpoiled := true }).raise pgPOS 5 n).posSource

/-- The 1 ms window of a tick (R151). -/
def errWindow (t : Nat) : Nat := t / 16000000

/-- One more error in the window of the tick it was captured at; the present window and the one before are kept (R140, R151). -/
def State.countErr (s : State) (m : NMap Nat) (t : Nat) : NMap Nat :=
  let w := errWindow t
  mput (mfilter (fun k => decide (errWindow s.now ≤ k + 1)) m) w (mget 0 m w + 1)

/-- An error of an encoder captured at tick `t` counts towards FLTMAX in its 1 ms window (R140, R151). -/
def State.encError (s : State) (n t : Nat) : State :=
  let e := s.enc n
  let errs := s.countErr e.errs t
  let s := s.setEnc n { e with errs := errs, errAt := s.now, errNow := if e.errAt = s.now then e.errNow + 1 else 1 }
  let m := s.rd pgPOS (R.POS_ENCCFG_FLTMAX n)
  if m ≠ 0 ∧ m ≤ mget 0 errs (errWindow t) then s.encFault n else s

/-- An error of the Hall inputs captured at tick `t`: eight in a 1 ms window put them into fault (R140, R169). -/
def State.hallError (s : State) (t : Nat) : State :=
  let errs := s.countErr s.pos.hall.errs t
  let s := s.setPos { s.pos with hall := { s.pos.hall with errs := errs } }
  if 8 ≤ mget 0 errs (errWindow t) then (s.wr pgPOS R.POS_STAT_HALLFLT 1).posSource else s

/-! ### Index (R153 to R160) -/

/-- CONSECn of POS_IDXSTAT. -/
def consecFld (n : Nat) : Fld := if n = 0 then R.POS_IDXSTAT_CONSEC0 else R.POS_IDXSTAT_CONSEC1

/-- TOTALn of POS_IDXSTAT. -/
def totalFld (n : Nat) : Fld := if n = 0 then R.POS_IDXSTAT_TOTAL0 else R.POS_IDXSTAT_TOTAL1

/-- A discrepancy is counted (R155, R156). -/
def State.idxCount (old : State) (n : Nat) : State :=
  let s := old.setEnc n { old.enc n with disAt := some old.now }
  (s.inc pgPOS (consecFld n)).incWrap pgPOS (totalFld n)

/-- The fault rule on consecutive discrepancies (R151, R160). -/
def State.idxFaultRule (s : State) (n : Nat) : State :=
  let f := s.rd pgPOS R.POS_IDXCFG_FAULTN
  if f ≠ 0 ∧ f ≤ s.rd pgPOS (consecFld n) then s.encFault n else s

/-- Phase wrapped into −PER/2 ≤ φ < PER/2. -/
def wrapPhase (phase : Int) (per : Nat) : Int := (phase + (per / 2 : Nat)) % (per : Int) - (per / 2 : Nat)

/-- A missing index: the count since the last index has left the range at an edge of tick `t` (R156). -/
def State.idxMissing (s : State) (n t : Nat) : State :=
  let e := s.enc n
  let per := s.rd pgPOS (R.POS_IDXPER n)
  let lim : Int := (per + s.rd pgPOS R.POS_IDXCFG_TOL : Nat)
  if per ≠ 0 ∧ e.seen ∧ lim < (e.since.natAbs : Int) then
    let e1 := { e with
      since := if e.since < 0 then e.since + per else e.since - per,
      record := { delta := 0, rezeroed := false, missing := true, held := false, tick := t } }
    (((s.setEnc n e1).idxCount n).raise pgPOS 3 n).idxFaultRule n
  else s

/-- A serial sensor. -/
def State.ssn (s : State) (n : Nat) : Ssn := mget {} s.pos.ssns n

/-- Replaces a serial sensor. -/
def State.setSsn (s : State) (n : Nat) (x : Ssn) : State := s.setPos { s.pos with ssns := mset {} s.pos.ssns n x }

/-- An edge of an encoder accepted at a tick at or before the latch tick of a sensor's last word, which is bound to the
encoder: the word record carries the count at that edge (R178). -/
def State.rebind (s : State) (n t : Nat) : State :=
  State.each (fun s i =>
    let x := s.ssn i
    if s.rd pgPOS (R.POS_SSNCFG_BIND i) = n + 1 ∧ 0 < x.latch ∧ t ≤ x.latch then s.setSsn i { x with bound := (s.enc n).count }
    else s) s [0, 1]

/-- An accepted index edge (R153 to R160). A re-zero moves X0 by −Δ × SCALE if the encoder is the model source (R157). -/
def State.idxEdge (s : State) (n t : Nat) : State :=
  let e := s.enc n
  let per := s.rd pgPOS (R.POS_IDXPER n)
  if per = 0 then s
  else if e.seen = false then s.setEnc n { e with phase := 0, since := 0, seen := true }
  else
    let d := wrapPhase e.phase per
    let tol := s.rd pgPOS R.POS_IDXCFG_TOL
    let good := decide (d.natAbs ≤ tol)
    let pol := s.rd pgPOS R.POS_IDXCFG_POLICY
    let run := if good then 0
      else if e.runLen ≠ 0 ∧ (d - e.runFirst).natAbs ≤ tol then e.runLen + 1 else 1
    let first := if run = 1 then d else e.runFirst
    let confirmed := !good && run == atLeast1 (s.rd pgPOS R.POS_IDXCFG_CONF)
    let want := pol = 1 ∨ (pol = 2 ∧ good) ∨ (pol = 3 ∧ (good ∨ confirmed))
    let heldBack := decide want && s.inJob && decide (s.rd pgPOS R.POS_IDXCFG_MAXSTEP < d.natAbs)
    let zero := decide want && !heldBack
    let s := if good then s.wr pgPOS (consecFld n) 0 else (s.idxCount n).raiseI pgPOS 2 d
    let e1 := { e with
      since := 0, runFirst := first, runLen := if confirmed then 0 else run,
      phase := if zero then 0 else e.phase,
      count := if zero then e.count - d else e.count,
      recent := if zero then (t, e.count - d) :: e.recent else e.recent,
      record := if good then e.record
        else { delta := d, rezeroed := zero, missing := false, held := heldBack, tick := t } }
    let e1 := { e1 with disAt := (s.enc n).disAt }
    let x := s.x0
    let s := s.setEnc n e1
    let s := if zero then s.setPos { s.pos with wSpoiled := true } else s
    let s := if zero && s.msrc == n + 1 then
        (s.setPos { s.pos with off := s.pos.off + (x - d * s.encScale n - s.x0) }).noteX t
      else s
    let s := if zero then s.rebind n t else s
    let s := if zero && confirmed && pol == 3 then s.wr pgPOS (consecFld n) 0 else s
    let s := if heldBack then s.raiseI pgPOS 4 d else s
    (s.idxFaultRule n).posStatus

/-! ### Counting (R148, R149) -/

/-- The place of (A, B) in the forward sequence 00, 10, 11, 01. -/
def quadPlace (a b : Bool) : Nat := if a then (if b then 2 else 1) else (if b then 3 else 0)

/-- The count of a single transition from (a, b) to (a', b') with MULT ×4, ×2 or ×1 (R148). -/
def quadCount (mult : Nat) (a b a' b' : Bool) : Int :=
  let step := (quadPlace a' b' + 4 - quadPlace a b) % 4
  let c : Int := if step = 1 then 1 else if step = 3 then -1 else 0
  match mult with
  | 1 => if a ≠ a' then c else 0
  | 2 => if a ≠ a' ∧ b = false then c else 0
  | _ => c

/-- Keeps the counts down to the first one at or before a tick: the latch tick of a serial word in progress lies at most
TMO and LAT back (R174, R176, R178). -/
def keepRecent : List (Nat × Int) → Nat → List (Nat × Int)
  | [], _ => []
  | x :: xs, t => if x.1 ≤ t then [x] else x :: keepRecent xs t

/-- A counted transition: the count, the phase and the count since the last index move; the missing index is
checked; the model source advances (R148, R150, R156, R161). -/
def State.encCount (s : State) (n : Nat) (c : Int) (t : Nat) : State :=
  if c = 0 then s
  else
    let e := s.enc n
    let e1 := { e with count := e.count + c, phase := e.phase + c, since := e.since + c,
                       recent := (t, e.count + c) :: keepRecent e.recent (s.now - us 131072) }
    let s := ((s.setEnc n e1).rebind n t).idxMissing n t
    if s.msrc = n + 1 then s.srcEdge (decide (c < 0)) t else s.posStatus

/-- An edge input. -/
def State.edgeIn (s : State) (i : Nat) : EdgeIn := mget {} s.pos.ins i

/-- Replaces an edge input. -/
def State.setEdgeIn (s : State) (i : Nat) (x : EdgeIn) : State :=
  s.setPos { s.pos with ins := mset {} s.pos.ins i x }

/-- Signs a count by POS_ENCnCFG.INV. -/
def State.signed (s : State) (n : Nat) (c : Int) : Int := if s.rdb pgPOS (R.POS_ENCCFG_INV n) then -c else c

/-- An accepted transition of A or B: decoded, or a phase error when both come at one tick (R148, R149). -/
def State.acceptAB (s : State) (n i t : Nat) (level : Bool) : State :=
  let ia := 3 * n
  let ib := 3 * n + 1
  let j := if i = ia then ib else ia
  let a := (s.edgeIn ia).level
  let b := (s.edgeIn ib).level
  let other := s.edgeIn j
  let s := s.setEdgeIn i { level := level, hold := none }
  match other.hold with
  | some h =>
    if h.tick = t then
      ((s.setEdgeIn j { level := h.level, hold := none }).inc pgPOS (R.POS_FLTCNT_PHASE n)).raise pgPOS 1 n |>.encError n t
    else
      s.encCount n (s.signed n (quadCount (s.rd pgPOS (R.POS_ENCCFG_MULT n)) a b
        (if i = ia then level else a) (if i = ib then level else b))) t
  | none =>
    s.encCount n (s.signed n (quadCount (s.rd pgPOS (R.POS_ENCCFG_MULT n)) a b
      (if i = ia then level else a) (if i = ib then level else b))) t

/-- An accepted transition of Z: an index edge of the selected polarity, gated by A and B (R153). -/
def State.acceptZ (s : State) (n t : Nat) (level : Bool) : State :=
  let s := s.setEdgeIn (3 * n + 2) { level := level, hold := none }
  let active := level != s.rdb pgPOS (R.POS_ENCCFG_ZEDGE n)
  let gate := !s.rdb pgPOS (R.POS_ENCCFG_ZGATE n) || ((s.edgeIn (3 * n)).level && (s.edgeIn (3 * n + 1)).level)
  if active && gate then s.idxEdge n t else s

/-! ### Hall inputs (R168 to R172) -/

/-- The place of a valid H in the forward sequence 1, 3, 2, 6, 4, 5. -/
def hallPlace : Nat → Option Nat
  | 1 => some 0 | 3 => some 1 | 2 => some 2 | 6 => some 3 | 4 => some 4 | 5 => some 5 | _ => none

/-- A valid Hall step in a direction (R170, R171, R186). -/
def State.hallStep (s : State) (rev : Bool) (t : Nat) : State :=
  let h := s.pos.hall
  let scale := s.rd pgPOS R.POS_HALLSCALE
  let k := h.track.edge rev t scale (min 6 s.navg) s.accWin
  let contrary := if s.msrc ≠ 0 ∧ s.msrc ≠ 3 ∧ rev ≠ s.pos.track.reverse then h.contrary + 1 else 0
  let s := s.setPos { s.pos with hall := { h with
    steps := if rev then h.steps - 1 else h.steps + 1, track := k, contrary := contrary } }
  let n := s.rd pgPOS R.POS_HALLCFG_DIRN
  let s := if n ≠ 0 ∧ contrary = n then s.raise pgPOS 7 else s
  let s := s.hallCompare
  if s.msrc = 3 then s.srcEdge rev t else s

/-- A transition of a Hall input accepted with another at its tick: its level changes before H is judged. -/
def State.hallLevel (t : Nat) (s : State) (i : Nat) : State :=
  match (s.edgeIn i).hold with
  | some h => if h.tick = t then s.setEdgeIn i { level := h.level, hold := none } else s
  | none => s

/-- Accepted Hall transitions of one tick: a step, a re-synchronisation, or one Hall error (R168). -/
def State.acceptHall (s : State) (i t : Nat) (level : Bool) : State :=
  let s := State.each (State.hallLevel t) (s.setEdgeIn (6 + i) { level := level, hold := none }) [6, 7, 8]
  let hv := b2n (s.edgeIn 8).level * 4 + b2n (s.edgeIn 7).level * 2 + b2n (s.edgeIn 6).level
  let h := s.pos.hall
  let err := fun s : State =>
    ((s.setPos { s.pos with hall := { s.pos.hall with last := none } }).inc pgPOS R.POS_HALLCNT_STATE).raise
      pgPOS 6 hv |>.hallError t
  match hallPlace hv with
  | none => err s
  | some p =>
    match h.last with
    | none => s.setPos { s.pos with hall := { h with last := some p } }
    | some q =>
      let fwd := decide ((q + 1) % 6 = p)
      let bwd := decide ((p + 1) % 6 = q)
      if p = q then s
      else if fwd || bwd then
        (s.setPos { s.pos with hall := { h with last := some p } }).hallStep
          (bwd != s.rdb pgPOS R.POS_HALLCFG_INV) t
      else err s

/-! ### Edges (R143 to R145) -/

/-- Whether an edge input counts: its encoder or the Hall inputs are enabled (R711). -/
def State.edgeOn (s : State) (i : Nat) : Bool :=
  if i < 6 then s.encOn (i / 3) else s.enabled pgPOS && s.rdb pgPOS R.POS_CTL_HALLEN

/-- The hold of an input in ticks: MINSP ns, below 2 acts as 2 (R143). -/
def State.minSp (s : State) (i : Nat) : Nat :=
  16 * max 2 (if i < 6 then s.rd pgPOS (R.POS_ENCCFG_MINSP (i / 3)) else s.rd pgPOS R.POS_HALLCFG_MINSP)

/-- An edge is accepted at its captured tick (R145). -/
def State.acceptEdge (s : State) (i : Nat) (h : EdgeHold) : State :=
  if i < 6 then
    if i % 3 = 2 then s.acceptZ (i / 3) h.tick h.level else s.acceptAB (i / 3) i h.tick h.level
  else s.acceptHall (i - 6) h.tick h.level

/-- A discarded edge pair: counted, flag EDGEFLT, an error towards the fault of its inputs (R144). -/
def State.edgeFault (s : State) (i : Nat) : State :=
  if i < 6 then (((s.inc pgPOS (R.POS_FLTCNT_EDGE (i / 3)))).raise pgPOS 0 i).encError (i / 3) s.now
  else ((s.inc pgPOS R.POS_HALLCNT_EDGE).raise pgPOS 0 i).hallError s.now

/-- The place of an edge input among the events of a tick: A and B, then Z, then Hall (R147). -/
def edgeRank (i : Nat) : Nat := if i < 6 then (if i % 3 = 2 then 1 else 0) else 2

/-- The holds whose end has come, the first to be accepted in front: by captured tick, then in the order of R147. -/
def State.firstDue (s : State) : Option (Nat × EdgeHold) :=
  (List.range 9).foldl (fun best i =>
    match (s.edgeIn i).hold with
    | some h =>
      if s.now < h.endTick then best
      else match best with
        | none => some (i, h)
        | some (j, g) => if h.tick < g.tick ∨ (h.tick = g.tick ∧ edgeRank i < edgeRank j) then some (i, h) else best
    | none => best) none

/-- An edge to `level` captured on input `i` now, after the holds that have ended (R143 to R145). -/
def State.edgeCapture (s : State) (i : Nat) (level : Bool) : State :=
  if !s.edgeOn i then s.setEdgeIn i { level := level, hold := none }
  else
    let x := s.edgeIn i
    match x.hold with
    | some h => if level = h.level then s else (s.setEdgeIn i { x with hold := none }).edgeFault i
    | none =>
      if level = x.level then s
      else s.setEdgeIn i { x with hold := some { tick := s.now, endTick := s.now + s.minSp i, level := level } }

/-- An input that no longer counts accepts no edge: its pending one is dropped (R711). -/
def State.dropHold (s : State) (i : Nat) : State :=
  match (s.edgeIn i).hold with
  | some h => if s.edgeOn i then s else s.setEdgeIn i { level := h.level, hold := none }
  | none => s

/-- What the enables of the inputs start and stop: pending edges of disabled inputs are dropped; an encoder that becomes enabled checks no index before its first, and
the model source follows (R154, R186, R711). `was0`, `was1` tell whether each encoder was enabled before. -/
def State.posEnables (s : State) (was0 was1 wasHall : Bool) : State :=
  let s := State.each State.dropHold s (List.range 9)
  let s := if s.enabled pgPOS then s else s.setPos { s.pos with trigWait := [] }
  let s := if s.encOn 0 && !was0 then s.setEnc 0 { s.enc 0 with seen := false, since := 0, runLen := 0 } else s
  let s := if s.encOn 1 && !was1 then s.setEnc 1 { s.enc 1 with seen := false, since := 0, runLen := 0 } else s
  let s := if s.edgeOn 6 && !wasHall then
    s.setPos { s.pos with hall := { s.pos.hall with last := none, track := s.pos.hall.track.restart } } else s
  s.posSource

/-- POS_CTL.CLRFLTn: the fault clears, and the errors of the window and the consecutive discrepancies count anew, those of
the same handshake among them; a fault condition that they bring keeps the fault set (R152). -/
def State.clearEnc (s : State) (n : Nat) : State :=
  let e := s.enc n
  let k := if e.errAt = s.now then e.errNow else 0
  let d := if e.disAt = some s.now then 1 else 0
  let m := s.rd pgPOS (R.POS_ENCCFG_FLTMAX n)
  let f := s.rd pgPOS R.POS_IDXCFG_FAULTN
  let again := (decide (m ≠ 0) && decide (m ≤ k)) || (decide (f ≠ 0) && decide (f ≤ d))
  let s := s.wr pgPOS (if n = 0 then R.POS_STAT_ENC0FLT else R.POS_STAT_ENC1FLT) (b2n (s.encFlt n && again))
  (s.setEnc n { e with errs := if k = 0 then [] else [(errWindow s.now, k)] }).wr pgPOS (consecFld n) d

/-- POS_CTL.CLRHALL (R169). -/
def State.clearHall (s : State) : State :=
  (s.wr pgPOS R.POS_STAT_HALLFLT 0).setPos { s.pos with hall := { s.pos.hall with errs := [] } }

/-! ### Serial sensors (R173 to R179) -/

/-- SSNnFLT of POS_STAT. -/
def ssnFlt (n : Nat) : Fld := if n = 0 then R.POS_STAT_SSN0FLT else R.POS_STAT_SSN1FLT

/-- Whether a serial sensor is enabled (R711). -/
def State.ssnOn (s : State) (n : Nat) : Bool :=
  s.enabled pgPOS && s.rdb pgPOS (if n = 0 then R.POS_CTL_SSN0EN else R.POS_CTL_SSN1EN)

/-- POS_CTL.CLRSSNn: the fault clears, and the bad words count anew (R177; log entry 50). -/
def State.clearSsn (s : State) (n : Nat) : State := (s.wr pgPOS (ssnFlt n) 0).setSsn n { s.ssn n with bad := 0 }

/-- A request at the start of a PERIOD window, unless a word is in progress or the device is standby (R173, R179). -/
def State.ssnRequest (s : State) (n : Nat) : State :=
  let per := us (atLeast1 (s.rd pgPOS (R.POS_SSNCFG_PERIOD n)))
  if s.ssnOn n && !s.isStandby && s.now % per == 0 && (s.ssn n).busy.isNone then
    s.setSsn n { s.ssn n with busy := some s.now }
  else s

/-- A disabled sensor has no word in progress (R711). -/
def State.ssnIdle (s : State) (n : Nat) : State := if s.ssnOn n then s else s.setSsn n { s.ssn n with busy := none }

/-- A word that is discarded or carries the error bit counts towards the sensor's fault (R177). -/
def State.ssnBad (s : State) (n : Nat) : State :=
  let x := s.ssn n
  let s := s.setSsn n { x with bad := x.bad + 1 }
  let lim := s.rd pgPOS (R.POS_SSNTIM_FAULTN n)
  if lim ≠ 0 ∧ lim ≤ x.bad + 1 ∧ s.rdb pgPOS (ssnFlt n) = false then (s.wr pgPOS (ssnFlt n) 1).raise pgPOS 13 n else s

/-- A word discarded for its acknowledge bit or its timing (R176). -/
def State.ssnMissed (s : State) (n : Nat) : State :=
  ((s.inc pgPOS (R.POS_SSNCNT_TMO n)).raise pgPOS 12 n).ssnBad n

/-- The TMO of a sensor in ticks. -/
def State.ssnTmo (s : State) (n : Nat) : Nat := us (atLeast1 (s.rd pgPOS (R.POS_SSNTIM_TMO n)))

/-- The CRC width of a sensor, 3 to 16. -/
def State.ssnWidth (s : State) (n : Nat) : Nat := clampN 3 16 (s.rd pgPOS (R.POS_SSNCRC_WIDTH n))

/-- The position bits of a sensor, 13 to 40. -/
def State.ssnBits (s : State) (n : Nat) : Nat := clampN 13 40 (s.rd pgPOS (R.POS_SSNCFG_BITS n))

/-- The CRC over position, error and warning bits, most significant first (R175). -/
def State.ssnCrc (s : State) (n position : Nat) (err warn : Bool) : Nat :=
  let w := s.ssnWidth n
  let init := if s.rdb pgPOS (R.POS_SSNCRC_INIT n) then 2 ^ w - 1 else 0
  chkBits w (s.rd pgPOS (R.POS_SSNCRC_POLY n) % 2 ^ w) (position * 4 + b2n err * 2 + b2n warn) (s.ssnBits n + 2) init

/-- The count bound to a word: that of its encoder at the last accepted edge at or before the latch tick (R178). -/
def State.ssnBound (s : State) (n latch : Nat) : Int :=
  let k := s.rd pgPOS (R.POS_SSNCFG_BIND n)
  if k = 1 ∨ k = 2 then
    match (s.enc (k - 1)).recent.find? fun e => decide (e.1 ≤ latch) with
    | some e => e.2
    | none => 0
  else 0

/-- A word in progress completes and is judged (R174 to R178). A standby takes the words that the other device
clocks (R179). -/
def State.ssnWord (s : State) (n : Nat) (w : Sys2Proof.SsnWord) : State :=
  let x := s.ssn n
  if !s.ssnOn n || (x.busy.isNone && !s.isStandby) then s
  else
    let first := x.busy.getD w.first.toNat
    let s := s.setSsn n { x with busy := none }
    let width := s.ssnWidth n
    let position := w.position.toNat % 2 ^ s.ssnBits n
    let rx := w.crc.toNat % 2 ^ width
    let rx := if s.rdb pgPOS (R.POS_SSNCRC_INV n) then 2 ^ width - 1 - rx else rx
    if w.ack || decide (first + s.ssnTmo n ≤ s.now) then s.ssnMissed n
    else if rx ≠ s.ssnCrc n position w.err w.warn then
      ((s.inc pgPOS (R.POS_SSNCNT_CRC n)).raise pgPOS 9 n).ssnBad n
    else
      let latch := first + s.rd pgPOS (R.POS_SSNTIM_LAT n) * 160
      let x := s.ssn n
      let s := s.setSsn n { x with position := position, err := w.err, warn := w.warn, words := x.words + 1#16,
                                   bound := s.ssnBound n latch, latch := latch }
      if w.err then (s.raise pgPOS 10 n).ssnBad n
      else
        let s := s.setSsn n { s.ssn n with bad := 0 }
        if w.warn then s.raise pgPOS 11 n else s

/-- No start bit, or data not high again, within TMO of the first falling edge (R176). -/
def State.ssnTimeout (s : State) (n : Nat) : State :=
  if !s.ssnOn n then s
  else match (s.ssn n).busy with
    | some first =>
      if first + s.ssnTmo n ≤ s.now then (s.setSsn n { s.ssn n with busy := none }).ssnMissed n else s
    | none => if s.isStandby then s.ssnMissed n else s

/-! ### Product triggers (R187 to R189) -/

/-- The edge inputs of the model source. -/
def State.srcInputs (s : State) : List Nat :=
  match s.msrc with
  | 1 => [0, 1, 2]
  | 2 => [3, 4, 5]
  | 3 => [6, 7, 8]
  | _ => []

/-- Whether an edge of the model source captured at or before a tick still completes its hold: X0 at the tick is not yet
known (R145, R187). -/
def State.srcHeld (s : State) (t : Nat) : Bool :=
  s.srcInputs.any fun i => match (s.edgeIn i).hold with
    | some h => decide (h.tick ≤ t)
    | none => false

/-- The product trigger of an accepted edge at tick `t` (R187 to R189). -/
def State.trigger (s : State) (t : Nat) : State :=
  let xp := s.x0At t - s.rdi pgPOS R.POS_TRIGDIST * 65536
  let near := match s.pos.lastXp with
    | some l => decide (xp < l + ((s.rd pgPOS R.POS_TRIGCFG_MINPITCH * 65536 : Nat) : Int))
    | none => false
  if s.pos.track.reverse || near then (s.inc pgPOS R.POS_TRIGCNT_REJ).raiseI pgPOS 18 (to256 xp)
  else
    let pend := s.trigPending
    if 2048 ≤ pend.length then (s.inc pgPOS R.POS_TRIGCNT_OVR).raiseI pgPOS 19 (to256 xp)
    else
      let q := s.rd pgPOS R.POS_TRIGSEQ
      (s.setPos { s.pos with
        trigs := mput s.pos.trigs (q % 2048) { seq := q, xp := xp, tick := t },
        pend := pend ++ [xp], lastXp := some xp }).incWrap pgPOS R.POS_TRIGSEQ

/-- The trigger edges of a list form their records, each once no edge of the model source captured at or before its tick
completes its hold any more; the others wait (R187). -/
def State.formList (s : State) : List Nat → State
  | [] => s.setPos { s.pos with trigWait := [] }
  | t :: ts => if s.srcHeld t then s.setPos { s.pos with trigWait := t :: ts } else (s.trigger t).formList ts

/-- The waiting trigger edges form their records as far as they can. -/
def State.formTriggers (s : State) : State := s.formList s.pos.trigWait

/-- A product trigger edge accepted with its tick (R187, R711). -/
def State.triggerEdge (s : State) (t : Nat) : State :=
  if s.enabled pgPOS && s.rdb pgPOS R.POS_CTL_TRIGEN then s.formList (s.pos.trigWait ++ [t]) else s

/-! ### Stretch and X0 (R180 to R182) -/

/-- A stretch window completes (R181, R182). -/
def State.stretchWindow (s : State) : State :=
  let p := s.pos
  let dx := s.x0 - p.wX0
  let dd := s.encDist 1 - p.wD1
  let restart := fun s : State => s.setPos { s.pos with wX0 := s.x0, wD1 := s.encDist 1, wSpoiled := !(s.encService 0 && s.encService 1) }
  if (dx.natAbs : Int) < s.strWin ∨ s.msrc ≠ 1 ∨ p.wOn = false then s
  else if p.wSpoiled ∨ !(s.encService 0 && s.encService 1) then restart s
  else
    let raw := ((dd - dx) * ppbUnit).fdiv dx - s.rdi pgPOS R.POS_STRZERO * 65536
    if s.rd pgPOS R.POS_STRCFG_LIMIT * 65536000 < raw.natAbs then restart (s.raiseI pgPOS 14 (raw.fdiv 65536))
    else
      let st := s.stretch
      let tgt := st + (raw - st).fdiv (2 ^ min 12 (s.rd pgPOS R.POS_STRCFG_FILT) : Nat)
      (restart (s.setPos { s.pos with sFrom := st, sTo := tgt, sAt := some s.x0, tracked := true })).posStatus

/-- X0 takes a value; the trigger ring and the stretch references move with it (POS item 0). -/
def State.setX0 (s : State) (x : Int) : State :=
  let d := x - s.x0
  let p := s.pos
  (s.setPos { p with
    off := p.off + d, hist := p.hist.map (fun h => { h with x0 := h.x0 + d }), sAt := p.sAt.map (· + d), wX0 := p.wX0 + d,
    trigs := p.trigs.map (fun e => (e.1, { e.2 with xp := e.2.xp + d })), pend := p.pend.map (· + d),
    lastXp := p.lastXp.map (· + d) }).posStatus

end Sys2Proof.Machine
end

