-- ==== Sys2Proof/Machine/PioOps.lean ====
section
/-!
DEFINITION. Press inputs and outputs (21): accepted levels, output sources, driven outputs and keepers.
-/
namespace Sys2Proof.Machine

/-- A press input. -/
def State.pin (s : State) (n : Nat) : PioIn := mget {} s.pio.ins n

/-- Replaces a press input. -/
def State.setPin (s : State) (n : Nat) (x : PioIn) : State :=
  { s with pio := { s.pio with ins := mset {} s.pio.ins n x } }

/-- The accepted level of an input after inversion (R677). -/
def State.inLevel (s : State) (n : Nat) : Bool := (s.pin n).level != s.rdb pgPIO (R.PIO_ICFG_INV n)

/-- The level at the pin of an input after inversion, before filtering. -/
def State.inRaw (s : State) (n : Nat) : Bool := (s.pin n).raw != s.rdb pgPIO (R.PIO_ICFG_INV n)

/-- Whether web-ready is enabled and inactive, so that no job starts (R681). -/
def State.webHolds (s : State) : Bool :=
  s.rdb pgPIO R.PIO_IMAP_WEBEN && !s.inLevel (s.rd pgPIO R.PIO_IMAP_WEBRDY)

/-- The source of an output; 6 to 15 act as 0 (R682). -/
def State.outSrc (s : State) (n : Nat) : Nat :=
  let c := s.rd pgPIO (R.PIO_OCFG_SRC n)
  if c ≤ 5 then c else 0

/-- The level an output takes from its source after inversion, if it has one (R682, R685). -/
def State.outLevel (s : State) (n : Nat) : Option Bool :=
  let inv := s.rdb pgPIO (R.PIO_OCFG_INV n)
  match s.outSrc n with
  | 1 => some (bitOf (s.rd pgPIO R.PIO_OUT_LEVEL) n != inv)
  | 2 => some (s.lines.speedLimit != inv)
  | 3 => some (s.lines.stopReq != inv)
  | 4 => some (s.lines.revPermit != inv)
  | 5 => some (s.lines.mark != inv)
  | _ => none

/-- Whether the device may drive its outputs: EN, role and state (R683). -/
def State.outsAllowed (s : State) : Bool :=
  s.enabled pgPIO && (s.dev.role == .solo || s.dev.role == .active) &&
  (s.dev.state == .ready || s.dev.state == .printing || s.dev.state == .halted)

/-- Whether an output is driven (R683). -/
def State.outDriven (s : State) (n : Nat) : Bool := s.outsAllowed && s.outSrc n != 0

/-- The level on the ball of an output: its source while driven, else what the keeper holds (R30, R636). -/
def State.outPin (s : State) (n : Nat) : Bool :=
  if s.outDriven n then (s.outLevel n).getD false else s.pio.pins.getLsbD n

/-- The bits of a predicate over 16 pins. -/
def bits16 (p : Nat → Bool) : Nat := (List.range 16).foldl (fun a n => a + b2n (p n) * 2 ^ n) 0

/-- The mirrored state of the outputs: their source levels, or the held level without a source (R685). -/
def State.mirrorOuts (s : State) : Nat := bits16 fun n => (s.outLevel n).getD (s.pio.pins.getLsbD n)

/-- The output pins follow their sources at the end of a command (R684). The levels before the first change of a tick are
remembered (R686). -/
def State.settle (s : State) : State :=
  if s.outsAllowed then
    let was := match s.pio.pinsWas with
      | some (t, p) => if t = s.now then (t, p) else (s.now, s.pio.pins)
      | none => (s.now, s.pio.pins)
    { s with pio := { s.pio with pins := BitVec.ofNat 16 (bits16 s.outPin), pinsWas := some was } }
  else s

end Sys2Proof.Machine
end

