-- ==== Sys2Proof/Machine/TimeOps.lean ====
section
/-!
DEFINITION. The timebase and the PTP assist (03): network time, the correction states and the servo, launch
queues, capture cells and PPS. Network time is counted in 2^-16 ns; the rate has the unit 2^-56.
-/
namespace Sys2Proof.Machine

/-! ### Network time (R102 to R108) -/

/-- Units of 2^-16 ns in one second. -/
def secUnits : Nat := 65536000000000

/-- Network time wraps after 2^64 s (R106). -/
def timeMod : Int := ((2 ^ 64 * secUnits : Nat) : Int)

/-- Replaces the timebase. -/
def State.setTime (s : State) (x : TimeS) : State := { s with time := x }

/-- Replaces the PTP assist. -/
def State.setPtp (s : State) (x : PtpS) : State := { s with ptp := x }

/-- T(c): network time at tick `c` (R103), extrapolated backwards before the anchor (R108). -/
def State.netTime (s : State) (c : Nat) : Int :=
  ((s.time.anchorA : Int) +
    (((c : Int) - s.time.anchorC) * 4096 * (2 ^ 56 + s.time.rate)).fdiv (2 ^ 56)) % timeMod

/-- The 112-bit layout of a network time (R102). -/
def netBits (a : Int) : Nat :=
  let n := a.toNat
  n % 65536 + n / 65536 % 1000000000 * 2 ^ 16 + n / secUnits * 2 ^ 48

/-- The anchor moves to the present tick without a discontinuity (R105). -/
def State.anchor (s : State) : State :=
  s.setTime { s.time with anchorA := (s.netTime s.now).toNat, anchorC := s.now }

/-- The next whole second of network time after the present tick, as a second count (R136). -/
def State.nextSecond (s : State) : Nat := (s.netTime s.now).toNat / secUnits + 1

/-- A change of the rate in force (R105). -/
def State.setRate (s : State) (r : Int) : State :=
  let s := s.anchor
  s.setTime { s.time with rate := r }

/-- A step of network time (R106); it gives no PPS_OUT pulse by itself (R137). -/
def State.stepTime (s : State) (d : Int) : State :=
  let s := s.anchor
  let s := s.setTime { s.time with anchorA := (((s.time.anchorA : Int) + d) % timeMod).toNat }
  s.setTime { s.time with ppsNext := some s.nextSecond }

/-! ### States and servo (R109 to R123) -/

/-- TIME_STAT.TSTATE: 0 FREE, 1 ARMED, 2 SLEW, 3 TRACK. -/
def State.tstate (s : State) : Nat := s.rd pgTIME R.TIME_STAT_TSTATE

/-- Enters FREE: the rate stays, REFUSECNT becomes 0, flag FREE carries the previous state (R110, R123). -/
def State.timeFree (s : State) : State :=
  let old := s.tstate
  let s := (s.wr pgTIME R.TIME_STAT_TSTATE 0).wr pgTIME R.TIME_STAT_REFUSECNT 0
  if old = 0 then s else s.raise pgTIME 4 old

/-- Enters TRACK with the integrator at the rate in force (R116, R123). -/
def State.timeTrack (s : State) : State :=
  let s := s.setTime { s.time with integ := s.time.rate }
  ((s.wr pgTIME R.TIME_STAT_TSTATE 3).wr pgTIME R.TIME_STAT_REFUSECNT 0).raise pgTIME 5

/-- The rate limit: floor(PPB × 2^56 ÷ 10^9), PPB above 1,953,125 acting as that value (R104, R117). -/
def State.rateLimit (s : State) : Int :=
  ((min 1953125 (s.rd pgTIME R.TIME_RATEMAX_PPB) * 2 ^ 56 / 1000000000 : Nat) : Int)

/-- A rate held inside ±TIME_RATEMAX and the 48-bit range −2^47 to 2^47 − 1 of R104. -/
def State.rateClamp (s : State) (r : Int) : Int := clampI (-s.rateLimit) (min s.rateLimit (2 ^ 47 - 1)) r

/-- TIME_JUMPTHR; below 16 acts as 16. -/
def State.jumpThr (s : State) : Nat := max 16 (s.rd pgTIME R.TIME_JUMPTHR)

/-- The update of R117 for a sample in TRACK. -/
def State.servoTrack (s : State) (theta : Int) : State :=
  if s.jumpThr < theta.natAbs then
    let n := min (s.rd pgTIME R.TIME_STAT_REFUSECNT + 1) 255
    let s := (s.wr pgTIME R.TIME_STAT_REFUSECNT n).raiseI pgTIME 3 theta
    if atLeast1 (s.rd pgTIME R.TIME_SERVOCFG_JUMPMAX) ≤ n then s.timeFree else s
  else
    let integ := s.rateClamp (s.time.integ - (s.rd pgTIME R.TIME_KI : Nat) * theta)
    let rho := s.rateClamp (integ - (s.rd pgTIME R.TIME_KP : Nat) * theta)
    let s := s.wr pgTIME R.TIME_STAT_REFUSECNT 0
    (s.setTime { s.time with integ := integ }).setRate rho

/-- An offset sample reaches the servo (R116, R117, R123). The step is by the unbounded value of a θ that leaves the signed
64 bits; only the detail and the items wrap (DESIGN CHOICE, log entry 77). -/
def State.servo (s : State) (theta : Int) : State :=
  let s := s.setTime { s.time with theta := theta }
  if s.rdb pgTIME R.TIME_CTL_MODE = false then s
  else
    match s.tstate with
    | 1 => ((s.stepTime (-theta * 4096)).raiseI pgTIME 0 (-theta)).timeTrack
    | 3 => s.servoTrack theta
    | 0 =>
      if s.rdb pgTIME R.TIME_CTL_AUTOREARM then
        if theta.natAbs ≤ s.jumpThr then s.timeTrack.servoTrack theta else s.raiseI pgTIME 3 theta
      else s
    | _ => s

/-- ARMED or TRACK moves to FREE when the source is lost (R120, R121). -/
def State.timeLost (s : State) : State := if s.tstate = 1 ∨ s.tstate = 3 then s.timeFree else s

/-- The effect of a write to TIME_CTL of which `old` was the word in force: a change of MODE first, then ARM,
then FREE (R109 to R112); as SRC returns to 0, PTPA_TMO.SYNC starts anew (log entry 56). Answers whether ARM was refused. -/
def State.timeCtl (s : State) (old v : Nat) : Bool × State :=
  let s := if bitOf old 0 != bitOf v 0 then s.timeFree else s
  let s := if bitOf old 1 != bitOf v 1 then s.setTime { s.time with ppsRef := s.now } else s
  let s := if bitOf old 1 && !bitOf v 1 && s.enabled pgPTPA then s.setPtp { s.ptp with syncRef := some s.now } else s
  let refused := bitOf v 4 && s.inJob
  let s :=
    if bitOf v 4 = false then s
    else if refused then s.raise pgTIME 2
    else s.wr pgTIME R.TIME_STAT_TSTATE 1
  let s := if bitOf v 5 then s.timeFree else s
  (refused, s)

/-! ### Launch queues (R131 to R133) -/

/-- Puts an item in a launch queue of `cap` entries, in order of launch tick, first queued first on a tie; an
item beyond the capacity is not queued (log entry 12). -/
def launchInsert {α : Type} (x : Launch α) : List (Launch α) → List (Launch α)
  | [] => [x]
  | y :: ys => if x.tick < y.tick then x :: y :: ys else y :: launchInsert x ys

/-- Queues a frame on a host lane (8 entries). -/
def State.queueHost (s : State) (n : Nat) (tick : Nat) (x : HostTx) : State :=
  let l := s.lane n
  if 8 ≤ l.launch.length then s
  else s.setLane n { l with launch := launchInsert { tick := tick, queued := s.now, item := x } l.launch }

/-- Counts a late launch with the lane code as detail (R132). -/
def State.lateLaunch (s : State) (late : Bool) (code : Nat) : State :=
  if late then (s.inc pgTIME R.TIME_LATE).raise pgTIME 9 code else s

/-! ### PTP assist (R124 to R130) -/

/-- Whether a message passes the supported profile of R124. -/
def State.ptpProfile (s : State) (m : PtpMsg) : Bool :=
  s.rd pgPTPA R.PTPA_CTL_LANE == m.lane.val &&
  (m.dst.toNat == 0x011B19000000 || m.dst.toNat == 0x0180C200000E) &&
  m.version.toNat == 2 && decide (m.minor.toNat ≤ 1) && m.majorSdo.toNat == 0 &&
  s.rd pgPTPA R.PTPA_CTL_DOMAIN == m.domain.toNat && decide (m.tags.val ≤ 1)

/-- A message dropped under R124. -/
def State.ptpDrop (s : State) : State := s.inc pgPTPA R.PTPA_DROPCNT_DROP

/-- A timestamp of a message in units of 2^-16 ns. -/
def ptpStamp (m : PtpMsg) : Int := ((m.seconds.toNat * secUnits + m.nanos.toNat * 65536 : Nat) : Int)

/-- The correctionField, signed, 2^-16 ns. -/
def ptpCorr (m : PtpMsg) : Int := m.correction.toInt

/-- PTPA_FILT.DLYAVG as a count of samples: 1 to 256. -/
def State.delayAvg (s : State) : Nat := 2 ^ min 8 (s.rd pgPTPA R.PTPA_FILT_DLYAVG)

/-- The mean of the last `n` accepted delay samples (R129), rounded towards minus infinity (DESIGN CHOICE, log entry 78). -/
def PtpS.delay (p : PtpS) (n : Nat) : Option Int :=
  match p.samples.take n with
  | [] => none
  | l => some ((sumI l).fdiv l.length)

/-- The filtered delay (R129). -/
def State.ptpDelay (s : State) : Option Int := s.ptp.delay s.delayAvg

/-- Half of a sum in 2^-16 ns, rounded towards minus infinity (DESIGN CHOICE, log entry 78). -/
def half (i : Int) : Int := i.fdiv 2

/-- A delay sample is accepted, or discarded as an outlier (R129). -/
def State.delaySample (s : State) (d : Int) : State :=
  let lim := s.rd pgPTPA R.PTPA_FILT_OUTLIER * 65536
  match s.ptpDelay with
  | some f =>
    if lim ≠ 0 ∧ lim < (d - f).natAbs then s.inc pgPTPA R.PTPA_DROPCNT_OUTLIER
    else s.setPtp { s.ptp with samples := (d :: s.ptp.samples).take 256 }
  | none => s.setPtp { s.ptp with samples := [d] }

/-- The delay sample of an exchange of which both halves are known (R129). -/
def DelayX.sample (x : DelayX) : Option Int :=
  match x.t4, x.sync.bind SyncRx.base with
  | some t4, some b => some (half (b + (t4 - x.t3)))
  | _, _ => none

/-- Exchanges that both halves complete give their delay samples, in the order of the list (R129). -/
def State.delayDone (s : State) : State :=
  let whole := s.ptp.dreqs.filter (·.sample.isSome)
  let s := s.setPtp { s.ptp with dreqs := s.ptp.dreqs.filter (·.sample.isNone) }
  (whole.filterMap DelayX.sample).foldl State.delaySample s

/-- A Sync is received (R128, R129): it is the last one received. -/
def State.syncRx (s : State) (x : SyncRx) : State := s.setPtp { s.ptp with lastSync := some x }

/-- t1 of a Sync is known: the exchanges that use this Sync have their first half, and it gives the offset sample once a
filtered delay exists (R129, R130). -/
def State.syncDone (s : State) (x : SyncRx) (t1 : Int) : State :=
  let put := fun y : SyncRx => if y.seq = x.seq ∧ y.at_ = x.at_ then { y with base := some (x.t2 - t1) } else y
  let s := s.setPtp { s.ptp with
    lastSync := s.ptp.lastSync.map put, waiting := s.ptp.waiting.erase x,
    dreqs := s.ptp.dreqs.map fun d => { d with sync := d.sync.map put } }
  let s := s.delayDone
  match s.ptpDelay with
  | none => s
  | some d =>
    let theta := (x.t2 - t1 - d).fdiv 4096
    let s := s.setPtp { s.ptp with theta := theta }
    if s.rdb pgTIME R.TIME_CTL_SRC then s else s.servo theta

/-- The local time of a receive capture: network time at the tick less INGLAT (R125). -/
def State.ingress (s : State) : Int := s.netTime (s.now - s.rd pgPTPA R.PTPA_LAT_INGLAT)

/-- The selected master port: learned, or the identity of item 0 (R126). -/
def State.fromMaster (s : State) (m : PtpMsg) : Bool := s.ptp.port == some m.source.toNat

/-- A Sync is received (R124, R128, R130). -/
def State.ptpSync (s : State) (m : PtpMsg) : State :=
  if !s.enabled pgPTPA then s
  else if !(s.ptpProfile m && s.fromMaster m) then s.ptpDrop
  else
    let s := s.incWrap pgPTPA R.PTPA_RXCNT_SYNC
    let s := s.setPtp { s.ptp with syncRef := some s.now }
    let x : SyncRx := { seq := m.seq.toNat, at_ := s.now, corr := ptpCorr m, t2 := s.ingress }
    let s := s.syncRx x
    if m.twoStep then s.setPtp { s.ptp with waiting := s.ptp.waiting ++ [x] }
    else s.syncDone x (ptpStamp m + ptpCorr m)

/-- A Follow_Up is received: it completes the Sync of its sequence number that waits less than 100 ms (R128). -/
def State.ptpFollowUp (s : State) (m : PtpMsg) : State :=
  if !s.enabled pgPTPA then s
  else if !(s.ptpProfile m && s.fromMaster m) then s.ptpDrop
  else
    match s.ptp.waiting.find? fun x => decide (x.seq = m.seq.toNat) && decide (s.now < x.at_ + ms 100) with
    | some x => s.syncDone x (ptpStamp m + x.corr + ptpCorr m)
    | none => s

/-- The device's own portIdentity: the EUI-64 of the lane's MAC address and port number 1 (PRESUMED, log entry 83). -/
def State.portIdentity (s : State) : Nat :=
  let mac := s.laneMac (s.rd pgPTPA R.PTPA_CTL_LANE)
  (mac / 2 ^ 24 * 2 ^ 40 + 0xFFFE * 2 ^ 24 + mac % 2 ^ 24) * 2 ^ 16 + 1

/-- A Delay_Resp to the device is received: t4 of its exchange is known (R129). One to another port is no message to this
device (log entry 83). -/
def State.ptpDelayResp (s : State) (m : PtpMsg) : State :=
  if !s.enabled pgPTPA then s
  else if !(s.ptpProfile m && s.fromMaster m) then s.ptpDrop
  else if m.requesting.toNat ≠ s.portIdentity then s
  else
    match s.ptp.dreqs.find? fun x => decide (x.seq = m.seq.toNat) && x.t4.isNone with
    | none => s
    | some x =>
      let s := s.incWrap pgPTPA R.PTPA_RXCNT_DRESP
      let keep := s.ptp.dreqs.erase x
      let y := { x with t4 := some (ptpStamp m - ptpCorr m) }
      (s.setPtp { s.ptp with logInterval := m.logInterval.toInt,
                             dreqs := if y.sync.isNone then keep else keep ++ [y] }).delayDone

/-- A master change: GMCHG, and TRACK moves to FREE (R122). The delay samples, the last Sync and the exchanges in progress
stay (DESIGN CHOICE, log entry 81). -/
def State.masterChange (s : State) : State :=
  let s := s.raise pgPTPA 1
  if s.tstate = 3 then s.timeFree else s

/-- A new port is selected: MASTER, a master change, and both timeouts run from here (R120, R122, R126; log entry 79). -/
def State.selectPort (s : State) (p : Nat) : State :=
  ((s.setPtp { s.ptp with port := some p, annRef := some s.now, syncRef := some s.now }).raise pgPTPA 0).masterChange

/-- The identity of item 0 is the selected port: written with LEARN 0, or as LEARN becomes 0 (R126). Its grandmaster is
not known before its first Announce (log entry 84). -/
def State.itemPort (s : State) : State :=
  if s.ptp.port = s.ptp.written then s
  else
    match s.ptp.written with
    | some p => s.selectPort p
    | none => s.setPtp { s.ptp with port := none, annRef := none }

/-- LEARN is written: as it becomes 0, item 0 names the port; as it becomes 1, PTPA_TMO.ANN runs anew for a port that
stays selected (R126; log entry 80). -/
def State.learnChange (s : State) (was : Bool) : State :=
  let now_ := s.rdb pgPTPA R.PTPA_CTL_LEARN
  if was && !now_ then s.itemPort
  else if !was && now_ && s.ptp.port.isSome then s.setPtp { s.ptp with annRef := some s.now }
  else s

/-- The grandmasterIdentity of an Announce is recorded (R122). -/
def State.recordGm (s : State) (gm : Nat) : State := s.setPtp { s.ptp with grandmaster := gm }

/-- An Announce is received (R122, R126). -/
def State.ptpAnnounce (s : State) (m : PtpMsg) : State :=
  if !s.enabled pgPTPA then s
  else if !s.ptpProfile m then s.ptpDrop
  else
    let gm := m.grandmaster.toNat
    match s.ptp.port with
    | none =>
      if s.rdb pgPTPA R.PTPA_CTL_LEARN then (s.recordGm gm).selectPort m.source.toNat else s.ptpDrop
    | some p =>
      if p ≠ m.source.toNat then s.ptpDrop
      else
        let s := s.setPtp { s.ptp with annRef := some s.now }
        if gm ≠ s.ptp.grandmaster then (s.recordGm gm).masterChange else s

/-- The transmission of a Delay_Req: t3 is the tick of actual transmission plus EGRLAT (R125, R127); the delay
exchange uses the last Sync received before it (R129). -/
def State.dreqSent (s : State) (seq : Nat) : State :=
  let t3 := s.netTime (s.now + s.rd pgPTPA R.PTPA_LAT_EGRLAT)
  s.setPtp { s.ptp with dreqs := s.ptp.dreqs ++ [{ seq := seq, at_ := s.now, t3 := t3, sync := s.ptp.lastSync }] }

/-! ### Captures (R135, R138) -/

/-- A general cell records an edge (R135). -/
def State.capture (s : State) (n : Nat) : State :=
  let c : CapCell := mget {} s.time.cells n
  let s := s.setTime { s.time with
    cells := mset {} s.time.cells n { tick := s.now, count := c.count + 1#32 } }
  let new := s.rd pgTIME R.TIME_CAPSTAT_NEW
  if bitOf new n then
    (s.wr pgTIME R.TIME_CAPSTAT_OVR (Nat.lor (s.rd pgTIME R.TIME_CAPSTAT_OVR) (2 ^ n))).raise pgTIME 10 n
  else s.wr pgTIME R.TIME_CAPSTAT_NEW (Nat.lor new (2 ^ n))

/-- The known capture sources of TIME_CAPSRCn.SRC. -/
def capSource (c : Nat) : Bool :=
  c == 0x01 || inRun c 0x10 16 || inRun c 0x20 6 || inRun c 0x28 3 || inRun c 0x30 4 || c == 0x38

/-- An edge of a source reaches every cell below `n` that selects it (R135). -/
def State.captureAll (s : State) (src : Nat) (rising : Bool) : Nat → State
  | 0 => s
  | n + 1 =>
    let s := s.captureAll src rising n
    let e := s.rd pgTIME (R.TIME_CAPSRC_EDGE n)
    let edge := e == 2 || (if e == 1 then !rising else rising)
    if capSource src && s.rd pgTIME (R.TIME_CAPSRC_SRC n) == src && edge then s.capture n else s

/-- Reading a cell's mailbox item clears its NEW and OVR bits (R135). -/
def State.capRead (s : State) (n : Nat) : State :=
  let clr := fun x => Nat.land x (255 - 2 ^ n)
  (s.wr pgTIME R.TIME_CAPSTAT_NEW (clr (s.rd pgTIME R.TIME_CAPSTAT_NEW))).wr pgTIME R.TIME_CAPSTAT_OVR
    (clr (s.rd pgTIME R.TIME_CAPSTAT_OVR))

/-- 1.5 s without a PPS_IN edge while PPS_IN is the servo source (R121). -/
def State.ppsMiss (s : State) : State :=
  if s.rdb pgTIME R.TIME_CTL_SRC && decide (s.time.ppsRef + ms 1500 ≤ s.now) then
    ((s.setTime { s.time with ppsRef := s.now }).raise pgTIME 8).timeLost
  else s

/-- An active PPS_IN edge (R121, R138): its own cell captures it, and with SRC 1 it gives the servo its sample. An edge at
the end tick of the 1.5 s comes after their end (R139). -/
def State.ppsEdge (s : State) (rising : Bool) : State :=
  if rising = s.rdb pgTIME R.TIME_PPSCTL_INEDGE then s
  else
    let s := s.ppsMiss
    let c := s.time.pps
    let s := s.setTime { s.time with pps := { tick := s.now, count := c.count + 1#32 }, ppsRef := s.now }
    if s.rdb pgTIME R.TIME_CTL_SRC then
      let f := (s.netTime s.now) % (secUnits : Int)
      let f := if (secUnits / 2 : Nat) < f then f - secUnits else f
      s.servo (f.fdiv 4096)
    else s

/-! ### Samples ahead of a command (R111) -/

/-- What a command that can give the servo a sample does at a tick; no other command. -/
def State.sample (s : State) (t : Nat) : Instr → Option State
  | .ptpSyncReceive x m => if x.toNat = t then some (s.ptpSync m) else none
  | .ptpFollowUpReceive x m => if x.toNat = t then some (s.ptpFollowUp m) else none
  | .ptpDelayRespReceive x m => if x.toNat = t then some (s.ptpDelayResp m) else none
  | .ppsInEdge x r => if x.toNat = t then some (s.ppsEdge r) else none
  | _ => none

/-- Commands that wait in the queue act ahead of their turn, in their order, and are noted: those for which `f` answers. -/
def State.actAhead (s : State) (f : State → Instr → Option State) : State :=
  (s.pending.filter fun c => !s.early.contains c).foldl
    (fun z c => match f z c with
      | some y => { y with early := c :: y.early }
      | none => z) s

/-- The samples of this tick that still wait in the queue are processed, and noted: a command written to TIME_CTL in the
same handshake acts after them (R111). -/
def State.samplesFirst (s : State) : State := s.actAhead fun z c => z.sample z.now c

/-- A command in its own turn: nothing is left of one that has acted ahead of it (R111, R427). -/
def State.once (s : State) (c : Instr) (f : State → State) : State :=
  if s.early.contains c then { s with early := s.early.erase c } else f s

end Sys2Proof.Machine
end

