-- ==== Sys2Proof/Machine/TwinOps.lean ====
section
/-!
DEFINITION. The twin unit (17): pair ticks, forming the pair, heartbeats, the failure decision and being in
step.
-/
namespace Sys2Proof.Machine

/-- Replaces the twin unit. -/
def State.setTwin (s : State) (x : TwinS) : State := { s with twin := x }

/-- TWIN_STAT.TSTATE: 0 SOLO, 1 LINKWAIT, 2 STANDBY, 3 ACTIVE, 4 TAKEOVER, 5 ALONE, 6 FAULT. -/
def State.twinState (s : State) : Nat := s.rd pgTWIN R.TWIN_STAT_TSTATE

/-- Writes TSTATE. -/
def State.setTwinState (s : State) (v : Nat) : State := s.wr pgTWIN R.TWIN_STAT_TSTATE v

/-- Whether the part is twin capable (R1, R5). -/
def State.twinPart (s : State) : Bool := s.part.number != .et822s8

/-- Whether pair operation is configured, with the PAIR_ID in force at the last entry to LINKUP (R581, R703). -/
def State.pairMode (s : State) : Bool :=
  s.twinPart && s.twin.pairedId != 0 && !s.rdb pgTWIN R.TWIN_CFG_SOLO

/-- Whether twin lanes are powered: pair operation is configured and LINKUP has been reached (R581). -/
def State.twinPowered (s : State) : Bool := s.pairMode && s.pagesUp

/-- Whether an epoch `a` is newer than `b`: ahead of it modulo 2^32 by less than half the range (R390). -/
def newerEpoch (a b : Nat) : Bool := let d := (a + 2 ^ 32 - b % 2 ^ 32) % 2 ^ 32; decide (0 < d ∧ d < 2 ^ 31)

/-- Remembers the newest epoch seen (R579). -/
def State.sawEpoch (s : State) (e : Nat) : State :=
  if newerEpoch e s.twin.newest then s.setTwin { s.twin with newest := e } else s

/-- The epoch that a device takes as it becomes active: 1 plus the newest of its own and those seen (R579). -/
def State.nextEpoch (s : State) : Nat :=
  let own := s.rd pgTWIN R.TWIN_EPOCH
  ((if newerEpoch s.twin.newest own then s.twin.newest else own) + 1) % 2 ^ 32

/-- PERIOD of the heartbeats in ticks, limited to 2 to 16 us. -/
def State.beatPeriod (s : State) : Nat := us (clampN 2 16 (s.rd pgTWIN R.TWIN_HBCFG_PERIOD))

/-- The time from a path's last heartbeat to its deadline: MISS × PERIOD (R597). -/
def State.beatLimit (s : State) : Nat := max 2 (s.rd pgTWIN R.TWIN_HBCFG_MISS) * s.beatPeriod

/-- The SYS_CAP word (R1). -/
def State.sysCap (s : State) : Nat :=
  0x100 + (if s.part.number = .et822t4 then 4 else 8) + (if s.part.number = .et822s8 then 0 else 16)

/-- The HELLO that the device sends now (R575). -/
def State.hello (s : State) : Hello :=
  { pairId := BitVec.ofNat 32 s.twin.pairedId, cap := BitVec.ofNat 32 s.sysCap, serial := s.part.serial,
    roleSel := s.rdb pgSYS R.SYS_STRAP_ROLE_SEL, sysState := BitVec.ofNat 32 s.sysState,
    epoch := BitVec.ofNat 32 (s.rd pgTWIN R.TWIN_EPOCH) }

/-- A standby leaves step (R593). -/
def State.leaveStep (s : State) : State :=
  (s.wr pgTWIN R.TWIN_STAT_INSTEP 0).setTwin { s.twin with runs := [] }

/-- STEPN; 0 acts as 1. -/
def State.stepN (s : State) : Nat := atLeast1 (s.rd pgTWIN R.TWIN_HLTHCFG_STEPN)

/-- A standby enters step when, for every bar of the job, it has built up to the active device's committed slot
and the last STEPN summaries have matched (R593). -/
def State.stepCheck (s : State) (bars : Nat) : State :=
  let ok := (List.range 8).all fun b =>
    !bitOf bars b || (decide (sgn 48 (mget 0 s.twin.peerCommitted b) ≤ sgn 48 (mget 0 s.twin.ownCommitted b)) &&
      decide (s.stepN ≤ mget 0 s.twin.runs b))
  if s.isStandby && s.rdb pgTWIN R.TWIN_STAT_INSTEP = false && bars ≠ 0 && ok then
    (s.wr pgTWIN R.TWIN_STAT_INSTEP 1).raise pgTWIN 5
  else s

/-- Compares the summaries of one slot of one bar (R592, R593). -/
def State.compareSum (s : State) (bar slot active own : Nat) : State :=
  let tw := s.twin
  if active = own then
    s.setTwin { tw with runs := mset 0 tw.runs bar (mget 0 tw.runs bar + 1),
                        health := { tw.health with ok := satInc 32 tw.health.ok } }
  else
    let s := s.setTwin { tw with mismatch := (bar * 2 ^ 48 + slot, active, own),
                                 health := { tw.health with bad := satInc 16 tw.health.bad } }
    ((s.inc pgTWIN R.TWIN_MISCNT).raise pgTWIN 6 (bar * 2 ^ 48 + slot)).leaveStep

/-- The key of a summary: bar and slot. -/
def sumKey (bar slot : Nat) : Nat := bar * 2 ^ 48 + slot

/-- The device has formed its own summary: an active device sends it, a standby compares it (R592). -/
def State.ownSummary (s : State) (bar slot crc : Nat) : State :=
  if s.isActive then s.twinSend (.sum bar slot [crc])
  else if s.isStandby then
    match mfind s.twin.peerSums (sumKey bar slot) with
    | some (a, _) =>
      (s.setTwin { s.twin with peerSums := merase s.twin.peerSums (sumKey bar slot) }).compareSum bar slot a crc
    | none => s.setTwin { s.twin with ownSums := mput s.twin.ownSums (sumKey bar slot) (crc, s.now) }
  else s

/-- A summary of the active device arrives (R592). -/
def State.peerSummary (s : State) (bar slot crc : Nat) : State :=
  match mfind s.twin.ownSums (sumKey bar slot) with
  | some (o, _) =>
    (s.setTwin { s.twin with ownSums := merase s.twin.ownSums (sumKey bar slot) }).compareSum bar slot crc o
  | none => s.setTwin { s.twin with peerSums := mput s.twin.peerSums (sumKey bar slot) (crc, s.now) }

/-- Summaries of consecutive slots arrive. -/
def State.peerSummaries (s : State) (bar slot : Nat) : List Word → State
  | [] => s
  | c :: cs => (s.peerSummary bar slot c.toNat).peerSummaries bar (slot + 1) cs

/-- Counts the summaries left without a counterpart for 1 ms and drops them (TWIN_HEALTH1.UNMATCHED). -/
def State.dropOldSums (s : State) : State :=
  let old := fun e : Nat × (Nat × Nat) => decide (e.2.2 + ms 1 ≤ s.now)
  let tw := s.twin
  let n := (tw.ownSums.filter old).length + (tw.peerSums.filter old).length
  s.setTwin { tw with ownSums := tw.ownSums.filter (!old ·), peerSums := tw.peerSums.filter (!old ·),
                      health := { tw.health with unmatched := satAdd 16 tw.health.unmatched n } }

/-- Sends a DELTA with its sequence number (R576, R584). -/
def State.sendDelta (s : State) (d : Delta) : State :=
  (s.setTwin { s.twin with deltaTx := (s.twin.deltaTx + 1) % 2 ^ 32 }).twinKeep (.delta s.twin.deltaTx d)

/-- The content of an ALIGN now (R589). -/
def State.ownAlign (s : State) : Align :=
  { x0 := BitVec.ofInt 64 (to256 (s.x0At s.now)), enc0 := BitVec.ofInt 64 (s.enc 0).count,
    enc1 := BitVec.ofInt 64 (s.enc 1).count, stretch := BitVec.ofInt 32 (s.stretch.fdiv 65536),
    tick := BitVec.ofNat 80 s.pairTick }

/-- The ALIGN that an active device sends (R589). -/
def State.sendAlign (s : State) : State := if s.isActive then s.twinSend (.align s.ownAlign) else s

/-- The device counter that a pair tick names (R577). -/
def State.ownTick (s : State) (pair : Int) : Nat := (pair - s.twin.offset).toNat

/-- Declares the active device failed (R599). -/
def State.declare (s : State) (reason : Nat) : State :=
  if s.isStandby && s.twin.declared.isNone && s.pagesUp then
    let s := s.setTwin { s.twin with declared := some (reason, s.now) }
    (s.raise pgTWIN 3 reason).inc pgTWIN R.TWIN_TAKECNT_DECL
  else s

/-- A heartbeat on a path restarts its deadline, ends its silence and cancels a declaration for silence that has
not become a takeover (R597, R615). -/
def State.beatHeard (s : State) (pin : Bool) : State :=
  let tw := s.twin
  let tw := match tw.declared with
    | some (1, _) => { tw with declared := none, held := false }
    | _ => tw
  if pin then
    (s.setTwin { tw with pinLast := some s.pairTick, pinAlarmed := false }).wr pgTWIN R.TWIN_STAT_HBPIN 1
  else
    (s.setTwin { tw with linkLast := some s.pairTick, linkAlarmed := false }).wr pgTWIN R.TWIN_STAT_HBLINK 1

/-- Whether a path is silent: its deadline has come (R597). -/
def State.silent (s : State) (pin : Bool) : Bool :=
  match (if pin then s.twin.pinLast else s.twin.linkLast) with
  | some l => decide (l + s.beatLimit ≤ s.pairTick)
  | none => true

/-- Whether the device is live as the active one, so that its heartbeats hold the Sluice (R602). -/
def State.liveActive (s : State) : Bool :=
  s.isActive && (s.dev.state == .ready || s.dev.state == .printing || s.dev.state == .halted)

/-- The offset of a standby follows the active device (R578). -/
def State.followOffset (s : State) (theta : Int) : State :=
  let tw := s.twin
  let move : Int :=
    if s.inJob = false ∧ 64 < theta.natAbs then theta
    else
      let m := ((s.now - tw.offsetAt) / 16000 : Nat)
      clampI (-(m : Int)) m theta
  s.setTwin { tw with offset := sgn 80 (uns 80 (tw.offset - move)), theta := theta, offsetAt := s.now }

/-- The role that the device takes as the pair is decided (R583, R604). -/
def State.pairRole (s : State) : Role :=
  if s.rd pgTWIN R.TWIN_STAT_PEERROLE = 2 then .standby
  else if s.rdb pgSYS R.SYS_STRAP_ROLE_SEL then .standby else .active

/-- The device becomes active in a handshake with SLUICE_IN low: it drives SLUICE_OUT and takes a new epoch
(R579, R602, R604). -/
def State.becomeActive (s : State) (st : DevState) : State :=
  let e := s.nextEpoch
  let s := s.setTwin { s.twin with sluiceOut := true, monoEnd := s.now + us 20, newest := e }
  (s.wr pgTWIN R.TWIN_EPOCH e).change st .active s.dev.cause

/-- The planned handover: announcement with reason 6, release of the Sluice, then FENCED with cause 0x3; FIRE
frames stop with the state (R611). -/
def State.handover (s : State) : State :=
  (((s.twinSendBoth (.heart (s.heart 6))).sluiceLow.camCut 0).camCut 1).change .fenced s.dev.role 3

end Sys2Proof.Machine
end

