-- ==== Sys2Proof/Machine/TileLink.lean ====
section
/-!
DEFINITION. The tile lanes (09): chains and their tiles, geometry of the bars (07), frames sent on a lane,
and what each device state lets a lane carry.
-/
namespace Sys2Proof.Machine

/-! ### Lanes, chains and tiles -/

/-- A tile lane. -/
def State.tl (s : State) (n : Nat) : TileLane := mget {} s.tlnk n

/-- Replaces a tile lane. -/
def State.setTl (s : State) (n : Nat) (x : TileLane) : State := { s with tlnk := mset {} s.tlnk n x }

/-- A position of a lane. -/
def State.tpos (s : State) (n p : Nat) : TilePos := mget {} (s.tl n).pos p

/-- Replaces a position of a lane. -/
def State.setTpos (s : State) (n p : Nat) (x : TilePos) : State :=
  s.setTl n { s.tl n with pos := mset {} (s.tl n).pos p x }

/-- The first tile of a chain. -/
def chainFirst (c : Nat) : Nat := nth 18 [0, 5, 10, 14, 18] c

/-- The number of tiles a chain can have. -/
def chainSize (c : Nat) : Nat := if c < 2 then 5 else 4

/-- The chain of a tile. -/
def chainOf (t : Nat) : Nat := if t < 5 then 0 else if t < 10 then 1 else if t < 14 then 2 else if t < 18 then 3 else 4

/-- The lane of a tile of a bar. -/
def laneOf (b t : Nat) : Nat := b * 5 + chainOf t

/-- The position of a tile in its chain. -/
def posOf (t : Nat) : Nat := t - chainFirst (chainOf t)

/-- The tile at a position of a lane. -/
def tileOf (n p : Nat) : Nat := chainFirst (n % 5) + p

/-- The fitted tiles of a bar: NTILES, at most 22 (R275). -/
def State.fitted (s : State) (b : Nat) : Nat := min 22 (s.rd (pgRAST b) R.RAST_CTL_NTILES)

/-- NFIT: the fitted tiles of a lane's chain. -/
def State.nfit (s : State) (n : Nat) : Nat :=
  min (chainSize (n % 5)) (s.fitted (n / 5) - chainFirst (n % 5))

/-- Whether the bar is on the part (R1, R2). -/
def State.barPart (s : State) (b : Nat) : Bool := decide (b < if s.part.number = .et822t4 then 4 else 8)

/-- Whether the lane is on the part and enabled (R3, R705). -/
def State.laneOn (s : State) (n : Nat) : Bool := s.barPart (n / 5) && s.enabled (pgTLNK n)

/-- LSTATE of a lane. -/
def State.lstate (s : State) (n : Nat) : Nat := s.rd (pgTLNK n) R.TLNK_STAT_LSTATE

/-- Writes LSTATE. -/
def State.setLstate (s : State) (n v : Nat) : State := s.wr (pgTLNK n) R.TLNK_STAT_LSTATE v

/-- Whether a lane is UP or DEGRADED. -/
def State.laneUp (s : State) (n : Nat) : Bool := s.lstate n == 6 || s.lstate n == 7

/-- Whether the device drives the east end of its chains (R641). -/
def State.eastEnd (s : State) : Bool := s.rdb pgSYS R.SYS_STRAP_ROLE_SEL

/-- Whether the device is the lead end (R352). -/
def State.leadEnd (s : State) : Bool := !s.pairMode || !s.eastEnd

/-! ### What a lane carries in each state (01, after R31) -/

/-- Whether the lanes carry TIME, MEAS and PULSE: the state is LINKUP or READY, or the device runs the job
as active or solo. -/
def State.tilesOpen (s : State) : Bool :=
  s.dev.state == .linkup || s.dev.state == .ready || (s.inJob && s.dev.role != .standby)

/-- Whether the device runs the job on its lanes: active or solo, in PRINTING or HALTED. -/
def State.tilesJob (s : State) : Bool := s.inJob && s.dev.role != .standby

/-! ### Frames (R365) -/

/-- A frame of the tile link with its header and CRC. -/
def State.tileFrame (s : State) (n type sub dest : Nat) (corr : Int) (payload : List Byte) : List Byte :=
  let src := if s.eastEnd then 0xD else 0xC
  let body := leBytes (type + 16) 1 ++ leBytes (dest + 16 * src) 1 ++ leBytes sub 1 ++ leBytes n 1 ++
    leBytes (s.rd pgTWIN R.TWIN_EPOCH) 4 ++ leBytes payload.length 2 ++ leBytes (s.tl n).seq 2 ++
    leBytes (uns 32 corr) 4 ++ payload
  body ++ leBytes (crc32c body) 4

/-- Transmits a finished frame on a lane that is on; SEQ counts it. -/
def State.tileOut (s : State) (n : Nat) (f : List Byte) : State :=
  if s.laneOn n then
    let l := s.tl n
    s.setTl n { l with tx := l.tx ++ [f], seq := (l.seq + 1) % 65536, txAt := s.now }
  else s

/-- The place of a position counted from the device's own end of the chain (R398). -/
def State.fromEnd (s : State) (n p : Nat) : Nat := if s.eastEnd then s.nfit n - 1 - p else p

/-- Whether a position lies beyond the break of a lane, hop 0 being the device's own (R398, R399). -/
def State.beyond (s : State) (n p : Nat) : Bool :=
  decide (p < s.nfit n) && decide (s.rd (pgTLNK n) R.TLNK_STAT_BREAKHOP ≤ s.fromEnd n p)

/-- Whether a frame is a TEST PRBS, which never leaves its hop (R361, R393). -/
def isPrbs (type sub : Nat) : Bool := type == 8 && sub == 0

/-- Builds and transmits a frame on a lane; a relay takes what goes to every tile or beyond the break (R399, R612). -/
def State.tileSend (s : State) (n type sub dest : Nat) (payload : List Byte) : State :=
  let f := s.tileFrame n type sub dest 0 payload
  let s := s.tileOut n f
  if s.twin.relay.contains n && s.isActive && !isPrbs type sub && (dest == 0xF || s.beyond n dest) then
    s.twinSend (.relay n f)
  else s

/-- Transmits a frame if the state lets the lane carry it. -/
def State.tileSendOpen (s : State) (n type sub dest : Nat) (payload : List Byte) : State :=
  if s.tilesOpen then s.tileSend n type sub dest payload else s

/-- Whether a received frame passes R366: its CRC, VER, LANE and LEN. -/
def State.tileFrameOk (n : Nat) (f : List Byte) : Bool :=
  decide (20 ≤ f.length) && decide (leAt f (f.length - 4) 4 = crc32c (f.take (f.length - 4))) &&
  decide (byteAt f 0 / 16 = 1) && decide (byteAt f 3 = n) && decide (leAt f 8 2 + 20 = f.length)

/-- The payload of a frame. -/
def tilePayload (f : List Byte) : List Byte := (f.drop 16).take (leAt f 8 2)

/-- TYPE of a frame. -/
def tileType (f : List Byte) : Nat := byteAt f 0 % 16

/-- SUB of a frame. -/
def tileSub (f : List Byte) : Nat := byteAt f 2

/-- DEST of a frame. -/
def tileDest (f : List Byte) : Nat := byteAt f 1 % 16

/-- SRC of a frame. -/
def tileSrc (f : List Byte) : Nat := byteAt f 1 / 16

/-- Whether the payload of a STATUS has its form (R387). -/
def statusForm (pl : List Byte) : Bool := decide (byteAt pl 21 ≤ 16) && decide (pl.length = 32 + 8 * byteAt pl 21)

/-- Whether the payload of a MEAS result has its form (R387). -/
def measForm (pl : List Byte) : Bool := decide (pl.length = if byteAt pl 2 = 1 then 16 + 2 * leAt pl 6 2 else 18)

/-- Whether a TYPE and SUB are defined and a payload has the LEN that their format gives it (R366 and the formats of 09). -/
def tileForm (type sub : Nat) (pl : List Byte) : Bool :=
  let n := pl.length
  match type, sub with
  | 0, 0 => n == 4
  | 1, 0 => decide (byteAt pl 7 ≤ 64) && n == 1208 + 4 * byteAt pl 7
  | 2, 0 => n == 48
  | 3, 0 => n == 96
  | 3, 1 => n == 16 + 3 * ((leAt pl 10 2 + 1) / 2)
  | 4, 0 => n == 8
  | 4, 1 => n == 8
  | 4, 2 => n == 20
  | 4, 3 => n == 8
  | 5, 0 => n == 16
  | 6, 0 => statusForm pl
  | 6, 1 => n == 32
  | 6, 2 => measForm pl
  | 6, 3 => n == 32
  | 7, 0 => n == 16
  | 8, 0 => decide (5 ≤ n) && decide (n ≤ 1028)
  | 8, 1 => n == 0
  | 8, 2 => n == 4
  | 8, 3 => n == 4
  | 8, 4 => n == 4
  | _, _ => false

/-- Whether a received frame passes R366 whole. -/
def State.tileGood (n : Nat) (f : List Byte) : Bool :=
  State.tileFrameOk n f && tileForm (tileType f) (tileSub f) (tilePayload f)

/-- A frame that R366 discards. -/
def State.tileBad (s : State) (n : Nat) : State := s.inc (pgTLNK n) R.TLNK_CRCERR

/-! ### Geometry (R274 to R284) -/

/-- XCOL_t. -/
def State.xcol (s : State) (b t : Nat) : Nat := s.rd (pgRAST b) (R.RAST_XCOL t)

/-- U_{t,r}. -/
def State.uoff (s : State) (b t r : Nat) : Nat := s.rd (pgRAST b) (R.RAST_UOFF (t * 4 + r))

/-- COLSTART and COLCOUNT of a chain; zero without a fitted tile (R277). -/
def State.chainCols (s : State) (b c : Nat) : Nat × Nat :=
  let n := s.nfit (b * 5 + c)
  if n = 0 then (0, 0)
  else
    let a := s.xcol b (chainFirst c)
    (a, s.xcol b (chainFirst c + n - 1) + 4800 - a)

/-- Lines per inch of a job. -/
def Job.lpi (j : Job) : Nat := if j.lpi600 then 600 else 1200

/-- The scale of R282: 25,400 × 256. -/
def lineUnit : Nat := 6502400

/-- K_t of R282. -/
def tilePhase (u lpi : Nat) : Nat := (2 * u * lpi + lineUnit) / (2 * lineUnit) % 4

/-- k_{t,r} of R282. -/
def rowDelay (u lpi kt : Nat) : Int :=
  kt + 4 * ((u * lpi : Nat) - (kt * lineUnit : Nat) + (2 * lineUnit : Nat) : Int).fdiv (4 * lineUnit)

/-- f_{t,r} of R282 in 2^-12 line, rounded to nearest, ties away from zero. -/
def rowTrim (u lpi : Nat) (k : Int) : Int := divRound (((u * lpi : Nat) - k * lineUnit) * 4096) lineUnit

/-- The raster state of a bar. -/
def State.barRast (s : State) (b : Nat) : BarRast := mget {} s.rast b

/-- Replaces the raster state of a bar. -/
def State.setBarRast (s : State) (b : Nat) (x : BarRast) : State := { s with rast := mset {} s.rast b x }

/-- Delay of a row from the last job start. -/
def State.rowK (s : State) (b t r : Nat) : Int := mget 0 (s.barRast b).k (t * 4 + r)

/-- Trim of a row from the last job start. -/
def State.rowF (s : State) (b t r : Nat) : Int := mget 0 (s.barRast b).f (t * 4 + r)

/-- Tile phase from the last job start. -/
def State.tileK (s : State) (b t : Nat) : Nat := mget 0 (s.barRast b).kt t

/-- The (tile, row) pairs of the fitted tiles. -/
def State.rowPairs (s : State) (b : Nat) : List (Nat × Nat) :=
  (List.range (s.fitted b)).flatMap fun t => (List.range 4).map fun r => (t, r)

/-- The row delays, trims and phases of a bar under the present settings (R282). -/
def State.computeRows (s : State) (b lpi : Nat) : NMap Int × NMap Int × NMap Nat :=
  let kt := (List.range (s.fitted b)).map fun t => (t, tilePhase (s.uoff b t 3) lpi)
  let ks := (s.rowPairs b).map fun p => (p.1 * 4 + p.2, rowDelay (s.uoff b p.1 p.2) lpi (tilePhase (s.uoff b p.1 3) lpi))
  let fs := (s.rowPairs b).map fun p =>
    (p.1 * 4 + p.2, rowTrim (s.uoff b p.1 p.2) lpi (rowDelay (s.uoff b p.1 p.2) lpi (tilePhase (s.uoff b p.1 3) lpi)))
  (ks.filter fun e => e.2 ≠ 0, fs.filter fun e => e.2 ≠ 0, kt.filter fun e => e.2 ≠ 0)

/-- The largest of a list, 0 for none. -/
def maxI (l : List Int) : Int := l.foldl max 0

/-- The smallest of a list, with a value for none. -/
def minI (d : Int) : List Int → Int
  | [] => d
  | a :: t => t.foldl min a

/-- D_b: the largest row delay (R283). -/
def State.dBar (s : State) (b : Nat) : Int := maxI ((s.rowPairs b).map fun p => s.rowK b p.1 p.2)

/-- The smallest row delay of a bar. -/
def State.kMin (s : State) (b : Nat) : Int := minI 0 ((s.rowPairs b).map fun p => s.rowK b p.1 p.2)

/-- The largest row trim of a bar, 2^-12 line. -/
def State.fMax (s : State) (b : Nat) : Int :=
  match (s.rowPairs b).map fun p => s.rowF b p.1 p.2 with
  | [] => 0
  | a :: t => t.foldl max a

/-- The largest row trim of a tile. -/
def State.fMaxTile (s : State) (b t : Nat) : Int :=
  [s.rowF b t 1, s.rowF b t 2, s.rowF b t 3].foldl max (s.rowF b t 0)

/-- QLEAD of a bar: 32 to 480 (R311). -/
def State.qLead (s : State) (b : Nat) : Nat := clampN 32 480 (s.rd (pgFIRE b) R.FIRE_CTL_QLEAD)

/-- DFL_CTL.MARGIN: 16 to 4,096. -/
def State.margin (s : State) : Nat := clampN 16 4096 (s.rd pgDFL R.DFL_CTL_MARGIN)

/-! ### The nozzle table (R300 to R305) -/

/-- The key of a nozzle: bar and entry index. -/
def nozKey (b idx : Nat) : Nat := b * 422400 + idx

/-- The entry index of a nozzle (R300). -/
def nozIndex (t r j : Nat) : Nat := (t * 4 + r) * 4800 + j

/-- What an entry reads at the end of BUILD (R301). -/
def nozReset : Word := 0x10000000#32

/-- A nozzle table entry. -/
def State.nozzle (s : State) (b idx : Nat) : Nat := (mget nozReset s.noz (nozKey b idx)).toNat

/-- Replaces a nozzle table entry. -/
def State.setNozzle (s : State) (b idx v : Nat) : State :=
  { s with noz := mset nozReset s.noz (nozKey b idx) (BitVec.ofNat 32 v) }

/-- STATUS of an entry; 4 to 15 act as OUT. -/
def nozStatus (e : Nat) : Nat := let v := bitsOf e 8 4; if v ≤ 3 then v else 2

/-- TRIM of an entry. -/
def nozTrim (e : Nat) : Int := sgn 8 e

/-- Whether a nozzle is hidden (R286). -/
def State.hidden (s : State) (b : Nat) (e : Nat) : Bool :=
  nozStatus e == 2 || nozStatus e == 3 ||
  (nozStatus e == 1 && s.rdb (pgRAST b) R.RAST_CTL_HIDEWEAK && bitsOf e 12 4 != 2) || bitsOf e 12 4 == 1

end Sys2Proof.Machine
end

