-- ==== Sys2Proof/Machine/RasterOps.lean ====
section
/-!
DEFINITION. The raster path (07): the owner of a column, delay lines in DRAM, nozzle lines, defect records,
and the geometry checks.
-/
namespace Sys2Proof.Machine

/-! ### Job lines (R255, R306, R307) -/

/-- The triggers that a product job takes once its END has arrived: those accepted before it (R235). -/
def Job.taken (j : Job) : Option Nat := j.ended.map fun e => (e + 2 ^ 32 - j.trig0) % 2 ^ 32

/-- The trigger sequence of product `k` of a job. -/
def Job.trigOf (j : Job) (k : Nat) : Nat := (j.trig0 + k) % 2 ^ 32

/-- The product coordinate of the k-th trigger taken by a product job, if it has been accepted, and before END (R235,
R237). -/
def State.productX (s : State) (j : Job) (k : Nat) : Option Int :=
  if j.taken.any (fun n => decide (n ≤ k)) then none
  else
    match mfind s.pos.trigs (j.trigOf k % 2048) with
    | some r => if r.seq = j.trigOf k then some r.xp else none
    | none => none

/-- L_k of R307: ceil(X_p ÷ p). -/
def productLine (j : Job) (xp : Int) : Int := -((-(xp * j.lpi)).fdiv (25400 * 65536))

/-- The job line of line `d` of the stream: the same, or for a product job counted from its product's L_k. -/
def State.jobLine (s : State) (j : Job) (d : Nat) : Option Int :=
  if j.kind ≠ 2 then some d
  else if j.lines = 0 then none
  else (s.productX j (d / j.lines)).map fun x => productLine j x + (d % j.lines : Nat)

/-- The next line of the stream that a bar maps: a missed product is left out. -/
def State.nextMap (s : State) (j : Job) (b : Nat) : Nat :=
  let d := (s.barRast b).next
  if j.kind = 2 ∧ j.missed.contains (d / atLeast1 j.lines) then (d / atLeast1 j.lines + 1) * j.lines else d

/-- A length of 2^-16 um in 2^-12 line (R306). -/
def toLines (lpi : Nat) (x : Int) : Int := (x * lpi).fdiv 406400

/-- ℓ_b for an X_b in a job (R306). -/
def ellOf (j : Job) (x : Int) : Int := toLines j.lpi (x - j.xstart * 256)

/-- ℓ_b now, 2^-12 line. -/
def State.ell (s : State) (j : Job) (b : Nat) : Int := ellOf j (s.barX b)

/-- A bar of the fire scheduler. -/
def State.barF (s : State) (b : Nat) : BarFire := mget {} s.bars b

/-- Replaces a bar of the fire scheduler. -/
def State.setBarF (s : State) (b : Nat) (x : BarFire) : State := { s with bars := mset {} s.bars b x }

/-- ℓ′_b: bounded by the clean stop slot while one binds the bar (R430; for HALT log entry 21). -/
def State.ellHeld (s : State) (j : Job) (b : Nat) : Int :=
  match (s.barF b).stop with
  | some σ => min (s.ell j b) (σ * 4096)
  | none => s.ell j b

/-! ### Defect records and marks (R342 to R344) -/

/-- Puts an inspection mark in the list of pending marks, which rises (R344). -/
def insertMark (x : Int) : List Int → List Int
  | [] => [x]
  | y :: ys => if x < y then x :: y :: ys else y :: insertMark x ys

/-- A mark is pending at XSTART + line × p + INSPDIST of X0, unless 1,024 are (R344). -/
def State.mark (s : State) (line : Int) : State :=
  if 1024 ≤ s.fire.marks.length then (s.inc pgFIREC R.FIRE_INSPLOST).raise pgFIREC 1
  else
    let x := s.fire.xstart * 256 + (line * 25400 * 65536).fdiv s.fire.lpi + s.rdi pgFIREC R.FIRE_INSPDIST * 65536
    { s with fire := { s.fire with marks := insertMark x s.fire.marks } }

/-- Writes a defect record (R342, R343) and asks for its inspection mark (R344); nothing with recording off. -/
def State.defect (s : State) (kind bar tile rows : Nat) (line : Int) (col cols : Nat) : State :=
  if !s.rdb pgFIREC R.FIRE_DEFCTL_EN then s
  else
    let b := leBytes s.now 10 ++ leBytes kind 1 ++ leBytes bar 1 ++ leBytes tile 1 ++ leBytes rows 1 ++
      leBytes (uns 48 line) 6 ++ leBytes col 4 ++ leBytes cols 2 ++ zeros 2
    let full := s.ringFull .defect
    let s := (s.incWrap pgFIREC R.FIRE_DEFCNT).ringPut .defect (b ++ leBytes (crc32c b) 4)
    let s := if full then s.raise pgFIREC 0 else s
    if bitOf (s.rd pgFIREC R.FIRE_DEFCTL_INSPKIND) kind then s.mark line else s

/-! ### Ownership (R276 to R279) -/

/-- The threshold T at an index (R280): what software wrote, or 4 × ((a + 29 b) mod 64). -/
def thrReset (i : Nat) : Nat := 4 * ((i / 64 + 29 * (i % 64)) % 64)

/-- The threshold table. -/
def State.threshold (s : State) (i : Nat) : Nat := (mfind s.thr i).getD (thrReset i)

/-- The fitted tiles that cover an image column, west first. -/
def State.covers (s : State) (b c : Nat) : List Nat :=
  (List.range (s.fitted b)).filter fun t => decide (s.xcol b t ≤ c) && decide (c < s.xcol b t + 4800)

/-- The weight w_j(c) of R279. -/
def State.blend (s : State) (b j c : Nat) : Int :=
  let w := s.rd (pgRAST b) (R.RAST_BLEND_WIDTH j)
  let st := s.rd (pgRAST b) (R.RAST_BLEND_START j)
  let num : Int := 256 * ((16 * c + 8 : Nat) - (16 * s.xcol b (j + 1) + st : Nat) : Int)
  if w = 0 then (if num < 0 then 0 else 256) else clampI 0 256 (num.fdiv w)

/-- The owner of a column in a line, with the other tile of the overlap (R279). -/
def State.owner (s : State) (b : Nat) (line : Int) (c : Nat) : Option (Nat × Option Nat) :=
  match s.covers b c with
  | [] => none
  | [t] => some (t, none)
  | t :: u :: _ =>
    if (s.threshold ((line % 64).toNat * 64 + c % 64) : Int) < s.blend b t c then some (u, some t) else some (t, some u)

/-! ### Delay lines (R295 to R297) -/

/-- The base of a bar's delay line. -/
def State.delayBase (s : State) (b : Nat) : Nat := s.rd pgRASTC R.RAST_DLBASE_BASE * 2 ^ 30 + b * 0x08000000

/-- The slot of a line in the ring of 4,096. -/
def lineSlot (line : Int) : Nat := (line % 4096).toNat

/-- The address of a plane. -/
def State.planeAddr (s : State) (b m p : Nat) : Nat := s.delayBase b + m * 26112 + p * 6528

/-- The address of a side record. -/
def State.sideAddr (s : State) (b m t : Nat) : Nat := s.delayBase b + 0x07000000 + (m * 22 + t) * 136

/-- Whether a line is held by the delay line; other lines read as 0 with no entries (R297). -/
def State.held (s : State) (b : Nat) (line : Int) : Bool :=
  decide (0 ≤ line) && decide (mget 0 (s.barRast b).mapped (lineSlot line) = line.toNat + 1)

/-- The pixel of a column in a held line. -/
def State.planePixel (s : State) (b : Nat) (line : Int) (c : Nat) : Nat :=
  if s.held b line then
    bitsOf (memByte s.mem (s.planeAddr b (lineSlot line) (c % 4) + c / 16)).toNat (2 * (c / 4 % 4)) 2
  else 0

/-! ### Seam buffers (R298) -/

/-- The overlap columns of joint `j` in the plane that row `r` reads of a line. -/
def State.seamCols (s : State) (b j r : Nat) (line : Int) : List Nat :=
  ((List.range (s.xcol b j + 4800 - s.xcol b (j + 1))).map (s.xcol b (j + 1) + ·)).filter fun c =>
    decide ((c : Int) % 4 = ((r : Int) - line) % 4)

/-- Where the seam buffers of a bar hold a joint, row and line: 168 joints × 4 rows × 512 lines of the device. -/
def seamKey (j r : Nat) (line : Int) : Nat := (j * 4 + r) * 512 + (line % 512).toNat

/-- The joint whose overlap a column of a tile lies in. -/
def State.jointOf (s : State) (b t c : Nat) : Option Nat :=
  if t + 1 < s.fitted b ∧ s.xcol b (t + 1) ≤ c then some t
  else if 0 < t ∧ c < s.xcol b (t - 1) + 4800 then some (t - 1)
  else none

/-- The pixel of a column as row `r` of a tile reads it: from the seam buffer while that holds it, else from DRAM. -/
def State.rowPixel (s : State) (b t r : Nat) (line : Int) (c : Nat) : Nat :=
  match s.jointOf b t c with
  | none => s.planePixel b line c
  | some j =>
    match mfind (s.barRast b).seam (seamKey j r line) with
    | some px => nth 0 px ((c - s.xcol b (j + 1)) / 4)
    | none => s.planePixel b line c

/-- A tile reaches a line with a row at a joint: the first of the two fetches the overlap columns, which are held until
the second reaches the line (R298). -/
def State.reachSeam (b : Nat) (slot : Int) (t j : Nat) (s : State) (r : Nat) : State :=
  let line := slot + s.rowK b t r
  let x := s.barRast b
  let key := seamKey j r line
  match mfind x.seam key with
  | some _ => s.setBarRast b { x with seam := merase x.seam key }
  | none =>
    if s.held b line && !(s.seamCols b j r line).isEmpty then
      s.setBarRast b { x with seam := mput x.seam key ((s.seamCols b j r line).map (s.planePixel b line)) }
    else s

/-- A tile has read the lines of a slot: its rows reach them at both its joints. -/
def State.reachSeams (s : State) (b t : Nat) (slot : Int) : State :=
  let west := if 0 < t then [t - 1] else []
  let east := if t + 1 < s.fitted b then [t] else []
  State.each (fun s j => State.each (State.reachSeam b slot t j) s (List.range 4)) s (west ++ east)

/-- The side entries of a tile in a line: words of R295. -/
def State.sideEntries (s : State) (b : Nat) (line : Int) (t : Nat) : List Nat :=
  let m := lineSlot line
  if s.held b line && decide (mget 0 (s.barRast b).present (m * 22 + t) = 1) then
    let a := s.sideAddr b m t
    (List.range (memByte s.mem a).toNat).map fun i => leNat (memBytes s.mem (a + 8 + 4 * i) 4)
  else []

/-- The base vector of a tile in a slot (R285, R297, R298). -/
def State.baseVector (s : State) (b t : Nat) (slot : Int) : List Nat :=
  let x := s.xcol b t
  (List.range 4800).map fun j =>
    let r := ((slot + (x + j + s.tileK b t : Nat)) % 4).toNat
    let line := slot + s.rowK b t r
    match s.owner b line (x + j) with
    | some (o, _) => if o = t then s.rowPixel b t r line (x + j) else 0
    | none => 0

/-- Four pixels to a byte. -/
def packPixels : List Nat → List Byte
  | a :: b :: c :: d :: r => BitVec.ofNat 8 (a + 4 * b + 16 * c + 64 * d) :: packPixels r
  | _ => []

/-- The entries of a slot before the limit of R293, in ascending row and then column order. -/
def State.slotEntries (s : State) (b t : Nat) (slot : Int) : List Nat :=
  (List.range 4).flatMap fun r =>
    (s.sideEntries b (slot + s.rowK b t r) t).filter fun e => bitsOf e 13 2 == r

/-- The payload of a FIRE frame (R310, R367). -/
def State.firePayload (s : State) (b t : Nat) (slot : Int) : List Byte :=
  let ents := (s.slotEntries b t slot).take 64
  let phase := ((slot + (s.xcol b t + s.tileK b t : Nat)) % 4).toNat
  leBytes (uns 48 slot) 6 ++ leBytes phase 1 ++ leBytes ents.length 1 ++ packPixels (s.baseVector b t slot) ++
    ents.flatMap fun e => leBytes (bitsOf e 0 15 + bitsOf e 16 2 * 2 ^ 16) 4

/-- The entries that R293 drops from a slot: each is counted, flagged and logged. -/
def State.dropEntries (s : State) (b t : Nat) (slot : Int) : List Nat → State
  | [] => s
  | e :: es =>
    let r := bitsOf e 13 2
    let s := (s.inc (pgRAST b) R.RAST_DROPCNT_SLOT).raiseI (pgRAST b) 2 slot
    (s.defect 3 b t (2 ^ r) (slot + s.rowK b t r) (s.xcol b t + bitsOf e 0 13) 1).dropEntries b t slot es

/-- Whether the nozzle lines of a slot are complete: every line they read is held or blank (R309). -/
def State.slotReady (s : State) (j : Job) (b : Nat) (slot : Int) (total : Option Nat) : Bool :=
  (s.rowPairs b).all fun p =>
    let line := slot + s.rowK b p.1 p.2
    decide (line < 0) || s.held b line ||
    (match total with | some n => decide ((n : Int) ≤ line) | none => false) ||
    (decide (j.kind = 2) &&
      (match s.jobLine j (s.nextMap j b) with | some l => decide (line < l) | none => true))

/-! ### Geometry checks (R299) -/

/-- The first index of a list that fails a test. -/
def firstBad (p : Nat → Bool) : List Nat → Option Nat
  | [] => none
  | a :: t => if p a then firstBad p t else some a

/-- O_j of joint j (R276). -/
def State.overlap (s : State) (b j : Nat) : Int := (s.xcol b j + 4800 : Nat) - (s.xcol b (j + 1) : Nat)

/-- The delay-line region as (base, length). -/
def State.delayRegion (s : State) : Nat × Nat := (s.rd pgRASTC R.RAST_DLBASE_BASE * 2 ^ 30, 2 ^ 30)

/-- Whether two regions overlap. -/
def overlaps (a b : Nat × Nat) : Bool := decide (a.1 < b.1 + b.2) && decide (b.1 < a.1 + a.2)

/-- The first failing check of a bar with its tile or joint (R299). -/
def State.geometry (s : State) (b lpi : Nat) : Option (Nat × Nat) :=
  let n := s.rd (pgRAST b) R.RAST_CTL_NTILES
  let joints := List.range (n - 1)
  if n = 0 ∨ 22 < n then some (1, 0)
  else
    match firstBad (fun j => decide (0 ≤ s.overlap b j ∧ s.overlap b j ≤ 96)) joints with
    | some j => some (2, j)
    | none =>
    if 104447 < s.xcol b (n - 1) + 4799 then some (2, n - 1)
    else
    match firstBad (fun j => decide (s.overlap b j = 0) ||
        (decide (16 ≤ s.rd (pgRAST b) (R.RAST_BLEND_WIDTH j)) &&
         decide ((s.rd (pgRAST b) (R.RAST_BLEND_START j) + s.rd (pgRAST b) (R.RAST_BLEND_WIDTH j) : Nat)
           ≤ 16 * s.overlap b j))) joints with
    | some j => some (3, j)
    | none =>
    match firstBad (fun t => decide (s.uoff b t 3 < s.uoff b t 2) && decide (s.uoff b t 2 < s.uoff b t 1) &&
        decide (s.uoff b t 1 < s.uoff b t 0)) (List.range n) with
    | some t => some (4, t)
    | none =>
    let ks := (s.computeRows b lpi).1
    let k := fun t r => mget (0 : Int) ks (t * 4 + r)
    let d := maxI ((s.rowPairs b).map fun p => k p.1 p.2)
    if 4095 < (s.qLead b + s.margin : Nat) + d then
      some (5, ((firstBad (fun t => decide (maxI ((List.range 4).map (k t)) < d)) (List.range n)).getD 0))
    else
    match firstBad (fun j => (List.range 4).all fun r => decide ((k j r - k (j + 1) r).natAbs ≤ 511)) joints with
    | some j => some (6, j)
    | none =>
      if (List.range 32).any fun i => s.basinOn i && overlaps s.delayRegion (s.basinBase i, s.basinSize i) then some (7, 0)
      else none

end Sys2Proof.Machine
end

