-- ==== Sys2Proof/Machine/FireOps.lean ====
section
/-!
DEFINITION. The fire scheduler (08) and the stop sequence (11): pace maps, clean stop slots, descriptor sets
and factors, SPEED_LIMIT, and the states of the stop sequence.
-/
namespace Sys2Proof.Machine

/-- Replaces the common part of the fire scheduler. -/
def State.setFire (s : State) (x : FireS) : State := { s with fire := x }

/-- A tile of a bar. -/
def State.tile (s : State) (b t : Nat) : TileFire := mget {} s.tiles (b * 22 + t)

/-- Replaces a tile of a bar. -/
def State.setTile (s : State) (b t : Nat) (x : TileFire) : State := { s with tiles := mset {} s.tiles (b * 22 + t) x }

/-- The bars of a mask. -/
def barsOf (mask : Nat) : List Nat := (List.range 8).filter fun b => bitOf mask b

/-! ### Pace maps (R312 to R319) -/

/-- FIRE_PACE.INT in ticks. -/
def State.paceInt (s : State) : Nat := us (clampN 2 32 (s.rd pgFIREC R.FIRE_PACE_INT))

/-- FIRE_PACE.HZN in us. -/
def State.paceHzn (s : State) : Nat := max (2 * clampN 2 32 (s.rd pgFIREC R.FIRE_PACE_INT)) (s.rd pgFIREC R.FIRE_PACE_HZN)

/-- FIRE_PACE.LEADT in ticks. -/
def State.paceLead (s : State) : Nat := us (max 4 (s.rd pgFIREC R.FIRE_PACE_LEADT))

/-- The start tick of the frame whose launch tick is the present tick or the last before it, a pair tick (R313, R578). -/
def State.paceStart (s : State) : Nat := (s.pairTick + s.paceLead) / s.paceInt * s.paceInt

/-- ADV of a bar, V_b being negative in reverse (R314). -/
def State.paceAdv (s : State) (b : Nat) : Int :=
  (s.rd (pgFIRE b) R.FIRE_FLIGHT0_ADV0 : Nat) + divRound ((s.rd (pgFIRE b) R.FIRE_FLIGHTK_K : Nat) * s.barV b) 16000000

/-- ℓ_b predicted at a tick (R314). -/
def State.ellAhead (s : State) (j : Job) (b t : Nat) : Int := ellOf j (s.barXOf b (s.x0Ahead t))

/-- Λ0 of the frame that starts at a pair tick. -/
def State.paceL0 (s : State) (j : Job) (b start : Nat) : Int := s.ellAhead j b (s.ownTick (start + s.paceAdv b))

/-- P1 of R314 for a speed in 1/16 um/s. -/
def paceP1 (lpi : Nat) (v : Int) : Nat := (divRound (65536 * 16000000000 * 25400 * 16) (lpi * v.toNat)).toNat

/-- P2 of R314 for an acceleration in um/s^2. -/
def paceP2 (lpi : Nat) (v a : Int) : Int :=
  divRound (-(65536 * 16000000000 * a * 25400 * 25400 * 4096)) (2 * lpi * lpi * v.toNat * v.toNat * v.toNat)

/-- FIRELIM of R319: the first slot not transmitted 2 us before the launch. -/
def State.sentLimit (s : State) (b : Nat) : Int :=
  let x := s.barF b
  match (x.recent.filter fun e => decide (s.now < e.2 + us 2)).map Prod.fst with
  | [] => x.next
  | a :: t => t.foldl min a

/-- The pace frame of a bar that starts at a tick (R312 to R319). With no forward speed the manual gives no
P1 and P2; NOMAP is set and they are free values (log entry 4). -/
def State.paceFrame (s : State) (j : Job) (b start : Nat) : Pace × State :=
  let v := s.barV b
  let adv := s.paceAdv b
  let l0 := s.paceL0 j b start
  let lim := match (s.barF b).stop with | some σ => min σ (s.sentLimit b) | none => s.sentLimit b
  let still := !s.pos.track.valid || s.pos.track.reverse || s.rdb pgPOS R.POS_STAT_STANDSTILL
  if 0 < v then
    let p1 := paceP1 j.lpi v
    ({ s := start, t0 := (start + adv).toNat, l0 := l0, p1 := p1 % 2 ^ 48, p2 := paceP2 j.lpi v s.accel, adv := adv,
       firelim := lim, nomap := still || decide (2 ^ 48 ≤ p1), sent := true }, s)
  else
    let (d, s) := s.draw
    let w := (Config.freeWord d).toNat
    ({ s := start, t0 := (start + adv).toNat, l0 := l0, p1 := w % 2 ^ 48, p2 := sgn 48 (w / 2 ^ 48), adv := adv,
       firelim := lim, nomap := true, sent := true }, s)

/-- Notes a pace frame of a bar: the frames from the map in force on stay (R317). -/
def State.notePace (s : State) (b : Nat) (p : Pace) : State :=
  let x := s.barF b
  let later := x.maps.takeWhile fun m => decide (s.pairTick < m.s)
  s.setBarF b { x with pace := p, maps := p :: later ++ (x.maps.drop later.length).take 1 }

/-- The map in force on a bar: the latest that has begun, until its horizon and the hold after it have passed (R16, R317). -/
def State.mapInForce (s : State) (b : Nat) : Option Pace :=
  match (s.barF b).maps.find? fun m => decide (m.s ≤ s.pairTick) with
  | some m => if s.pairTick < m.s + us s.paceHzn + us (100 * atLeast1 (s.rd pgFIREC R.FIRE_PACE_HOLD)) then some m else none
  | none => none

/-- The payload of a PACE frame (R371). -/
def State.pacePayload (s : State) (b : Nat) (p : Pace) : List Byte :=
  leBytes p.s 5 ++ leBytes s.paceHzn 1 ++ leBytes (atLeast1 (s.rd pgFIREC R.FIRE_PACE_HOLD)) 1 ++
  leBytes (b2n p.nomap) 1 ++ leBytes p.t0 5 ++ leBytes (uns 24 p.adv) 3 ++ leBytes (uns 64 p.l0) 8 ++
  leBytes p.p1 6 ++ leBytes (uns 48 p.p2) 6 ++ leBytes (uns 48 p.firelim) 6 ++
  leBytes (s.rd (pgFIRE b) R.FIRE_CTL_LATEMAX) 1 ++ zeros 5

/-- The fire tick of a row with trim `f` of a slot under a map (R316), not reduced modulo 2^40. -/
def fireTick (p : Pace) (slot f : Int) : Int :=
  let d := slot * 4096 - f - p.l0
  p.t0 + (p.p1 * d * 4096 + p.p2 * d * d).fdiv (2 ^ 40) - p.adv

/-- σ_b of R320: the lowest slot s with s − the largest row trim at or above Λ0 of the next frame. -/
def State.cleanSlot (s : State) (j : Job) (b : Nat) : Int :=
  let next := if s.fire.lastS < s.paceStart then s.paceStart else s.fire.lastS + s.paceInt
  0 - (-(s.paceL0 j b next + s.fMax b)).fdiv 4096

/-- Takes the clean stop slot of a bar and binds its FIRELIM to it (R320). -/
def State.stopBar (j : Job) (s : State) (b : Nat) : State :=
  let σ := s.cleanSlot j b
  s.setBarF b { s.barF b with stop := some σ, sigma := σ }

/-- Lets FIRELIM of a bar follow R319 again. -/
def State.freeBar (s : State) (b : Nat) : State := s.setBarF b { s.barF b with stop := none }

/-! ### SPEED_LIMIT (R337 to R341) -/

/-- R_eff: the larger of FIRE_REFIRE and the intervals that fitted tiles report; FIRE_REFEFF reads it (R337). -/
def State.rEff (s : State) (b : Nat) : Nat :=
  let caps := (List.range (s.fitted b)).map fun t =>
    match (s.tpos (laneOf b t) (posOf t)).cap with
    | some c => leAt c 12 3
    | none => 0
  caps.foldl max (s.rd (pgFIRE b) R.FIRE_REFIRE_TICKS)

/-- FIRE_CCTL.CEIL, at most 160,000. -/
def State.ceil (s : State) : Nat := min 160000 (s.rd pgFIREC R.FIRE_CCTL_CEIL)

/-- Whether a bar's line rate exceeds its limit, lowered by `m`/256 (R340, R341). -/
def State.overRate (s : State) (m b : Nat) : Bool :=
  let p := (s.barF b).pace
  p.sent && !p.nomap &&
  (decide (s.ceil * p.p1 * m < 16000000000 * 65536 * 256) ||
   decide (s.rd (pgFIRE b) R.FIRE_STAT_NMIN * p.p1 * m < 65536 * s.rEff b * 256))

/-- The line rate of a bar, lines/s. -/
def State.lineRate (s : State) (b : Nat) : Nat :=
  let p := (s.barF b).pace
  if p.nomap || p.p1 == 0 then 0 else 16000000000 * 65536 / p.p1

/-- A tile of any bar is hot or stale. -/
def State.hotOrStale (s : State) : Bool :=
  (List.range 8).any fun b => s.rd (pgFIRE b) R.FIRE_HOT_TILES ≠ 0 || s.rdb (pgFIRE b) R.FIRE_STAT_STALEANY

/-- The SPEED_LIMIT line follows its sources: fire scheduler and thermal block (R340, R621). -/
def State.setLimitLine (s : State) : State :=
  { s with lines := { s.lines with speedLimit := s.fire.limit || s.fire.thermal } }

/-- FIRE_STAT.SPEEDLIM of a bar and its flag as it rises (R340). -/
def State.speedBar (s : State) (b : Nat) : State :=
  let ovr := s.overRate 256 b
  let was := s.rdb (pgFIRE b) R.FIRE_STAT_SPEEDLIM
  let s := s.wr (pgFIRE b) R.FIRE_STAT_SPEEDLIM (b2n ovr)
  if ovr && !was then s.raise (pgFIRE b) 6 (s.lineRate b) else s

/-- SPEED_LIMIT is asserted or released (R340, R341). -/
def State.speedCheck (s : State) : State :=
  let s := State.each State.speedBar s (List.range 8)
  let assert := s.hotOrStale || (List.range 8).any (s.overRate 256)
  let keep := (List.range 8).any (s.overRate (256 - s.rd pgFIREC R.FIRE_CCTL_HYST))
  let lim := assert || (s.fire.limit && keep)
  (s.setFire { s.fire with limit := lim }).setLimitLine

/-! ### Descriptors and factors (R321 to R329, R372 to R375) -/

/-- A word of a bar's descriptor table. -/
def State.tblWord (s : State) (b w : Nat) : Nat := (s.word (tblAddr b w)).toNat

/-- g(T) of R323. -/
def State.gTable (s : State) (b : Nat) (temp : Int) : Nat :=
  let g := fun i => bitsOf (s.tblWord b (64 + i)) 0 16
  if temp < 0 then g 0
  else
    let t := temp.toNat
    if 63 ≤ t / 256 then g 63
    else ((g (t / 256) : Int) + (((g (t / 256 + 1) : Int) - g (t / 256)) * (t % 256 : Nat)).fdiv 256).toNat

/-- Rounds a quotient to nearest, halves upward. -/
def roundUp (a b : Nat) : Nat := if b = 0 then 0 else (2 * a + b) / (2 * b)

/-- PRE′, GAP′ and MAIN′ of a descriptor before clamping (R322, R329). -/
def State.descriptor (s : State) (b h d : Nat) (temp : Int) (volt : Nat) : Nat × Nat × Nat :=
  let w := s.tblWord b (8 * h + 2 * d)
  let v2 := volt * volt
  let r2 := atLeast1 (s.rd (pgFIRE b) R.FIRE_VREF_MV) * atLeast1 (s.rd (pgFIRE b) R.FIRE_VREF_MV)
  let pre := if s.rdb (pgFIRE b) R.FIRE_CTL_PREEN then roundUp (bitsOf w 0 14 * r2) v2 else 0
  let main := roundUp (bitsOf (s.tblWord b (8 * h + 2 * d + 1)) 0 14 * r2 * s.gTable b temp) (v2 * 16384)
  (pre, bitsOf w 16 14, main)

/-- The (set, descriptor) pairs in the order of a SET frame. -/
def setOrder : List (Nat × Nat) := (List.range 2).flatMap fun h => (List.range 4).map fun d => (h, d)

/-- Temperature and supply of a tile; free values before its first report (log entry 4). -/
def State.tileReading (s : State) (b t : Nat) : Int × Nat × State :=
  let x := s.tile b t
  if x.known then (x.temp, x.volt, s)
  else
    let (d, s) := s.draw
    (sgn 16 (Config.freeWord d).toNat, (Config.freeWord d).toNat / 65536 % 65536, s)

/-- The IDLEWARM value in force for a slot: forced inside a warm-up range, else FIRE_CTL.IDLEWARM (R420, R425). -/
def State.idleWarm (s : State) (b : Nat) (slot : Int) : Bool :=
  s.rdb (pgFIRE b) R.FIRE_CTL_IDLEWARM ||
  (match (s.barF b).warm with | some (lo, hi) => decide (lo ≤ slot) && decide (slot < hi) | none => false)

/-- Sends a tile its SET (R322 to R329, R372): the values are clamped to PREMAX and MAINMAX, with flag CLAMP. -/
def State.sendSet (s : State) (b t : Nat) (apply : Int) (idle release cool immed : Bool) : State :=
  let (temp, volt, s) := s.tileReading b t
  let preMax := s.rd (pgFIRE b) R.FIRE_PLIM_PREMAX
  let mainMax := s.rd (pgFIRE b) R.FIRE_PLIM_MAINMAX
  let ds := setOrder.map fun p => s.descriptor b p.1 p.2 temp volt
  let s := if ds.any fun d => decide (preMax < d.1) || decide (mainMax < d.2.2) then s.raise (pgFIRE b) 5 t else s
  let flags := b2n idle + 2 * b2n release + 4 * b2n cool + 8 * b2n immed
  let body := leBytes (uns 48 apply) 6 ++ leBytes flags 1 ++ zeros 1 ++
    (ds.flatMap fun d => leBytes (min d.1 preMax + d.2.1 * 2 ^ 16 + min d.2.2 mainMax * 2 ^ 32) 8) ++
    ((List.range 4).flatMap fun r => leBytes (uns 16 (s.rowF b t r)) 2) ++
    leBytes (s.rd (pgFIRE b) R.FIRE_TLIM_THOT) 2 ++ leBytes (s.rd (pgFIRE b) R.FIRE_TLIM_THARD) 2 ++
    leBytes (s.rd (pgFIRE b) R.FIRE_TLIM2_THYST) 2 ++ leBytes mainMax 2 ++ leBytes (s.rEff b) 4 ++ zeros 4
  let x := s.tile b t
  let s := s.setTile b t { x with setT := temp, setV := volt, owed := false,
                                  sets := if immed then x.sets else x.sets ++ [apply] }
  s.tileSendOpen (laneOf b t) 3 0 (posOf t) body

/-- A byte of the CAP that a tile reports, 0 before it. -/
def State.capByte (s : State) (b t i : Nat) : Nat :=
  match (s.tpos (laneOf b t) (posOf t)).cap with
  | some c => byteAt c i
  | none => 0

/-- Whether a tile has room for a SET, and none waits for it (R375). -/
def State.setRoom (s : State) (b t : Nat) : Bool :=
  (s.tile b t).setQ.isEmpty && decide ((s.tile b t).sets.length < max 2 (s.capByte b t 28 % 16))

/-- Whether a tile has room for a FACTORS frame, and none waits for it (R375). -/
def State.facRoom (s : State) (b t : Nat) : Bool :=
  (s.tile b t).facQ.isEmpty && decide ((s.tile b t).facs.length < max 32 (s.capByte b t 28 / 16 * 4))

/-- A SET from a slot on goes out, or waits behind those that wait for room (R375). -/
def State.queueSet (s : State) (b t : Nat) (apply : Int) (idle : Bool) : State :=
  if s.setRoom b t then s.sendSet b t apply idle false false false
  else
    let x := s.tile b t
    s.setTile b t { x with setQ := x.setQ ++ [(apply, idle)] }

/-- The first slot from a given one whose earliest fire tick is at or after a tick, in at most `n` steps. -/
def firstSlotAfter (p : Pace) (f tick : Int) (slot : Int) : Nat → Int
  | 0 => slot
  | n + 1 => if tick ≤ fireTick p slot f then slot else firstSlotAfter p f tick (slot + 1) n

/-- The slot from which a new SET applies, if a map gives fire ticks (R324). -/
def State.applySlot (s : State) (b t : Nat) : Option Int :=
  let p := (s.barF b).pace
  if p.sent && !p.nomap && s.inJob then
    some (firstSlotAfter p (s.fMaxTile b t) (s.pairTick + us 16) (p.l0.fdiv 4096 - 64) 4096)
  else none

/-- Whether a SET under R324 can go out now: it applies on receipt, or the tile has room (R375, R425). -/
def State.canSet (s : State) (b t : Nat) : Bool := (s.applySlot b t).isNone || s.setRoom b t

/-- The next slot of a tile in the job. -/
def State.nextSlotOf (s : State) (b t : Nat) : Int :=
  match (s.tile b t).lastFired with
  | some v => v + 1
  | none => (s.barF b).first

/-- Sends a SET for the present temperature and supply from the slot of R324; without a map it applies on
receipt (log entry 22). It is withheld while the tile has no room (R425). -/
def State.sendSetNow (s : State) (b t : Nat) (release cool : Bool) : State :=
  match s.applySlot b t with
  | some a =>
    if s.setRoom b t then s.sendSet b t a (s.idleWarm b a) release cool false
    else s.setTile b t { s.tile b t with owed := true }
  | none => s.sendSet b t 0 (s.idleWarm b (s.nextSlotOf b t)) release cool true

/-- N of R325. -/
def nozFactor (e : Nat) : Nat :=
  clampN 0 4095 (roundUp (2048 * (14336 + bitsOf e 16 12) * (1000 + nozTrim e).toNat) 16384000)

/-- Factors packed in pairs (R374). -/
def packFactors : List Nat → List Byte
  | a :: b :: r => leBytes (a + b * 4096) 3 ++ packFactors r
  | [a] => leBytes a 3
  | [] => []

/-- Sends a FACTORS frame for `n` nozzles of a row from a column (R374). -/
def State.sendFactors (s : State) (b t r col n : Nat) (apply : Int) (immed : Bool) : State :=
  let fs := (List.range n).map fun i => nozFactor (s.nozzle b (nozIndex t r (col + i)))
  s.tileSendOpen (laneOf b t) 3 1 (posOf t)
    (leBytes (uns 48 apply) 6 ++ leBytes (b2n immed) 1 ++ leBytes r 1 ++ leBytes col 2 ++ leBytes n 2 ++ zeros 4 ++
      packFactors fs)

/-- The factor of one entry goes to its tile from a slot on; it waits while the tile has no room (R375). -/
def State.sendFactor (s : State) (b idx : Nat) (apply : Int) : State :=
  let t := idx / 19200
  let x := s.tile b t
  if s.facRoom b t then
    (s.setTile b t { x with facs := x.facs ++ [apply] }).sendFactors b t (idx / 4800 % 4) (idx % 4800) 1 apply false
  else s.setTile b t { x with facQ := x.facQ ++ [(idx, apply)] }

/-- The factor of one entry goes to its tile for the first slot whose row reads a line: that line less its row delay
(R327). -/
def State.factorFrom (s : State) (b : Nat) (line : Int) (idx : Nat) : State :=
  s.sendFactor b idx (line - s.rowK b (idx / 19200) (idx / 4800 % 4))

/-- The factor of one entry goes to its tile and applies on receipt. -/
def State.factorNow (b : Nat) (s : State) (idx : Nat) : State :=
  s.sendFactors b (idx / 19200) (idx / 4800 % 4) (idx % 4800) 1 0 true

/-- The factor of one nozzle has changed: it takes effect from the line that its bar maps next (R13, R327), which in a
product job may wait for its trigger; on receipt where no job runs on the bar. -/
def State.factorChanged (s : State) (b idx : Nat) : State :=
  if s.fitted b ≤ idx / 19200 then s
  else
    match s.jobs.cur with
    | some j =>
      if !bitOf j.bars b then s.factorNow b idx
      else
        match s.jobLine j (s.nextMap j b) with
        | some l => s.factorFrom b l idx
        | none =>
          let x := s.barRast b
          s.setBarRast b { x with facs := x.facs.filter (· ≠ idx) ++ [idx] }
    | none => s.factorNow b idx

/-- The factors that waited for a line to map go out as its mapping begins (R327). -/
def State.flushFactors (s : State) (b : Nat) (line : Int) : State :=
  let x := s.barRast b
  State.each (fun s i => s.factorFrom b line i) (s.setBarRast b { x with facs := [] }) x.facs

/-- At the end of a job the factors that still wait apply on receipt. -/
def State.endFactors (s : State) (b : Nat) : State :=
  let x := s.barRast b
  let q := (List.range 22).flatMap fun t => (s.tile b t).facQ.map Prod.fst
  let s := State.each (State.factorNow b) (s.setBarRast b { x with facs := [] }) (x.facs ++ q)
  State.each (fun s t => s.setTile b t { s.tile b t with facs := [], facQ := [] }) s (List.range 22)

/-- SETs and factors that wait for room go to a tile as far as it has room, at most `n` of each (R375). -/
def State.pumpTile (s : State) (b t : Nat) : Nat → State
  | 0 => s
  | n + 1 =>
    let x := s.tile b t
    let s := match x.setQ with
      | [] => s
      | (a, idle) :: q =>
        let u := s.setTile b t { x with setQ := [] }
        if u.setRoom b t then
          let u := u.sendSet b t a idle false false false
          u.setTile b t { u.tile b t with setQ := q }
        else s
    let x := s.tile b t
    let s := match x.facQ with
      | [] => s
      | (i, a) :: q =>
        let u := s.setTile b t { x with facQ := [] }
        if u.facRoom b t then
          let u := u.sendFactor b i a
          u.setTile b t { u.tile b t with facQ := q }
        else s
    s.pumpTile b t n

/-- Sends a tile all its factors, 960 per frame, to apply on receipt (R359, R376). -/
def State.sendAllFactors (s : State) (b t : Nat) : State :=
  State.each (fun s i => s.sendFactors b t (i / 5) (i % 5 * 960) 960 0 true) s (List.range 20)

/-- WARMING follows the tiles: 1 while any fitted tile of the bar is inside its warm-up range (R422); the range ends once
every tile has left it. -/
def State.warmStat (s : State) (b : Nat) : State :=
  match (s.barF b).warm with
  | none => s.wr (pgHLTH b) R.HLTH_STAT_WARMING 0
  | some (lo, hi) =>
    let at_ := ((List.range (s.fitted b)).map fun t => (s.tile b t).lastFired.map (· + 1))
    let inside := at_.any fun v => v.any fun k => decide (lo ≤ k) && decide (k < hi)
    let left := at_.all fun v => v.any fun k => decide (hi ≤ k)
    (if left then s.setBarF b { s.barF b with warm := none } else s).wr (pgHLTH b) R.HLTH_STAT_WARMING (b2n inside)

/-! ### Writing the nozzle table (R302, R327, R587) -/

/-- Writes the masked bits of an entry and sends the factor if it, or RCLASS, has changed (R327, R409). -/
def State.nozApply (s : State) (b idx mask bits : Nat) : State :=
  let old := s.nozzle b idx
  let new := Nat.land old (2 ^ 32 - 1 - mask) + Nat.land bits mask
  if new = old then s
  else
    let s := s.setNozzle b idx new
    if nozFactor new = nozFactor old ∧ bitsOf new 16 12 = bitsOf old 16 12 then s else s.factorChanged b idx

/-- Whether a nozzle-table write is stamped and held: in a pair whose job maps lines (R587). -/
def State.nozStamped (s : State) : Bool := s.isActive && s.inJob && s.jobs.cur.isSome

/-- A nozzle-table write: applied at once, or stamped with L_m, held and sent to the standby (R587). -/
def State.nozWrite (s : State) (b idx mask bits : Nat) : State :=
  if s.isActive then
    let lm := (s.barRast b).next + atLeast1 (s.rd pgTWIN R.TWIN_CFG_MIRLINES)
    let send := fun s : State => s.sendDelta (.nozzle (Fin.ofNat 8 b) (BitVec.ofNat 19 idx)
      (BitVec.ofNat 32 bits) (BitVec.ofNat 32 mask) (BitVec.ofNat 48 lm))
    if s.nozStamped then
      let x := s.barRast b
      send (s.setBarRast b { x with writes := x.writes ++
        [{ bar := b, index := idx, mask := mask, bits := bits, stamp := lm }] })
    else send (s.nozApply b idx mask bits)
  else s.nozApply b idx mask bits

/-- Keeps the entries noted at the present tick, with one more. -/
def State.noted (s : State) (l : List (Nat × Nat)) (k : Nat) : List (Nat × Nat) :=
  (k, s.now) :: l.filter fun e => decide (e.2 = s.now)

/-- An internal engine writes an entry; bits [15:0] keep a value that software wrote in the same handshake, and
NTCOLL is set (R304). Writes that are held meet when they are applied. Answers whether they collided. -/
def State.engineWrite (s : State) (b idx mask bits : Nat) : Bool × State :=
  let hit := !s.nozStamped && s.ntHost.contains (nozKey b idx, s.now)
  let s := { s with ntEngine := s.noted s.ntEngine (nozKey b idx) }
  if hit then (true, (s.nozWrite b idx (mask / 65536 * 65536) bits).raise (pgRAST b) 5 idx)
  else (false, s.nozWrite b idx mask bits)

/-- Software writes bits [15:0] of an entry (R302, R304). -/
def State.hostNozWrite (s : State) (b idx v : Nat) : State :=
  let hit := !s.nozStamped && s.ntEngine.contains (nozKey b idx, s.now)
  let s := ({ s with ntHost := s.noted s.ntHost (nozKey b idx) }).nozWrite b idx 0xFFFF v
  if hit then s.raise (pgRAST b) 5 idx else s

/-- An entry as it will read once the writes held for its bar have been applied. -/
def State.nozzleNext (s : State) (b idx : Nat) : Nat :=
  (s.barRast b).writes.foldl (fun e w =>
    if w.index = idx then Nat.land e (2 ^ 32 - 1 - w.mask) + Nat.land w.bits w.mask else e) (s.nozzle b idx)

/-- Whether a held write is one of software's: it names all of bits [15:0], as no engine's does (R302). -/
def NozWrite.host (w : NozWrite) : Bool := decide (w.mask = 0xFFFF)

/-- A held write of an engine is applied: a MASKED entry keeps its value (R305). -/
def State.applyEngine (b : Nat) (s : State) (w : NozWrite) : State :=
  if nozStatus (s.nozzle b w.index) = 3 then s else s.nozApply b w.index w.mask w.bits

/-- The held writes of a bar that pass a test are applied in one handshake: those of engines, then those of software, whose
bits [15:0] stand; an entry that both reach sets NTCOLL (R304, R587, R588). At the end of a job the writes whose line
never comes are applied too (log entry 28). -/
def State.applyHeld (s : State) (b : Nat) (p : NozWrite → Bool) : State :=
  let x := s.barRast b
  let s := s.setBarRast b { x with writes := x.writes.filter fun w => !p w }
  let ws := x.writes.filter p
  let hosts := ws.filter NozWrite.host
  let engines := ws.filter fun w => !w.host
  let s := State.each (State.applyEngine b) s engines
  let s := State.each (fun s (w : NozWrite) => s.nozApply b w.index w.mask w.bits) s hosts
  let both := (hosts.map NozWrite.index).eraseDups.filter fun i => engines.any fun w => decide (w.index = i)
  State.each (fun s i => s.raise (pgRAST b) 5 i) s both

/-! ### The stop sequence (R428 to R445) -/

/-- SBSTATE: 0 IDLE, 1 STOPPING, 2 BACKING, 3 WAITING, 4 RETURNING, 5 FAILED. -/
def State.sb (s : State) : Nat := s.rd pgFIREC R.FIRE_SBSTAT_SBSTATE

/-- Writes SBSTATE. -/
def State.setSb (s : State) (v : Nat) : State := s.wr pgFIREC R.FIRE_SBSTAT_SBSTATE v

/-- Drives STOP_REQ. -/
def State.stopReq (s : State) (v : Bool) : State := { s with lines := { s.lines with stopReq := v } }

/-- Drives REV_PERMIT. -/
def State.revPermit (s : State) (v : Bool) : State := { s with lines := { s.lines with revPermit := v } }

/-- WAITBAR. -/
def State.waitBar (s : State) : Nat := s.rd pgFIREC R.FIRE_SBSTAT_WAITBAR

/-- ARMGAP; below 2 acts as 2. -/
def State.armGap (s : State) : Nat := max 2 (s.rd pgFIREC R.FIRE_SBCFG_ARMGAP)

/-- In STOPPING with the web at standstill the sequence moves to BACKING (R432). -/
def State.sbStill (s : State) : State :=
  if s.sb = 1 ∧ s.rdb pgPOS R.POS_STAT_STANDSTILL then (s.revPermit true).setSb 2 else s

/-- A trigger of R428: the sequence starts (R429), or an active sequence takes new stop slots (R445). -/
def State.sbTrigger (s : State) (cause : Nat) : State :=
  match s.jobs.cur with
  | none => s
  | some j =>
    if !s.inJob || j.kind == 2 then s
    else if s.sb = 0 then
      let s := (State.each (State.stopBar j) s (barsOf j.bars)).stopReq true
      let s := (s.setSb 1).wr pgFIREC R.FIRE_SBSTAT_CAUSE cause
      let s := (s.wr pgFIREC R.FIRE_SBSTAT_WAITBAR j.bars).inc pgFIREC R.FIRE_SBCNT_STOPS
      ((s.raise pgFIREC 2 cause).setFire { s.fire with sbAt := s.now }).sbStill
    else
      let fresh := (barsOf j.bars).filter fun b => !bitOf s.waitBar b
      let s := (State.each (State.stopBar j) s fresh).wr pgFIREC R.FIRE_SBSTAT_WAITBAR j.bars
      let s := if cause = 2 ∧ s.fire.sbAt = s.now then s.wr pgFIREC R.FIRE_SBSTAT_CAUSE cause else s
      if s.sb = 4 then ((s.stopReq true).setSb 1).sbStill else s

/-- Whether a bar of the job has fired a slot and not its last: cause 3 of R428. A slot has fired once the
bar's index has reached the first slot of the job. -/
def State.midJob (s : State) (j : Job) (total : Option Nat) : Bool :=
  (barsOf j.bars).any fun b =>
    let x := s.barF b
    decide (x.first < x.next) && decide (x.first * 4096 ≤ s.ell j b + s.fMax b) &&
    (match total with | some n => decide (s.ell j b < ((n : Int) - s.kMin b) * 4096) | none => true)

/-- The end of a sequence: outputs released, WAITBAR cleared (R437, R439, R445). -/
def State.sbEnd (s : State) : State :=
  let s := ((s.stopReq false).revPermit false).setSb 0
  let s := (s.wr pgFIREC R.FIRE_SBSTAT_WAITBAR 0).wr pgFIREC R.FIRE_SBSTAT_CAUSE 0
  s.wr pgFIREC R.FIRE_SBSTAT_RETRIES 0

/-- The lines of a job, if it is bounded: LINES × passes of a repeat, LINES of a live job or the index that
END names (R231, R235). -/
def Job.total (j : Job) : Option Nat :=
  match j.kind with
  | 0 => if j.passes = 0 then none else some (j.lines * j.passes)
  | 1 => if j.lines ≠ 0 then some j.lines else j.ended
  | _ => none

/-- A reversal or a standstill while a job runs: a trigger of cause 3 (R428), and BACKING in STOPPING (R432). The first
forward edge after the back-up is no trigger: the timeline of 11 stays in RETURNING across it (log entry 59). -/
def State.sbWatch (s : State) (reversed stood : Bool) : State :=
  match s.jobs.cur with
  | none => s
  | some j =>
    if !(reversed || stood) then s
    else
      let asked := decide (s.sb = 4) && !stood && !s.pos.track.reverse
      let s := if s.rdb pgFIREC R.FIRE_SBCFG_AUTOSTOP && s.midJob j j.total && !asked then s.sbTrigger 3 else s
      if s.sb = 1 then (s.revPermit true).setSb 2 else s

end Sys2Proof.Machine
end

