-- ==== Sys2Proof/Machine/ChkOps.lean ====
section
/-!
DEFINITION. The check channels that the device reserves for a job (16).
-/
namespace Sys2Proof.Machine

/-- Configures a multi-context channel for the device: CRC-32C in MODE 1 on a tap, enabled, every context at INIT. -/
def State.chkHold (s : State) (n src : Nat) : State :=
  let s := s.wr pgCHK (R.CHK_CFG_EN n) 0
  let s := s.chkConfig n (1 * 2 ^ 12 + 2 ^ 9 + 2 ^ 16)
  s.wr pgCHK (R.CHK_TAP n) src

/-- A job starts: CHK16 and CHK17 are reserved, and CHK18 in pair operation (R568, R569). -/
def State.chkReserve (s : State) : State :=
  let s := (s.chkHold 16 2).chkHold 17 6
  let s := if s.pairMode then s.chkHold 18 7 else s
  s.wr pgCHK R.CHK_STAT_DEVRES (if s.pairMode then 7 else 3)

/-- The reservation ends with the job; the channels keep their configuration (R568, R574). -/
def State.chkRelease (s : State) : State := s.wr pgCHK R.CHK_STAT_DEVRES 0

/-- Whether the device holds a channel. -/
def State.chkReserved (s : State) (n : Nat) : Bool := decide (16 ≤ n) && bitOf (s.rd pgCHK R.CHK_STAT_DEVRES) (n - 16)

end Sys2Proof.Machine
end

