-- ==== Sys2Proof/Machine/CreditOps.lean ====
section
/-!
DEFINITION. Credit (05): port and basin limits, and CREDIT frames.
-/
namespace Sys2Proof.Machine

/-- Lp of a lane (R222). -/
def State.portLimit (s : State) (n : Nat) : Nat := (s.lane n).d + 131072

/-- Whether a basin is enabled and host-produced. -/
def State.hostBasin (s : State) (b : Nat) : Bool := s.basinOn b && !s.basinDev b

/-- L_b (R224): in a pair the lower of the device's own and the standby's as reported (R590). -/
def State.basinLimit (s : State) (b : Nat) : Nat :=
  let c := (s.basin b).c
  let c := if s.isActive then match mfind s.twin.peerC b with | some p => min c p | none => c else c
  c + s.basinSize b

/-- Whether a lane has an open session. -/
def State.laneOpen (s : State) (n : Nat) : Bool :=
  (List.range 8).any fun k => (s.session k).open_ && decide ((s.session k).lane = n)

/-- The bits of a list of basins. -/
def maskOf : List Nat → Nat
  | [] => 0
  | a :: t => 2 ^ a + maskOf t

/-- Records limits as advertised. -/
def advertise (m : NMap Nat) (f : Nat → Nat) : List Nat → NMap Nat
  | [] => m
  | b :: bs => advertise (mput m b (f b)) f bs

/-- Sends a CREDIT that names some basins (R225, R714). The manual gives no destination address for a frame
outside any session: it is a free value (log entry 4). -/
def State.credit (s : State) (n : Nat) (bs : List Nat) : State :=
  let (d, s) := s.draw
  let lp := s.portLimit n
  let payload := leBytes lp 8 ++ leBytes (maskOf bs) 4 ++ zeros 4 ++ bs.flatMap fun b => leBytes (s.basinLimit b) 8
  let f := s.yrtFrame n ((Config.freeWord d).toNat % 2 ^ 48) 0x11 0xFF 0 0 0 0 0 0 payload
  let l := s.lane n
  (s.setLane n { l with creditLp := lp, creditL := advertise l.creditL s.basinLimit bs, creditAt := s.now }).hostSend n
    (.frame f)

/-- The host-produced enabled basins. -/
def State.hostBasins (s : State) : List Nat := (List.range 32).filter s.hostBasin

/-- The basins whose limit has changed since the last CREDIT of a lane. -/
def State.changedBasins (s : State) (n : Nat) : List Nat :=
  s.hostBasins.filter fun b => decide (mget 0 (s.lane n).creditL b ≠ s.basinLimit b)

/-- A CREDIT when Lp or an L_b has advanced by 2,048 bytes on a lane with an open session (R225). -/
def State.creditCheck (s : State) (n : Nat) : State :=
  let l := s.lane n
  let port := decide (l.creditLp + 2048 ≤ s.portLimit n)
  let basin := s.hostBasins.any fun b => decide (mget 0 l.creditL b + 2048 ≤ s.basinLimit b)
  if s.laneOpen n && (port || basin) then s.credit n (s.changedBasins n) else s

/-- The check on all lanes. -/
def State.credits (s : State) : State := (((s.creditCheck 0).creditCheck 1).creditCheck 2).creditCheck 3

/-- The CREDIT at the end of a CREDINT interval, with every host-produced basin (R225). -/
def State.creditPeriodic (s : State) (n : Nat) : State :=
  if s.laneOpen n && decide ((s.lane n).creditAt + us (atLeast1 (s.rd pgYRT R.YRT_TIMERS_CREDINT)) ≤ s.now) then
    s.credit n s.hostBasins
  else s

/-- Reports the consumer count of a basin to the active device (R590). -/
def State.tellC (s : State) (b : Nat) : State :=
  let c := (s.basin b).c
  (s.setTwin { s.twin with toldC := mput s.twin.toldC b c }).sendDelta (.consumed [(Fin.ofNat 32 b, BitVec.ofNat 64 c)])

/-- A listening standby reports its consumer counts that have advanced by 2,048 bytes (R590). -/
def State.reportC (s : State) (b : Nat) : State :=
  if s.isStandby && s.rdb pgYRT R.YRT_CTL_LISTEN && s.hostBasin b && decide (mget 0 s.twin.toldC b + 2048 ≤ (s.basin b).c) then
    s.tellC b
  else s

/-- A standby that begins to listen reports the counts it holds, which the active device then uses under R224 (DESIGN CHOICE,
log entry 88); `was` is LISTEN before the write. -/
def State.listenStart (s : State) (was : Bool) : State :=
  if s.isStandby && !was && s.rdb pgYRT R.YRT_CTL_LISTEN then State.each State.tellC s s.hostBasins else s

/-- A basin is enabled or disabled: no record waits in it, and both devices of a pair count it from 0 (R214, R224, R715). -/
def State.basinAnew (s : State) (b : Nat) : State :=
  let s := { s with jobs := { s.jobs with order := s.jobs.order.filter fun e => decide (e.2 ≠ b) } }
  s.setTwin { s.twin with toldC := merase s.twin.toldC b,
                          peerC := if (mfind s.twin.peerC b).isSome then mput s.twin.peerC b 0 else s.twin.peerC }

/-- C of a host-produced basin advances. -/
def State.consume (s : State) (b c : Nat) : State :=
  let x := s.basin b
  if c ≤ x.c then s else ((s.setBasin b { x with c := c }).reportC b).credits

end Sys2Proof.Machine
end

