-- ==== Sys2Proof/Machine/Inflate.lean ====
section
/-!
DEFINITION. Decoding of a raw DEFLATE stream (RFC 1951; R246, R247, R258). The stream is a number whose
bit 0 is the first bit; the output is held newest byte first, behind the history it may refer to.
-/
namespace Sys2Proof.Machine

/-- A canonical Huffman code: the number of codes of each length from 0 to 15, and the symbols in code order. -/
structure Huff where
  counts : List Nat
  symbols : List Nat
  deriving DecidableEq, Repr

/-- The symbols of code length `n`. -/
def symbolsOf (lens : List Nat) (n : Nat) : List Nat :=
  ((List.range lens.length).zip lens).filterMap fun p => if p.2 = n then some p.1 else none

/-- The code of a list of lengths by symbol. -/
def huffOf (lens : List Nat) : Huff :=
  { counts := (List.range 16).map fun n => if n = 0 then 0 else (symbolsOf lens n).length,
    symbols := (List.range 15).flatMap fun n => symbolsOf lens (n + 1) }

/-- Whether the lengths ask for more codes than there are. -/
def overFull (h : Huff) : Bool := decide (2 ^ 15 < sumN ((List.range 16).map fun n => nth 0 h.counts n * 2 ^ (15 - n)))

/-- Reads one symbol at a bit position: the symbol and the position after it. `len` bits are tried of which `n`
remain; `code`, `first` and `index` follow the canonical order. -/
def huffSym (h : Huff) (data total : Nat) : Nat → Nat → Nat → Nat → Nat → Nat → Option (Nat × Nat)
  | 0, _, _, _, _, _ => none
  | n + 1, pos, len, code, first, index =>
    if total ≤ pos then none
    else
      let code := code + bitsOf data pos 1
      let c := nth 0 h.counts len
      if code < first + c then some (nth 0 h.symbols (index + (code - first)), pos + 1)
      else huffSym h data total n (pos + 1) (len + 1) (2 * code) (2 * (first + c)) (index + c)

/-- A symbol of a code at a position. -/
def huffRead (h : Huff) (data total pos : Nat) : Option (Nat × Nat) := huffSym h data total 15 pos 1 0 0 0

/-- Reads `w` bits. -/
def takeBits (data total pos w : Nat) : Option (Nat × Nat) :=
  if pos + w ≤ total then some (bitsOf data pos w, pos + w) else none

/-- Base and extra bits of a length symbol 257 to 285. -/
def lenBase : List (Nat × Nat) :=
  [(3, 0), (4, 0), (5, 0), (6, 0), (7, 0), (8, 0), (9, 0), (10, 0), (11, 1), (13, 1), (15, 1), (17, 1), (19, 2), (23, 2),
   (27, 2), (31, 2), (35, 3), (43, 3), (51, 3), (59, 3), (67, 4), (83, 4), (99, 4), (115, 4), (131, 5), (163, 5),
   (195, 5), (227, 5), (258, 0)]

/-- Base and extra bits of a distance symbol 0 to 29. -/
def distBase : List (Nat × Nat) :=
  [(1, 0), (2, 0), (3, 0), (4, 0), (5, 1), (7, 1), (9, 2), (13, 2), (17, 3), (25, 3), (33, 4), (49, 4), (65, 5), (97, 5),
   (129, 6), (193, 6), (257, 7), (385, 7), (513, 8), (769, 8), (1025, 9), (1537, 9), (2049, 10), (3073, 10),
   (4097, 11), (6145, 11), (8193, 12), (12289, 12), (16385, 13), (24577, 13)]

/-- The decoder: output newest first with its history, bytes of own output, bit position, whether an error was
found, whether it was output beyond the limit, and whether the last block has ended. -/
structure Infl where
  out : List Byte
  count : Nat
  avail : Nat
  pos : Nat
  err : Bool := false
  past : Bool := false
  fin : Bool := false
  deriving DecidableEq, Repr

/-- Puts out one byte; output beyond the limit is an error. -/
def Infl.put (s : Infl) (limit : Nat) (b : Byte) : Infl :=
  if limit ≤ s.count then { s with err := true, past := true }
  else { s with out := b :: s.out, count := s.count + 1, avail := s.avail + 1 }

/-- Copies `n` bytes from a distance back. -/
def Infl.copy (limit dist : Nat) : Nat → Infl → Infl
  | 0, s => s
  | n + 1, s => if s.err then s else Infl.copy limit dist n (s.put limit (nth 0#8 s.out (dist - 1)))

/-- The symbols of a block until its end, an error, or the target is reached. -/
def inflSyms (lit dist : Huff) (data total limit target : Nat) : Nat → Infl → Infl × Bool
  | 0, s => ({ s with err := true }, false)
  | n + 1, s =>
    if s.err then (s, false)
    else if target ≤ s.count then (s, false)
    else
      match huffRead lit data total s.pos with
      | none => ({ s with err := true }, false)
      | some (sym, p) =>
        if sym < 256 then inflSyms lit dist data total limit target n ({ s with pos := p }.put limit (BitVec.ofNat 8 sym))
        else if sym = 256 then ({ s with pos := p }, true)
        else if 285 < sym then ({ s with err := true }, false)
        else
          let lb := nth (0, 0) lenBase (sym - 257)
          match takeBits data total p lb.2 with
          | none => ({ s with err := true }, false)
          | some (le, p) =>
          match huffRead dist data total p with
          | none => ({ s with err := true }, false)
          | some (ds, p) =>
          if 29 < ds then ({ s with err := true }, false)
          else
            let db := nth (0, 0) distBase ds
            match takeBits data total p db.2 with
            | none => ({ s with err := true }, false)
            | some (de, p) =>
              let d := db.1 + de
              if s.avail < d ∨ 32768 < d then ({ s with err := true }, false)
              else inflSyms lit dist data total limit target n (Infl.copy limit d (lb.1 + le) { s with pos := p })

/-- Reads the code lengths of a dynamic block: `n` lengths remain after those read, newest first. -/
def readLens (h : Huff) (data total : Nat) : Nat → Nat → Nat → List Nat → Option (List Nat × Nat)
  | 0, want, pos, acc => if want = 0 then some (acc.reverse, pos) else none
  | fuel + 1, want, pos, acc =>
    if want = 0 then some (acc.reverse, pos)
    else
      match huffRead h data total pos with
      | none => none
      | some (sym, p) =>
        if sym < 16 then readLens h data total fuel (want - 1) p (sym :: acc)
        else
          let w := if sym = 16 then 2 else if sym = 17 then 3 else 7
          match takeBits data total p w with
          | none => none
          | some (x, p) =>
            let n := (if sym = 18 then 11 else 3) + x
            let v := if sym = 16 then acc.head? else some 0
            match v with
            | none => none
            | some v => if want < n then none else readLens h data total fuel (want - n) p (List.replicate n v ++ acc)

/-- The order of the code length codes. -/
def clOrder : List Nat := [16, 17, 18, 0, 8, 7, 9, 6, 10, 5, 11, 4, 12, 3, 13, 2, 14, 1, 15]

/-- The codes of a dynamic block and the position after them. -/
def readCodes (data total pos : Nat) : Option (Huff × Huff × Nat) :=
  match takeBits data total pos 14 with
  | none => none
  | some (x, p) =>
    let hlit := x % 32 + 257
    let hdist := x / 32 % 32 + 1
    let hclen := x / 1024 + 4
    match takeBits data total p (3 * hclen) with
    | none => none
    | some (y, p) =>
      let cl := (List.range 19).map fun s => sumN ((List.range hclen).map fun i =>
        if nth 0 clOrder i = s then bitsOf y (3 * i) 3 else 0)
      let hc := huffOf cl
      if overFull hc ∨ 286 < hlit ∨ 30 < hdist then none
      else
        match readLens hc data total (hlit + hdist) (hlit + hdist) p [] with
        | none => none
        | some (lens, p) =>
          let hl := huffOf (lens.take hlit)
          let hd := huffOf (lens.drop hlit)
          if overFull hl || overFull hd then none else some (hl, hd, p)

/-- The fixed codes. -/
def fixedLit : Huff :=
  huffOf (List.replicate 144 8 ++ List.replicate 112 9 ++ List.replicate 24 7 ++ List.replicate 8 8)

/-- The fixed distance code. -/
def fixedDist : Huff := huffOf (List.replicate 30 5)

/-- The bytes of a stored block, until the target. -/
def inflStored (data total limit target : Nat) : Nat → Infl → Infl
  | 0, s => s
  | n + 1, s =>
    if s.err || decide (target ≤ s.count) then s
    else
      match takeBits data total s.pos 8 with
      | none => { s with err := true }
      | some (b, p) => inflStored data total limit target n ({ s with pos := p }.put limit (BitVec.ofNat 8 b))

/-- Decodes blocks until the last has ended, an error, or own output of `target` bytes. -/
def inflBlocks (data total limit target : Nat) : Nat → Infl → Infl
  | 0, s => s
  | n + 1, s =>
    if s.err || s.fin || decide (target ≤ s.count) then s
    else
      match takeBits data total s.pos 3 with
      | none => { s with err := true }
      | some (x, p) =>
        let last := decide (x % 2 = 1)
        let after := fun r : Infl × Bool =>
          if r.2 then inflBlocks data total limit target n { r.1 with fin := last } else r.1
        match x / 2 with
        | 0 =>
          let p := (p + 7) / 8 * 8
          match takeBits data total p 32 with
          | none => { s with err := true }
          | some (y, p) =>
            let len := y % 65536
            if len + y / 65536 ≠ 65535 then { s with err := true }
            else
              let before := s.count
              let r := inflStored data total limit target len { s with pos := p }
              after (r, !r.err && decide (r.count = before + len))
        | 1 => after (inflSyms fixedLit fixedDist data total limit target (total + 1) { s with pos := p })
        | 2 =>
          match readCodes data total p with
          | none => { s with err := true }
          | some (hl, hd, p) => after (inflSyms hl hd data total limit target (total + 1) { s with pos := p })
        | _ => { s with err := true }

/-- Decodes a segment with a history (R246 to R248): at most `limit` bytes, stopping once `target` are out. -/
def inflate (hist data : List Byte) (limit target : Nat) : Infl :=
  inflBlocks (leNat data) (8 * data.length) limit target (8 * data.length + 1)
    { out := hist.reverse, count := 0, avail := hist.length, pos := 0 }

/-- The own output of a decoder, oldest first. -/
def Infl.own (r : Infl) : List Byte := (r.out.take r.count).reverse

end Sys2Proof.Machine
end

