-- ==== Sys2Proof/Machine/BandOps.lean ====
section
/-!
DEFINITION. Bands and decompressor channels (05, 06): landing and its checks, decoding line by line, lines that
become due, and missed products.
-/
namespace Sys2Proof.Machine

/-- Replaces the jobs. -/
def State.setJobs (s : State) (x : JobsS) : State := { s with jobs := x }

/-- Replaces the running job. -/
def State.setCur (s : State) (j : Job) : State := s.setJobs { s.jobs with cur := some j }

/-! ### Landing (R238 to R250) -/

/-- The (bar, chain) pairs of a job's bands, in directory order (R244). A chain is in service for the job when it
has a fitted tile: R359 let the job start only with those lanes UP or DEGRADED (log entry 23). -/
def State.bandPairs (s : State) (j : Job) : List (Nat × Nat) :=
  (barsOf j.bars).flatMap fun b => ((List.range 5).filter fun c => decide (0 < s.nfit (b * 5 + c))).map fun c => (b, c)

/-- A directory entry (R243). -/
def parseSegment (e : List Byte) : Segment :=
  { bar := byteAt e 0, chain := byteAt e 1, off := leAt e 12 4, clen := leAt e 16 4, colStart := leAt e 4 4,
    colCount := leAt e 8 4, dcrc := leAt e 20 4 }

/-- The directory entries of a band. -/
def parseDir (bs : List Byte) : Nat → List Segment
  | 0 => []
  | n + 1 => parseDir bs n ++ [parseSegment (sub bs (64 + 32 * n) 32)]

/-- Whether the reserved bytes of the directory entries are 0. -/
def dirZeros (bs : List Byte) (n : Nat) : Bool :=
  (List.range n).all fun k => decide (leAt bs (64 + 32 * k + 2) 2 = 0) && decide (leAt bs (64 + 32 * k + 24) 8 = 0)

/-- Whether segments lie inside a band behind its directory and do not overlap (R244). -/
def segsFit (len dir : Nat) (l : List Segment) : Bool :=
  (l.all fun g => decide (g.off % 8 = 0) && decide (dir ≤ g.off) && decide (g.off + g.clen ≤ len)) &&
  (List.range l.length).all fun i => (List.range i).all fun k =>
    let a := nth (parseSegment []) l i
    let b := nth (parseSegment []) l k
    !overlaps (a.off, a.clen) (b.off, b.clen)

/-- The directory check (R243, R244). -/
def State.dirOk (s : State) (j : Job) (bs : List Byte) (len : Nat) : Bool :=
  let n := byteAt bs 6
  let l := parseDir bs n
  decide (1 ≤ n) && decide (n ≤ 40) && decide (64 + 32 * n ≤ len) && dirZeros bs n &&
  decide (l.map (fun g => (g.bar, g.chain)) = s.bandPairs j) &&
  (l.all fun g => decide ((g.colStart, g.colCount) = s.chainCols g.bar g.chain)) && segsFit len (64 + 32 * n) l

/-- Whether a band needs a replacement: it is bad or a segment of it is. -/
def Band.needs (b : Band) : Bool := !b.gone && (b.bad || b.segs.any Segment.bad)

/-- Whether a job that a standby has joined awaits its first band, which may have any number (R248, R594). -/
def Job.joining (j : Job) : Bool := j.join && j.bands.isEmpty

/-- What landing finds of a band (R249): the number it stands for, whether it fails a check before CCRC, whether
CCRC fails, and whether its number is neither the next nor that of a bad band. -/
structure Landing where
  number : Nat
  early : Bool
  ccrc : Bool
  stray : Bool
  deriving DecidableEq, Repr

/-- The checks of R249 in their order. A band that fails before its BAND check stands for the next number
expected (log entry 24). -/
def State.landing (s : State) (j : Job) (bs : List Byte) (len : Nat) : Landing :=
  let h := bs.take 64
  let head := decide (leAt h 0 4 = 0x444E4259) && decide (byteAt h 4 = 1) &&
    decide (leAt h 60 4 = crc32c (h.take 60)) && decide (leAt h 8 4 = j.id)
  if !head then { number := j.nextBand, early := true, ccrc := false, stray := false }
  else
    let n := leAt h 12 4
    let known := decide (n = j.nextBand) || j.joining || (j.kind ≠ 0 && j.bands.any fun b => b.needs && decide (b.number = n))
    if !known then { number := n, early := true, ccrc := false, stray := true }
    else if !s.dirOk j bs len then { number := n, early := true, ccrc := false, stray := false }
    else { number := n, early := false, ccrc := decide (leAt h 32 4 ≠ crc32c (bs.drop 64)), stray := false }

/-- The length that a band's header gives it; below 64 or not a multiple of 8 it is rounded up (log entry 24). -/
def bandLength (h : List Byte) : Nat := (max 64 (leAt h 24 8) + 7) / 8 * 8

/-- The next band of a job has landed: its bytes, if P has passed its last byte. -/
def State.bandBytes (s : State) (j : Job) : Option (List Byte) :=
  let p := (s.basin j.basin).p
  if j.passDone || decide (p < j.nextPos + 64) then none
  else
    let len := bandLength (s.basinGet j.basin j.nextPos 64)
    if p < j.nextPos + len then none else some (s.basinGet j.basin j.nextPos len)

/-- The band of a landing. -/
def mkBand (j : Job) (bs : List Byte) (r : Landing) : Band :=
  { number := r.number, first := leAt bs 16 6, nlines := min (leAt bs 22 2 + 1) j.lpb, pos := j.nextPos, len := bs.length,
    hist := bitOf (byteAt bs 5) 0, last := bitOf (byteAt bs 5) 1, bad := r.early || r.ccrc, gone := r.stray,
    segs := if r.early then [] else parseDir bs (byteAt bs 6) }

/-- The job after a band has landed: a good replacement supersedes the bad band of its number, and one that is bad itself
goes unused (R239, R250). -/
def Job.land (j : Job) (b : Band) (replaces : Bool) : Job :=
  let b := if replaces && b.bad then { b with gone := true } else b
  let old := if replaces && !b.bad then j.bands.map fun x => if x.number = b.number && x.needs then { x with gone := true } else x
    else j.bands
  let next := if replaces || b.gone then j.nextBand else if j.joining then b.number + 1 else j.nextBand + 1
  let done := j.kind = 0 && (b.last && !b.bad || (decide (j.passBytes ≠ 0) && decide (j.start + j.passBytes ≤ b.pos + b.len)))
  { j with bands := old ++ [b], nextBand := next, nextPos := b.pos + b.len, passDone := done,
           lines := if j.kind = 0 && j.lines = 0 && b.last && !b.bad then b.first + b.nlines else j.lines }

/-- A band lands for a job (R238, R239, R249): counts, flags and the job with the band. -/
def State.landBand (s : State) (j : Job) : State × Job :=
  match s.bandBytes j with
  | none => (s, j)
  | some bs =>
    let r := s.landing j bs bs.length
    let b := mkBand j bs r
    let replaces := !r.stray && !j.joining && decide (r.number ≠ j.nextBand)
    let s := if r.early then (s.inc pgDFL R.DFL_DIRCNT_DIR).raise pgDFL 0 r.number else s
    let s := s.tap 2 j.basin (bs.drop 64) true true (if r.early then none else some (leAt bs 32 4))
    let s := if b.bad then (s.inc pgBASN R.BASN_BANDCRC_FAIL).raise pgBASN 4 r.number else s
    let s := if replaces && !b.bad then s.inc pgBASN R.BASN_BANDCRC_REPL else s
    (s, j.land b replaces)

/-! ### Channels (R251 to R260) -/

/-- A decompressor channel. -/
def State.dcp (s : State) (n : Nat) : Dcp := mget {} s.jobs.dcps n

/-- Replaces a decompressor channel. -/
def State.setDcp (s : State) (n : Nat) (x : Dcp) : State := s.setJobs { s.jobs with dcps := mset {} s.jobs.dcps n x }

/-- LEAD_b of the running job (R251). -/
def State.lead (s : State) (b : Nat) : Nat := s.rd pgDFL (R.DFL_LEAD_LEAD b)

/-- The band that holds a line of the stream, its place in the band, and the stream line of its first line. -/
def Job.bandAt (j : Job) (d : Nat) : Option (Band × Nat) :=
  let w := if j.kind = 0 then (if j.lines = 0 then d else d % j.lines) else d
  match j.bands.find? fun b => !b.gone && decide (b.first ≤ w) && decide (w < b.first + b.nlines) with
  | some b => some (b, w - b.first)
  | none => none

/-- The segment of a channel in a band. -/
def Band.seg (b : Band) (n : Nat) : Option Segment := b.segs.find? fun g => g.bar = n / 5 && g.chain = n % 5

/-- The stride of a segment's lines (R245). -/
def segStride (g : Segment) (j : Job) : Nat := 8 * ((g.colCount * (if j.depth2 then 2 else 1) + 63) / 64)

/-- Marks a segment of a band bad. -/
def Job.spoil (j : Job) (pos n : Nat) : Job :=
  { j with bands := j.bands.map fun b => if b.pos = pos then
      { b with segs := b.segs.map fun g => if g.bar = n / 5 && g.chain = n % 5 then { g with bad := true } else g }
      else b }

/-- The state of a channel (06, DFL_DCPSTAT): 0 OFF, 1 WAITBAND, 2 PACED, 3 RUN, 4 BAD. -/
def State.dcpState (s : State) (n : Nat) : Nat :=
  let x := s.dcp n
  match s.jobs.cur with
  | none => 0
  | some j =>
    if !x.on then 0
    else
      match j.bandAt x.next with
      | none => 1
      | some (b, _) =>
        if b.bad then 1
        else if (b.seg n).any Segment.bad then 4
        else
          match s.jobLine j x.next with
          | none => 2
          | some l => if s.ellHeld j (n / 5) < (l - s.lead (n / 5)) * 4096 then 2 else 3

/-- Writes DFL_DCPSTAT of a channel. -/
def State.dcpStatus (s : State) (n : Nat) : State :=
  let x := s.dcp n
  let hist := match s.jobs.cur with
    | some j => match j.bandAt x.next with | some (b, _) => b.hist && b.number ≠ 0 | none => false
    | none => false
  let s := s.wr pgDCP (R.DFL_DCPSTAT_STATE n) (s.dcpState n)
  (s.wr pgDCP (R.DFL_DCPSTAT_HIST n) (b2n hist)).wr pgDCP (R.DFL_DCPSTAT_BANDLO n) (x.band % 65536)

/-- DFL_DCPSTAT of all channels. -/
def State.dcpAll (s : State) : State := State.each State.dcpStatus s (List.range 40)

/-- Whether every channel has passed a band with the bands after it given: the line that each decodes next lies behind the
band. The lines of a band that failed before its CCRC are not known; it is passed once the next band is reached. A band
that stays bad is passed only in a product that was missed (R221, R237). -/
def Band.passed (b : Band) (least : Nat) (rest : List Band) : Bool :=
  b.gone ||
  (if b.bad && b.segs.isEmpty then
    match rest.find? fun x => !x.gone && !(x.bad && x.segs.isEmpty) with
    | some x => decide (x.first ≤ least)
    | none => false
  else decide (b.first + b.nlines ≤ least))

/-- The bands at the head of the stream that every channel has passed, and where the last of them ends. -/
def Job.passedBands (j : Job) (least : Nat) : List Band → Nat → List Band × Nat
  | [], c => ([], c)
  | b :: bs, c => if b.passed least bs then j.passedBands least bs (b.pos + b.len) else (b :: bs, c)

/-- C of a live or product job advances to the end of each band that every channel has passed (R221). -/
def State.passBands (s : State) : State :=
  match s.jobs.cur with
  | none => s
  | some j =>
    if j.kind = 0 then s
    else
      let nexts := ((List.range 40).filter fun n => (s.dcp n).on).map fun n => (s.dcp n).next
      match nexts with
      | [] => s
      | a :: t =>
        let r := j.passedBands (t.foldl min a) j.bands (s.basin j.basin).c
        (s.setCur { j with bands := r.1 }).consume j.basin r.2

/-- Adds 1 to a decode error count, with BAND × 256 + channel as detail (R258). -/
def State.decodeError (s : State) (n band pos : Nat) (j : Job) : State :=
  ((s.inc pgDFL R.DFL_ERRCNT_DECERR).raise pgDFL 1 (band * 256 + n)).setCur (j.spoil pos n)

/-- The lines of a segment whose DCRC differs are logged as defects of kind 5 (R258). -/
def State.dcrcError (s : State) (n : Nat) (b : Band) (g : Segment) (first : Int) : State :=
  let s := (s.inc pgDFL R.DFL_ERRCNT_DCRCERR).raise pgDFL 2 (b.number * 256 + n)
  State.each (fun s (i : Nat) => s.defect 5 (n / 5) 0xFF 0 (first + i) g.colStart g.colCount) s (List.range b.nlines)

/-- Delivers line `i` of a segment, the line `d` of the stream, or finds the decode error in it (R252, R258). A band taken up
in its middle, as a replacement is, is decoded from its first line, and its whole output passes the tap. -/
def State.deliver (s : State) (n : Nat) (j : Job) (b : Band) (g : Segment) (d i : Nat) : State :=
  let x := s.dcp n
  let stride := segStride g j
  let limit := b.nlines * stride
  let last := i + 1 = b.nlines
  let hist := if b.hist && b.number ≠ 0 then x.histIn else []
  let r := inflate hist (s.basinGet j.basin (b.pos + g.off) g.clen) limit (if last then limit + 1 else (i + 1) * stride)
  if r.count < (i + 1) * stride then s.decodeError n b.number b.pos j
  else
    let own := r.own
    let fresh := decide (x.src ≠ some b.pos)
    let x1 := { x with
      next := d + 1, band := b.number, src := some b.pos, consumed := (r.pos + 7) / 8,
      histIn := if last then own.drop (own.length - 32768) else x.histIn,
      lines := if mfind x.lines d = none && decide (x.next = d) then mput x.lines d (sub own (i * stride) stride) else x.lines }
    let s := s.setDcp n x1
    let from_ := if fresh then 0 else i * stride
    let s := s.tap 6 n (sub own from_ ((i + 1) * stride - from_)) (fresh || decide (i = 0)) last (some g.dcrc)
    let s :=
      if last then
        if r.err && decide (r.count = limit) && (r.past || decide (r.pos < 8 * g.clen)) then s.decodeError n b.number b.pos j
        else if crc32c own ≠ g.dcrc then s.dcrcError n b g ((s.jobLine j d).getD d - i)
        else s
      else s
    s.passBands

/-- The first line of the stream that a channel of a joined job decodes, while it has decoded nothing: that of the
first landed band with HIST 0 (R248, R594). -/
def Job.joinLine (j : Job) (x : Dcp) : Option Nat :=
  if j.join && decide (x.consumed = 0) then
    match j.bands.find? fun b => !b.gone && !b.bad && (!b.hist || decide (b.number = 0)) with
    | some b => some b.first
    | none => none
  else some x.next

/-- A channel of a joined job goes to the line it begins with, and its bar maps from there (R594). -/
def State.joinAt (s : State) (n d : Nat) : State :=
  let x := s.dcp n
  if d ≤ x.next then s
  else
    let b := n / 5
    let r := mget {} s.rast b
    let s := s.setDcp n { x with next := d, due := max x.due d }
    { s with rast := mset {} s.rast b { r with next := max r.next d } }

/-- Decodes and delivers the next line of a channel once pacing and landing allow (R252 to R255). -/
def State.decodeLine (s : State) (n : Nat) : State :=
  let x := s.dcp n
  match s.jobs.cur with
  | none => s
  | some j =>
    if !x.on || (match j.total with | some t => decide (t ≤ x.next) | none => false) then s
    else if j.kind = 2 && j.missed.contains (x.next / atLeast1 j.lines) then
      (s.setDcp n { x with next := (x.next / atLeast1 j.lines + 1) * j.lines }).passBands
    else
      match j.joinLine x with
      | none => s
      | some d =>
      let s := s.joinAt n d
      match s.jobLine j d, j.bandAt d with
      | some l, some (b, i) =>
        match b.seg n with
        | some g =>
          if b.bad || g.bad || decide (s.ellHeld j (n / 5) < (l - s.lead (n / 5)) * 4096) then s
          else s.deliver n j b g d i
        | none => s
      | _, _ => s

/-! ### Lines due and missed products (R237, R253) -/

/-- Whether every line from `d` on, `n` lines, is good or beyond the end of the job; whole bands at a time. -/
def Job.linesGood (j : Job) : Nat → Nat → Nat → Bool
  | 0, _, _ => true
  | fuel + 1, d, last =>
    if last < d then true
    else if (match j.total with | some t => decide (t ≤ d) | none => false) then true
    else
      match j.bandAt d with
      | some (b, i) => !b.bad && !(b.segs.any Segment.bad) && j.linesGood fuel (d + (b.nlines - i)) last
      | none => false

/-- The first line of the stream that some channel of a job has still to decode, if a channel is on. -/
def State.leastNext (s : State) : Option Nat :=
  match ((List.range 40).filter fun n => (s.dcp n).on).map fun n => (s.dcp n).next with
  | [] => none
  | a :: t => some (t.foldl min a)

/-- Whether every band of product `k` has landed and is good; lines that every channel has decoded have been (R237). -/
def State.productReady (s : State) (j : Job) (k : Nat) : Bool :=
  let from_ := max (k * j.lines) (s.leastNext.getD 0)
  j.linesGood (j.bands.length + 1) from_ ((k + 1) * j.lines - 1)

/-- Judges the next product once its first line comes within the queue lead of a bar (R237). -/
def State.judgeProduct (s : State) : State :=
  match s.jobs.cur with
  | none => s
  | some j =>
    if j.kind ≠ 2 then s
    else
      match s.productX j j.judged with
      | none => s
      | some xp =>
        let l := productLine j xp
        let near := (barsOf j.bars).any fun b => decide ((l - s.qLead b) * 4096 ≤ s.ell j b)
        if !near then s
        else
          let ready := (barsOf j.bars).all fun b => decide ((j.judged + 1) * j.lines ≤ (s.barRast b).next)
          if ready || s.productReady j j.judged then s.setCur { j with judged := j.judged + 1 }
          else
            let s := s.setCur { j with judged := j.judged + 1, missed := j.missed ++ [j.judged] }
            (s.inc pgBASN R.BASN_PRODMISS).raise pgBASN 5 (j.trigOf j.judged)

/-- The next line of a channel becomes due; not delivered, it is late data (R253). -/
def State.lineDue (s : State) (n : Nat) : State :=
  let x := s.dcp n
  match s.jobs.cur with
  | none => s
  | some j =>
    let s := s.judgeProduct
    let b := n / 5
    match s.jobLine j x.due with
    | none => s
    | some l =>
      if !x.on || (match j.total with | some t => decide (t ≤ x.due) | none => false) ||
          decide (s.ell j b < (l - s.qLead b - s.dBar b) * 4096) then s
      else
        let s := s.setDcp n { x with due := x.due + 1 }
        if x.due < x.next || (j.joinLine x).isNone || (j.join && decide (x.consumed = 0)) then s
        else ((s.inc pgDFL R.DFL_DIRCNT_LATE).raise pgDFL 3 (uns 56 l * 256 + n)).sbTrigger 1

/-! ### The data condition (R434) -/

/-- The data condition of R434. -/
def State.dataOk (s : State) : Bool :=
  match s.jobs.cur with
  | none => false
  | some j =>
    s.sb ≠ 0 && (barsOf j.bars).all fun b =>
      let upTo := ((s.barF b).sigma + s.qLead b + s.dBar b + 256 * s.rd pgFIREC R.FIRE_SBDIST_AHEAD).toNat
      let least := ((List.range 5).filter fun c => (s.dcp (b * 5 + c)).on).map fun c => (s.dcp (b * 5 + c)).next
      match least with
      | [] => true
      | a :: t => j.linesGood (upTo + 1) (t.foldl min a) upTo

end Sys2Proof.Machine
end

