-- ==== Sys2Proof/Machine/RasterMap.lean ====
section
/-!
DEFINITION. Mapping one bar line (07, R286 to R297): the rotation of each column, strip lines of the colour
loop (R479 to R481), planes and side records.
-/
namespace Sys2Proof.Machine

/-! ### Control strips (R479 to R481) -/

/-- LOOP_PATCH.PLINES; below 16 acts as 16. -/
def State.pLines (s : State) : Nat := max 16 (s.rd pgLOOP R.LOOP_PATCH_PLINES)

/-- LOOP_PATCH.NSTEP; 0 acts as 1. -/
def State.nStep (s : State) : Nat := atLeast1 (s.rd pgLOOP R.LOOP_PATCH_NSTEP)

/-- LOOP_STRIP.PITCH; 0 acts as 1. -/
def State.stripPitch (s : State) : Nat := atLeast1 (s.rd pgLOOP R.LOOP_STRIP_PITCH)

/-- STRIPLEN for a number of controlled bars (R479). -/
def State.stripLen (s : State) (nb : Nat) : Nat := s.pLines * (1 + nb * 4 * s.nStep)

/-- The strip number and patch of a job line, if it is a strip line of the running loop (R479). -/
def State.stripAt (s : State) (line : Int) : Option (Nat × Nat) :=
  let o := line - s.rd pgLOOP R.LOOP_STRIPOFS
  if !s.loop.on || decide (o < 0) then none
  else
    let m := o.toNat % s.stripPitch
    if m < s.stripLen s.loop.bars.length then some (o.toNat / s.stripPitch, m / s.pLines) else none

/-- The controlled bar, row and step of a patch; none for the paper patch (R479). -/
def State.patchOf (s : State) (q : Nat) : Option (Nat × Nat × Nat) :=
  if q = 0 then none
  else
    let ir := (q - 1) / s.nStep
    match s.loop.bars.drop (ir / 4) with
    | b :: _ => some (b, ir % 4, (q - 1) % s.nStep)
    | [] => none

/-- PV_k of LOOP_PATCH; 0 acts as 2. -/
def State.patchPixel (s : State) (k : Nat) : Nat :=
  let v := s.rd pgLOOP (if k = 0 then R.LOOP_PATCH_PV0 else if k = 1 then R.LOOP_PATCH_PV1 else R.LOOP_PATCH_PV2)
  if v = 0 then 2 else v

/-- The key under which n_px of a cell in a strip is kept: strip, bar, group and row. -/
def npxKey (strip b g r : Nat) : Nat := ((strip * 8 + b) * 4096 + g) * 4 + r

/-- A pixel of a control-step patch is counted, or a counted one is taken back (R481). -/
def State.countPx (s : State) (b : Nat) (line : Int) (c r : Nat) (add : Bool) : State :=
  match s.stripAt line with
  | none => s
  | some (k, q) =>
    match s.patchOf q with
    | some (b', _, st) =>
      if b' = b ∧ st = s.rd pgLOOP R.LOOP_PATCH_CTRLSTEP then
        let key := npxKey k b (c / 32) r
        let n := mget 0 s.loop.npx key
        { s with loop := { s.loop with npx := mset 0 s.loop.npx key (if add then n + 1 else n - 1) } }
      else s
    | none => s

/-! ### Rotation (R286 to R288) -/

/-- A tile covers a column. -/
def tileCol (s : State) (b t c : Nat) : Nat := c - s.xcol b t

/-- RLIVE of the four nozzles of a column on a tile becomes "not hidden" (R287). -/
def State.refreshRow (s : State) (b t c r : Nat) : State :=
  let i := nozIndex t r (tileCol s b t c)
  let e := s.nozzle b i
  s.setNozzle b i (setBits e 28 1 (b2n (!s.hidden b e)))

/-- RLIVE of a column on a tile (R287). -/
def State.refreshCol (b c : Nat) (s : State) (t : Nat) : State :=
  (((s.refreshRow b t c 0).refreshRow b t c 1).refreshRow b t c 2).refreshRow b t c 3

/-- The rows of a tile in the rotation of a column, ascending (R288). -/
def State.liveRows (s : State) (b t c : Nat) : List Nat :=
  (List.range 4).filter fun r => bitOf (s.nozzle b (nozIndex t r (tileCol s b t c))) 28

/-! ### Pixels (R245, R278, R480) -/

/-- The pixel of a column in the decompressed line of a chain; a 1-bit pixel of value 1 becomes ONECODE. -/
def State.linePixel (s : State) (j : Job) (b t c d : Nat) : Nat :=
  let n := laneOf b t
  let bytes := (mfind (s.dcp n).lines d).getD []
  let i := c - (s.chainCols b (n % 5)).1
  if j.depth2 then bitsOf (byteAt bytes (i / 4)) (2 * (i % 4)) 2
  else if bitOf (byteAt bytes (i / 8)) (i % 8) then (let v := s.rd (pgRAST b) R.RAST_CTL_ONECODE; if v = 0 then 3 else v)
  else 0

/-- The pixel that a tile prints in a column of line `line`, whose assigned row is `r` (R480). -/
def State.mapPixel (s : State) (j : Job) (b t c d : Nat) (line : Int) (r : Nat) : Nat :=
  match s.stripAt line with
  | none => s.linePixel j b t c d
  | some (_, q) =>
    match s.patchOf q with
    | some (b', r', k) => if b' = b ∧ r' = r then s.patchPixel k else 0
    | none => 0

/-! ### One column (R287 to R292) -/

/-- What mapping a line gathers: the state, the pixels of the planes in descending column order, the side entries of
each tile in descending column order, and the smallest rotation count. -/
structure MapAcc where
  st : State
  px : List Nat := []
  sides : NMap (List Nat) := []
  nmin : Nat := 5

/-- The tile that prints a column and whether under OWN (R279, R291). -/
def State.printer (s : State) (b : Nat) (line : Int) (c : Nat) : Option (Nat × Bool) :=
  match s.owner b line c with
  | none => none
  | some (a, other) =>
    if !(s.liveRows b a c).isEmpty then some (a, false)
    else
      match other with
      | some u => if (s.liveRows b u c).isEmpty then none else some (u, true)
      | none => none

/-- A pixel that is not 0 goes to a plane or becomes a side entry, up to 32 for a tile (R292). -/
def MapAcc.place (m : MapAcc) (b : Nat) (line : Int) (c a r n px : Nat) (own : Bool) : MapAcc :=
  if px = 0 then { m with px := 0 :: m.px }
  else if n = 4 && !own then { m with st := m.st.countPx b line c r true, px := px :: m.px }
  else
    let es := mget [] m.sides a
    if es.length < 32 then
      let e := tileCol m.st b a c + r * 2 ^ 13 + b2n own * 2 ^ 15 + px * 2 ^ 16
      { m with st := m.st.countPx b line c r true, px := 0 :: m.px, sides := mput m.sides a (e :: es) }
    else
      let s := (m.st.inc (pgRAST b) R.RAST_DROPCNT_SIDE).raiseI (pgRAST b) 1 line
      { m with st := s.defect 2 b a (2 ^ r) line c 1, px := 0 :: m.px }

/-- Maps one column of a line. -/
def MapAcc.column (j : Job) (b d : Nat) (line : Int) (all : Bool) (m : MapAcc) (c : Nat) : MapAcc :=
  let s := if all || (line + c) % 12 == 0 then State.each (State.refreshCol b c) m.st (m.st.covers b c) else m.st
  match s.owner b line c with
  | none => { m with st := s, px := 0 :: m.px }
  | some (o, _) =>
    match s.printer b line c with
    | none =>
      let px := s.mapPixel j b o c d line ((line + c) % 4).toNat
      let s := if px = 0 then s
        else ((s.inc (pgRAST b) R.RAST_DEADCNT_DEAD).raise (pgRAST b) 3 c).defect 4 b 0xFF 0 line c 1
      { m with st := s, px := 0 :: m.px }
    | some (a, own) =>
      let v := s.liveRows b a c
      let n := v.length
      let r := nth 0 v ((line + c) % n).toNat
      let px := s.mapPixel j b a c d line r
      let m := { m with nmin := min m.nmin n }
      if s.hidden b (s.nozzle b (nozIndex a r (tileCol s b a c))) then
        let s := if px = 0 then s else (s.inc (pgRAST b) R.RAST_DEADCNT_TRANS).raise (pgRAST b) 4 c
        { m with st := s, px := 0 :: m.px }
      else ({ m with st := s }).place b line c a r n px own

/-! ### Planes and side records (R295, R296) -/

/-- The pixels of one plane: every fourth. -/
def planeOf (p : Nat) : List Nat → List Nat
  | a :: b :: c :: d :: t => nth 0 [a, b, c, d] p :: planeOf p t
  | _ => []

/-- Writes the four planes of a line. -/
def State.putPlanes (s : State) (b m : Nat) (px : List Nat) : State :=
  let put := fun (mem : List Host.Cell) (p : Nat) => memPuts mem (s.planeAddr b m p) (packPixels (planeOf p px))
  { s with mem := put (put (put (put s.mem 0) 1) 2) 3 }

/-- Writes the side record of a tile, if it has entries, and its presence bit. -/
def State.putSide (b m : Nat) (sides : NMap (List Nat)) (s : State) (t : Nat) : State :=
  let es := (mget [] sides t).reverse
  let x := s.barRast b
  let s := s.setBarRast b { x with present := mset 0 x.present (m * 22 + t) (b2n (!es.isEmpty)) }
  if es.isEmpty then s
  else { s with mem := memPuts s.mem (s.sideAddr b m t) (leBytes es.length 8 ++ es.flatMap fun e => leBytes e 4) }

/-! ### Mapping a line (R287, R294, R309, R587) -/

/-- The last image column of a bar, plus one. -/
def State.barEnd (s : State) (b : Nat) : Nat := match s.fitted b with | 0 => 0 | n + 1 => s.xcol b n + 4800

/-- Whether a line of the stream has been delivered on every channel of a bar. -/
def State.delivered (s : State) (b d : Nat) : Bool :=
  (List.range 5).all fun c => let x := s.dcp (b * 5 + c); !x.on || (mfind x.lines d).isSome

/-- Maps a line of the stream into the delay line of a bar, with the nozzle table as it stands as the mapping begins. The
writes held for this line complete in the same handshake, so they take effect from the next (R294, R587). -/
def State.mapLine (s : State) (j : Job) (b d : Nat) (line : Int) : State :=
  let s := s.flushFactors b line
  let x0 := s.xcol b 0
  let cols := (List.range (s.barEnd b - x0)).map (x0 + ·)
  let acc := cols.foldl (MapAcc.column j b d line (decide (d = 0))) { st := s }
  let px := List.replicate x0 0 ++ acc.px.reverse
  let m := lineSlot line
  let s := acc.st.putPlanes b m (px ++ List.replicate (104448 - px.length) 0)
  let s := State.each (State.putSide b m acc.sides) s (List.range 22)
  let x := s.barRast b
  let s := s.setBarRast b { x with next := d + 1, mapped := if line < 0 then x.mapped else mset 0 x.mapped m (line.toNat + 1) }
  let s := State.each (fun s c => let y := s.dcp (b * 5 + c); s.setDcp (b * 5 + c) { y with lines := merase y.lines d }) s (List.range 5)
  let s := s.applyHeld b fun w => decide (w.stamp ≤ d)
  (if acc.nmin = 5 then s else s.wr (pgFIRE b) R.FIRE_STAT_NMIN acc.nmin).speedCheck

/-- The raster path maps the next line of a bar once every channel of the bar has delivered it. -/
def State.mapBarLine (s : State) (b : Nat) : State :=
  match s.jobs.cur with
  | none => s
  | some j =>
    if !s.inJob || !bitOf j.bars b then s
    else
      let d := s.nextMap j b
      match s.jobLine j d with
      | none => s
      | some line => if s.delivered b d then s.mapLine j b d line else s

end Sys2Proof.Machine
end

