-- ==== Sys2Proof/Machine/LoopOps.lean ====
section
/-!
DEFINITION. The colour loop (13): configuration checks, window placement, measured density, the correction
cycle, promotion to WEAK and OUT, hold and loop records.
-/
namespace Sys2Proof.Machine

/-- Replaces the colour loop. -/
def State.setLoop (s : State) (x : LoopS) : State := { s with loop := x }

/-- A bar of the loop. -/
def State.loopBar (s : State) (b : Nat) : LoopBar := mget {} s.loop.bar b

/-- Replaces a bar of the loop. -/
def State.setLoopBar (s : State) (b : Nat) (x : LoopBar) : State := s.setLoop { s.loop with bar := mset {} s.loop.bar b x }

/-- The key of a cell: bar, group and row. -/
def cellKey (b g r : Nat) : Nat := (b * 4096 + g) * 4 + r

/-- A cell of the loop. -/
def State.loopCell (s : State) (k : Nat) : LoopCell := mget {} s.loop.cells k

/-- Replaces a cell of the loop. -/
def State.setLoopCell (s : State) (k : Nat) (x : LoopCell) : State :=
  s.setLoop { s.loop with cells := mset {} s.loop.cells k x }

/-! ### Configuration (R479, R482, R483) -/

/-- INSET of LOOP_PATCH. -/
def State.inset (s : State) : Nat := s.rd pgLOOP R.LOOP_PATCH_INSET

/-- LEARNN; 0 acts as 1. -/
def State.learnN (s : State) : Nat := atLeast1 (s.rd pgLOOP R.LOOP_CTL_LEARNN)

/-- TMODE; 3 acts as 0. -/
def State.tMode (s : State) : Nat := s.rd pgLOOP R.LOOP_CTL_TMODE % 3

/-- SCALE of a port, signed. -/
def State.camScale (s : State) (p : Nat) : Int := s.rdi pgLOOP (if p = 0 then R.LOOP_CAMSCLA_SCALE else R.LOOP_CAMSCLB_SCALE)

/-- CELLW of a port; 0 acts as 1. -/
def State.camCellW (s : State) (p : Nat) : Nat := atLeast1 (s.rd pgLOOP (if p = 0 then R.LOOP_CAMSCLA_CELLW else R.LOOP_CAMSCLB_CELLW))

/-- COL of a port, signed. -/
def State.camCol (s : State) (p : Nat) : Int := s.rdi pgLOOP (if p = 0 then R.LOOP_CAMCOLA else R.LOOP_CAMCOLB)

/-- The windows that the loop would own: window, port and place among the port's windows (R483). -/
def State.ownWindows (s : State) : List (Nat × Nat × Nat) :=
  let w := s.rd pgLOOP R.LOOP_WINCFG_WINBASE
  let a := s.rd pgLOOP R.LOOP_WINCFG_NWINA
  ((List.range a).map fun i => (w + i, 0, i)) ++
    ((List.range (s.rd pgLOOP R.LOOP_WINCFG_NWINB)).map fun i => (w + a + i, 1, i))

/-- The owned windows on a port that is in use. -/
def State.usedWindows (s : State) : List (Nat × Nat × Nat) := s.ownWindows.filter fun e => decide (s.camScale e.2.1 ≠ 0)

/-- The first failing condition of R482; 0 if all hold. -/
def State.loopCheck (s : State) (nb : Nat) : Nat :=
  if s.stripPitch < s.stripLen nb then 1
  else if s.pLines < 2 * s.inset + 8 then 2
  else if s.ownWindows.any (fun e => decide (64 ≤ e.1) || s.rdb pgCAMS (R.CAM_WIN_ARM e.1)) then 3
  else if s.camScale 0 = 0 ∧ s.camScale 1 = 0 then 4
  else if s.nStep ≤ s.rd pgLOOP R.LOOP_PATCH_CTRLSTEP then 5
  else 0

/-! ### Window placement (R484) -/

/-- The first line of a strip. -/
def State.stripLine (s : State) (k : Nat) : Nat := s.rd pgLOOP R.LOOP_STRIPOFS + k * s.stripPitch

/-- The patch that a placement measures: the paper patch, or row `r` of the control step of the stage's bar. -/
def State.stagePatch (s : State) (stage r : Nat) : Nat :=
  if stage = 0 then 0 else 1 + ((stage - 1) * 4 + r) * s.nStep + s.rd pgLOOP R.LOOP_PATCH_CTRLSTEP

/-- The first line of the patch of a stage and row in a strip. -/
def State.stageLine (s : State) (k stage r : Nat) : Nat := s.stripLine k + s.stagePatch stage r * s.pLines

/-- Places an owned window on a stage of a strip (R483, R484). -/
def State.placeWin (j : Job) (k stage : Nat) (s : State) (e : Nat × Nat × Nat) : State :=
  let (w, p, i) := e
  let x : CamWin := {
    s := j.xstart + (((s.stageLine k stage 0 + s.inset) * 25400 * 256 / j.lpi : Nat) : Int)
    len := (s.pLines - 2 * s.inset) * 25400 / j.lpi
    rep := if stage = 0 then 0 else roundUp (s.pLines * s.nStep * 25400) j.lpi }
  let cw := s.camCellW p
  let s := { s with cam := { s.cam with wins := mset {} s.cam.wins w x } }
  let s := s.wr pgCAMS (R.CAM_WIN w) (1 + 2 * p + 4 + 255 * 16 + cw * 2 ^ 16)
  let s := s.wr pgCAMS (R.CAM_WCOL w) (min 32767 (256 * cw * i))
  let y : LoopWin := mget {} s.loop.wins w
  let z : LoopWin := { strip := k, stage := stage, row := 0, echo := if stage = 0 then none else y.echo }
  s.setLoop { s.loop with wins := mput s.loop.wins w z }

/-- Releases the windows of the loop. -/
def State.freeWin (s : State) (w : Nat) : State :=
  (s.wr pgCAMS (R.CAM_WIN_ARM w) 0).wr pgCAMS (R.CAM_WIN_LOOP w) 0

/-! ### Start and end (R482, R489, R493) -/

/-- LSTATE: OFF, LEARN, RUN or HOLD. -/
def State.loopStatus (s : State) : State :=
  s.wr pgLOOP R.LOOP_STAT_LSTATE (
    if !s.loop.on then 0
    else if s.loop.held then 3
    else if s.loop.bars.any (fun b => decide (0 < (s.loopBar b).learn)) then 1
    else 2)

/-- A bar starts to learn, or does not in TMODE 0 (R489). -/
def State.learnBar (s : State) (b : Nat) : State :=
  s.setLoopBar b { s.loopBar b with learn := if s.tMode = 0 then 0 else s.learnN, sum := 0, cnt := 0 }

/-- The learning sums of the cells of the given bars become 0. -/
def State.clearLearn (s : State) (bars : List Nat) : State :=
  let m := s.loop.cells.filterMap fun e =>
    let x : LoopCell := if bars.contains (e.1 / 16384) then { e.2 with sum := 0, cnt := 0 } else e.2
    if x == {} then none else some (e.1, x)
  s.setLoop { s.loop with cells := m }

/-- The base of a nozzle entry is its TRIM; a base of 0 is not listed (R493). -/
def trimBase (e : Nat × Word) : Option (Nat × Int) :=
  if nozTrim e.2.toNat = 0 then none else some (e.1, nozTrim e.2.toNat)

/-- The base of every nozzle becomes its TRIM in force (R493). -/
def State.rebase (s : State) : State := s.setLoop { s.loop with base := s.noz.filterMap trimBase }

/-- The loop at the start of a job (R482, R484, R489, R493). -/
def State.loopStart (s : State) (j : Job) : State :=
  let s := s.rebase
  let bars := barsOf (Nat.land (s.rd pgLOOP R.LOOP_CTL_BARS) j.bars)
  let s := s.wr pgLOOP R.LOOP_STAT_CFGERR 0
  if j.kind = 2 ∨ !s.enabled pgLOOP ∨ bars = [] then s
  else
    let c := s.loopCheck bars.length
    if c ≠ 0 then (s.wr pgLOOP R.LOOP_STAT_CFGERR 1).raise pgLOOP 8 c
    else
      let s := s.setLoop { s.loop with on := true, bars := bars, held := false, h := none, npx := [], meas := [],
                                       wins := [], strips := [], due := [] }
      let s := State.each (fun s b => s.learnBar b) s bars
      let s := s.clearLearn bars
      let s := State.each (fun s w => s.wr pgCAMS (R.CAM_WIN_LOOP w) 1) s (s.ownWindows.map Prod.fst)
      (State.each (State.placeWin j 0 0) s s.usedWindows).loopStatus

/-- The loop at the end of a job: it is OFF and its windows are free (R482, R483). -/
def State.loopEnd (s : State) : State :=
  if !s.loop.on then s
  else
    let s := State.each State.freeWin s (s.ownWindows.map Prod.fst)
    let s := s.setLoop { s.loop with on := false, held := false, h := none, wins := [], due := [], strips := [] }
    (s.wr pgLOOP R.LOOP_STAT_HOLDWHY 0).loopStatus

/-! ### Hold (R497 to R499) -/

/-- A bit of a mask. -/
def bitIf (p : Bool) (n : Nat) : Nat := if p then 2 ^ n else 0

/-- The conditions of R497 that hold. -/
def State.holdWhy (s : State) : Nat :=
  bitIf (decide (1000 * s.rd pgLOOP R.LOOP_HOLDCFG_ACCMAX < s.accel.natAbs)) 0 +
  bitIf (decide (s.sb ≠ 0)) 1 +
  bitIf (s.lines.speedLimit || s.loop.bars.any fun b => decide (s.rd (pgFIRE b) R.FIRE_HOT_TILES ≠ 0)) 2 +
  bitIf (s.loop.bars.any fun b => s.rdb (pgHLTH b) R.HLTH_STAT_WARMING) 3 +
  bitIf (!(s.dev.role == .solo || s.dev.role == .active) || decide (s.twinState = 4)) 4 +
  bitIf (s.rdb pgLOOP R.LOOP_CMD_HOLD) 5 +
  bitIf (decide (s.dev.state ≠ .printing)) 6 +
  bitIf (!(s.msrc == 1 || s.msrc == 2) || !s.pos.track.valid) 7

/-- Whether the hold stops the cycle: on a standby, which runs the cycle in shadow (R499), bit 4 alone does not. -/
def State.loopBlocked (s : State) : Bool :=
  let w := s.rd pgLOOP R.LOOP_STAT_HOLDWHY
  decide ((if s.isStandby then w - bitIf (bitOf w 4) 4 else w) ≠ 0)

/-- The hold mark rises with ℓ_b while the loop is held (R498). -/
def State.holdMark (s : State) : State :=
  match s.jobs.cur with
  | none => s
  | some j =>
    match (barsOf j.bars).map fun b => (s.ell j b).fdiv 4096 with
    | [] => s
    | a :: t =>
      let m := t.foldl max a
      s.setLoop { s.loop with h := some (match s.loop.h with | some h => max h m | none => m) }

/-- The loop follows its hold conditions, with flags HOLD and RUN (R497, R498). -/
def State.loopHold (s : State) : State :=
  if !s.loop.on then s
  else
    let was := s.loopBlocked
    let w := s.holdWhy
    let held := decide (w ≠ 0)
    let s := s.wr pgLOOP R.LOOP_STAT_HOLDWHY w
    let s := if held && !s.loop.held then (s.setLoop { s.loop with held := true }).raise pgLOOP 2 w
      else if !held && s.loop.held then (s.setLoop { s.loop with held := false }).raise pgLOOP 3
      else s
    (if was || s.loopBlocked then s.holdMark else s).loopStatus

/-! ### Loop records (R500) -/

/-- Writes a loop record. -/
def State.loopRecordOut (s : State) (b kind strip : Nat) (body : List Byte) : State :=
  if s.rdb pgLOOP R.LOOP_LOGCTL_EN then
    let bs := leBytes s.now 10 ++ leBytes b 1 ++ leBytes kind 1 ++ leBytes strip 4 ++ leBytes (s.stripLine strip) 6 ++ body
    let full := s.ringFull .loop
    let s := s.ringPut .loop (bs ++ leBytes (crc32c bs) 4)
    if full then s.raise pgLOOP 9 else s
  else s

/-! ### Statistics records (R485 to R488) -/

/-- The key of a measured group: strip, stage (0 paper, 1 + bar), row, group. -/
def measKey (k stage r g : Nat) : Nat := ((k * 9 + stage) * 4 + r) * 4096 + g

/-- The column group of a cell of a window on a port, if it lies on the image (R485). -/
def State.cellGroup (s : State) (p x0 : Nat) : Option Nat :=
  let u := s.camCol p * 512 + s.camScale p * (2 * x0 + s.camCellW p : Nat)
  if 0 ≤ u ∧ u < 104448 * 8192 then some (u.toNat / 262144) else none

/-- Adds the cells of a record to the measured groups. -/
def State.addCells (s : State) (p col k stage r : Nat) : Nat → List (List Nat) → State
  | _, [] => s
  | i, c :: cs =>
    let s := match s.cellGroup p (col + i * s.camCellW p) with
      | some g =>
        let key := measKey k stage r g
        let old := mget [] s.loop.meas key
        let new := (List.range 4).map fun n => nth 0 old n + nth 0 c n
        if nth 0 c 0 = 0 then s else s.setLoop { s.loop with meas := mput s.loop.meas key new }
      | none => s
    s.addCells p col k stage r (i + 1) cs

/-- The counts of a bar in a strip. -/
def State.loopStrip (s : State) (k b : Nat) : LoopStrip := mget {} s.loop.strips (k * 8 + b)

/-- Replaces the counts of a bar in a strip. -/
def State.setLoopStrip (s : State) (k b : Nat) (x : LoopStrip) : State :=
  s.setLoop { s.loop with strips := mset {} s.loop.strips (k * 8 + b) x }

/-- A window ends its stage: it moves to the next bar of the strip, or to the next strip; a bar whose windows have
all ended is due for its cycle (R484, R490). -/
def State.endStage (s : State) (w : Nat) : State :=
  match s.jobs.cur, s.usedWindows.find? fun e => e.1 == w with
  | some j, some e =>
    let x : LoopWin := mget {} s.loop.wins w
    let s := if x.stage = 0 then s
      else
        match s.loop.bars.drop (x.stage - 1) with
        | [] => s
        | b :: _ =>
          let y := s.loopStrip x.strip b
          let s := s.setLoopStrip x.strip b { y with ended := y.ended + 1 }
          if y.ended + 1 = s.usedWindows.length then s.setLoop { s.loop with due := s.loop.due ++ [(x.strip, b)] } else s
    if x.stage < s.loop.bars.length then s.placeWin j x.strip (x.stage + 1) e else s.placeWin j (x.strip + 1) 0 e
  | _, _ => s

/-- Whether a record is discarded under R487. `first` and `last` are its job line indexes in 2^-12 line. -/
def State.discards (s : State) (x : LoopWin) (i : CamInst) (first last : Int) : Bool :=
  let lo : Int := (s.stageLine x.strip x.stage i.k : Nat)
  i.isPartial || i.dropped ||
  decide (first < lo * 4096) || decide ((lo + s.pLines) * 4096 ≤ last) || decide (last < lo * 4096) ||
  decide ((lo + s.pLines) * 4096 ≤ first) ||
  (match s.loop.h with | some h => decide (first.fdiv 4096 ≤ h) | none => false) ||
  (decide (x.stage ≠ 0) && (match x.echo with | some e => decide (e ≠ (i.exp, i.mode)) | none => false))

/-- The loop takes the record of a closed instance of one of its windows (R484 to R488). -/
def State.loopRecord (s : State) (w p : Nat) (i : CamInst) (first last : Int) : State :=
  match mfind s.loop.wins w with
  | none => s
  | some x =>
    let col := s.rd pgCAMS (R.CAM_WCOL_COLSTART w)
    let bad := s.discards x i first last
    let s := if bad then (s.inc pgLOOP R.LOOP_CNT_DISCARD).raise pgLOOP 7 w else s
    if x.stage = 0 then
      let y : LoopWin := { x with echo := some (i.exp, i.mode) }
      let s := if bad then s else s.addCells p col x.strip 0 0 0 i.cells
      let s := s.setLoop { s.loop with wins := mput s.loop.wins w y }
      s.endStage w
    else
      match s.loop.bars.drop (x.stage - 1) with
      | [] => s
      | b :: _ =>
        let y := s.loopStrip x.strip b
        let stale := decide (first < (s.loopBar b).lapply * 4096)
        let s :=
          if bad then s.setLoopStrip x.strip b { y with disc := w :: y.disc.erase w }
          else if stale then ((s.inc pgLOOP R.LOOP_CNT_STALE).raise pgLOOP 6 b).setLoopStrip x.strip b { y with stale := y.stale + 1 }
          else (s.addCells p col x.strip (1 + b) (i.k % 4) 0 i.cells).setLoopStrip x.strip b { y with good := y.good + 1 }
        let z : LoopWin := { x with row := i.k + 1 }
        let s := s.setLoop { s.loop with wins := mput s.loop.wins w z }
        if 3 ≤ i.k then s.endStage w else s

/-- An owned window past whose placement the camera has moved ends its stage without a record (log entry 29). -/
def State.loopPass (s : State) (p : Nat) (x : Int) : Nat → State
  | 0 => s
  | n + 1 =>
    if !s.loop.on then s
    else
      let gone := s.usedWindows.filter fun e =>
        decide (e.2.1 = p) &&
        (let c : CamWin := mget {} s.cam.wins e.1
         let y : LoopWin := mget {} s.loop.wins e.1
         let last : Nat := if y.stage = 0 then 0 else 3
         c.open_.isEmpty && decide (c.s + ((last * c.rep + c.len) * 256 : Nat) ≤ x))
      if gone.isEmpty then s else (State.each (fun s e => s.endStage e.1) s gone).loopPass p x n

/-! ### The correction cycle (R486, R489 to R496) -/

/-- The channel that measures a bar; 3 acts as 0. -/
def State.loopCh (s : State) (b : Nat) : Nat := s.rd pgLOOP (R.LOOP_TGT_CH b) % 3

/-- D and n_px of a cell in a strip, unless the cell is skipped (R486). -/
def State.cellDensity (s : State) (k b g r : Nat) : Option (Nat × Nat) :=
  let ch := 1 + s.loopCh b
  let p := mget [] s.loop.meas (measKey k 0 0 g)
  let q := mget [] s.loop.meas (measKey k (1 + b) r g)
  let n := mget 0 s.loop.npx (npxKey k b g r)
  if nth 0 p 0 = 0 ∨ nth 0 q 0 = 0 ∨ n < 4 * s.pLines then none
  else
    let pg := roundUp (nth 0 p ch) (nth 0 p 0)
    let rg := roundUp (nth 0 q ch) (nth 0 q 0)
    let d := ((2 * ((rg : Int) - pg) * (8 * s.pLines : Nat) + n).fdiv (2 * n))
    some ((clampI 0 4095 d).toNat, n)

/-- The target of a cell in force (R489). -/
def State.cellTarget (s : State) (b key : Nat) : Nat :=
  match s.tMode with
  | 0 => s.rd pgLOOP (R.LOOP_TGT_TGT b)
  | 1 => (s.loopBar b).target
  | _ => (s.loopCell key).target

/-- The entry indexes of the nozzles of a cell whose STATUS is OK or WEAK (R492). -/
def State.cellNozzles (s : State) (b g r : Nat) : List Nat :=
  (List.range (s.fitted b)).flatMap fun t =>
    ((List.range 32).filterMap fun i =>
      let c := 32 * g + i
      let x := s.xcol b t
      if x ≤ c ∧ c < x + 4800 then some (nozIndex t r (c - x)) else none).filter fun idx =>
        decide (nozStatus (s.nozzleNext b idx) ≤ 1)

/-- The TRIM and TRIMLIM that a cycle gives a nozzle, and whether it lies at the upper and the lower bound (R492). -/
def State.newTrim (s : State) (b idx : Nat) (δ : Int) : Int × Bool :=
  let base : Int := mget 0 s.loop.base (nozKey b idx)
  let tot : Int := (s.rd pgLOOP R.LOOP_LIM_TOTAL : Nat)
  let lo := max (-128) (base - tot)
  let hi := min 127 (base + tot)
  let v := max lo (min hi (nozTrim (s.nozzleNext b idx) + δ))
  (v, (decide (v = hi) && decide (0 < δ)) || (decide (v = lo) && decide (δ < 0)))

/-- What a cycle gathers for a bar. -/
structure CycleAcc where
  st : State
  sumE : Int := 0
  maxE : Nat := 0
  cells : Nat := 0
  corrected : Nat := 0
  limit : Nat := 0
  skipped : Nat := 0
  wrote : Bool := false

/-- Whether the loop writes the nozzle table: not on a standby (R499). -/
def State.loopWrites (s : State) : Bool := !s.isStandby

/-- Promotes the nozzles of a cell to a status (R495), with one record for the cell (log entry 95). -/
def CycleAcc.promote (m : CycleAcc) (k b g r : Nat) (out : Bool) (e : Int) (idxs : List Nat) : CycleAcc :=
  let s := m.st
  if !s.loopWrites || idxs.isEmpty then m
  else
    let go := fun (s : State) (idx : Nat) =>
      let s := (s.engineWrite b idx 0xF00 (if out then 0x200 else 0x100)).2
      (s.inc pgLOOP (if out then R.LOOP_PROMCNT_OUT else R.LOOP_PROMCNT_WEAK)).raise pgLOOP (if out then 5 else 4) idx
    let s := State.each go s idxs
    let body := leBytes g 2 ++ leBytes r 1 ++ leBytes idxs.length 1 ++ leBytes (uns 16 e) 2
    { m with st := s.loopRecordOut b (if out then 4 else 3) k body, wrote := true }

/-- One cell of a cycle that corrects (R491, R492, R494, R495). -/
def CycleAcc.correct (m : CycleAcc) (k b g r d n : Nat) : CycleAcc :=
  let s := m.st
  let key := cellKey b g r
  let x := s.loopCell key
  let e : Int := (s.cellTarget b key : Int) - d
  let step : Int := (atLeast1 (s.rd pgLOOP R.LOOP_GAIN_STEP) : Nat)
  let dead := e.natAbs ≤ s.rd pgLOOP R.LOOP_GAIN_DEAD
  let acc0 := x.acc + (s.rd pgLOOP R.LOOP_GAIN_KI : Nat) * e
  -- a sum outside the signed 32 bits of acc is a free value (log entry 4)
  let (acc1, s) := if dead then (x.acc, s)
    else if -2147483648 ≤ acc0 ∧ acc0 < 2147483648 then (acc0, s)
    else let (f, s) := s.draw; (sgn 32 (Config.freeWord f).toNat, s)
  let δ := if dead then 0 else clampI (0 - step) step (acc1.tdiv 256)
  let nozs := s.cellNozzles b g r
  let news := nozs.map fun idx => (idx, s.nozzleNext b idx, s.newTrim b idx δ)
  let change := news.filter fun q => decide (nozTrim q.2.1 ≠ q.2.2.1) || bitOf q.2.1 29 != q.2.2.2
  let atLim := (news.any fun q => q.2.2.2) && (decide (0 < e ∧ 0 < δ) || decide (e < 0 ∧ δ < 0))
  let s := if s.loopWrites then
      State.each (fun s q => Prod.snd <| s.engineWrite b q.1 0x200000FF (uns 8 q.2.2.1 + b2n q.2.2.2 * 2 ^ 29)) s change
    else s
  let weak := if atLim && decide (s.rd pgLOOP R.LOOP_LIM_WEAKERR < e.natAbs) then satInc 8 x.weak else 0
  let out := if atLim && decide (s.rd pgLOOP R.LOOP_LIM_OUTERR < e.natAbs) then satInc 8 x.out else 0
  let auto := s.rdb pgLOOP R.LOOP_CTL_AUTOSTAT
  let promN := atLeast1 (s.rd pgLOOP R.LOOP_LIM_PROMN)
  let goOut := auto && decide (promN ≤ out)
  let goWeak := auto && decide (promN ≤ weak)
  let lim := (news.filter fun q => q.2.2.2).map fun q => (q.1, nozStatus (s.nozzleNext b q.1))
  let cell : LoopCell := { x with acc := acc1 - 256 * δ, d := d, npx := n, e := e, weak := if goWeak then 0 else weak,
                                  out := if goOut then 0 else out }
  let s := s.setLoopCell key cell
  let m := { m with st := s, sumE := m.sumE + e, maxE := max m.maxE e.natAbs, cells := m.cells + 1,
                    corrected := m.corrected + b2n (decide (δ ≠ 0)), limit := m.limit + b2n atLim,
                    wrote := m.wrote || !change.isEmpty }
  if goOut then m.promote k b g r true e ((lim.filter fun q => decide (q.2 ≤ 1)).map Prod.fst)
  else if goWeak then m.promote k b g r false e ((lim.filter fun q => decide (q.2 = 0)).map Prod.fst)
  else m

/-- One cell of a cycle that learns (R489). -/
def CycleAcc.learn (m : CycleAcc) (b g r d n : Nat) : CycleAcc :=
  let s := m.st
  let key := cellKey b g r
  let x := s.loopCell key
  let y := s.loopBar b
  let s := s.setLoopCell key { x with d := d, npx := n, sum := x.sum + d, cnt := x.cnt + 1 }
  { m with st := s.setLoopBar b { y with sum := y.sum + d, cnt := y.cnt + 1 }, cells := m.cells + 1 }

/-- The end of learning: the targets and flag LEARNED (R489). -/
def State.learned (s : State) (k b : Nat) : State :=
  let y := s.loopBar b
  let t := roundUp y.sum y.cnt
  let cells := (List.range 13056).map fun i => (i, s.loopCell (cellKey b (i / 4) (i % 4)))
  let n := (cells.filter fun e => decide (0 < e.2.cnt)).length
  let s := s.setLoopBar b { y with target := t }
  let s := if s.tMode = 2 then
      State.each (fun s e => s.setLoopCell (cellKey b (e.1 / 4) (e.1 % 4))
        { e.2 with target := if e.2.cnt = 0 then t else roundUp e.2.sum e.2.cnt }) s cells
    else s
  (s.raise pgLOOP 1 b).loopRecordOut b 2 k (leBytes (if s.tMode = 1 then t else 0) 2 ++ leBytes n 2 ++ zeros 2)

/-- The measurements of strips before a strip are no longer needed. -/
def State.pruneStrips (s : State) (k : Nat) : State :=
  s.setLoop { s.loop with npx := s.loop.npx.filter fun e => decide (k ≤ e.1 / 131072)
                          meas := s.loop.meas.filter fun e => decide (k ≤ e.1 / 147456)
                          strips := s.loop.strips.filter fun e => decide (k ≤ e.1 / 8) }

/-- The line from which a trim written now takes effect on a bar (R488, R587). -/
def State.loopApply (s : State) (j : Job) (b : Nat) : Int :=
  let d := (s.barRast b).next + (if s.isActive then atLeast1 (s.rd pgTWIN R.TWIN_CFG_MIRLINES) else 0)
  (s.jobLine j d).getD d

/-- Runs the cycle of a bar over a strip (R490 to R495). -/
def State.runCycle (s : State) (j : Job) (k b : Nat) : State :=
  let learning := decide (0 < (s.loopBar b).learn)
  let cell := fun (m : CycleAcc) (i : Nat) =>
    match m.st.cellDensity k b (i / 4) (i % 4) with
    | none => { m with skipped := m.skipped + 1 }
    | some (d, n) => if learning then m.learn b (i / 4) (i % 4) d n else m.correct k b (i / 4) (i % 4) d n
  let m := (List.range 13056).foldl cell { st := s }
  let s := m.st
  let y := s.loopBar b
  let s := s.setLoopBar b { y with cycles := (y.cycles + 1) % 2 ^ 32, limit := m.limit % 65536, skipped := m.skipped % 65536,
                                   tick := s.now % 2 ^ 32, learn := y.learn - 1,
                                   lapply := if m.wrote then s.loopApply j b else y.lapply }
  let body := leBytes (uns 16 (divRound m.sumE m.cells)) 2 ++ leBytes m.maxE 2 ++ leBytes m.corrected 2
  let s := (s.raise pgLOOP 0 b).loopRecordOut b 1 k body
  (if learning && decide (y.learn = 1) then s.learned k b else s).loopStatus

/-- LOOP_CYCLE of a bar: its oldest strip due runs its cycle, unless every record of it was discarded, or the loop is
held (R490, R498, R500). -/
def State.loopCycle (s : State) (b : Nat) : State :=
  match s.jobs.cur, s.loop.due.find? fun e => e.2 == b with
  | some j, some (k, _) =>
    let s := s.setLoop { s.loop with due := s.loop.due.filter fun e => decide (e ≠ (k, b)) }
    let y := s.loopStrip k b
    let s :=
      if y.good = 0 then s.loopRecordOut b 5 k (leBytes y.disc.length 2 ++ leBytes y.stale 2 ++ zeros 2)
      else if s.loopBlocked then s
      else s.runCycle j k b
    if s.loop.due.any (fun e => decide (e.1 ≤ k)) then s else s.pruneStrips k
  | _, _ => s

/-- The cycles that are due run: the records of a strip were delivered before its job ends (R501). -/
def State.cyclesLeft (s : State) : State := State.each (fun s e => s.loopCycle e.2) s s.loop.due

/-! ### LOOP_CMD (R489, R493) -/

/-- The bar of a LOOP_CYCLE of a tick. -/
def cycleAt (t : Nat) : Instr → Option Nat
  | .loopCycle x b => if x.toNat = t then some b.val else none
  | _ => none

/-- The cycles of this tick that still wait run before a LOOP_CMD (R501). Their own turn then finds nothing due. -/
def State.cyclesFirst (s : State) : State := State.each (fun s b => s.loopCycle b) s (s.pending.filterMap (cycleAt s.now))

/-- LOOP_CMD.RELEARN. -/
def State.loopRelearn (s : State) : State :=
  if s.loop.on then ((State.each State.learnBar s s.loop.bars).clearLearn s.loop.bars).loopStatus else s

/-- A cell with acc 0; one at its initial state is not listed (R493). -/
def resetAcc (e : Nat × LoopCell) : Option (Nat × LoopCell) :=
  let x : LoopCell := { e.2 with acc := 0 }
  if x == {} then none else some (e.1, x)

/-- LOOP_CMD.RESETINT. -/
def State.loopResetInt (s : State) : State := s.setLoop { s.loop with cells := s.loop.cells.filterMap resetAcc }

/-- A write through RAST_NTDATA that changes TRIM becomes the nozzle's base (R493). -/
def State.setBase (s : State) (b idx : Nat) (v : Int) : State :=
  s.setLoop { s.loop with base := mset 0 s.loop.base (nozKey b idx) v }

end Sys2Proof.Machine
end

