-- ==== Sys2Proof/Machine/JobOps.lean ====
section
/-!
DEFINITION. Command records and jobs (05): acceptance, start, halt, resume and end.
-/
namespace Sys2Proof.Machine

/-! ### Status -/

/-- JOBSTAT, JOBCUR and JOBQ follow the jobs. -/
def State.jobRegs (s : State) : State :=
  let cur := s.jobs.cur
  let q := s.jobs.queued
  let s := s.wr pgBASN R.BASN_JOBSTAT_RUNNING (b2n cur.isSome)
  let s := s.wr pgBASN R.BASN_JOBSTAT_QUEUED (b2n q.isSome)
  let s := s.wr pgBASN R.BASN_JOBSTAT_HALTED (b2n (cur.isSome && s.dev.state == .halted))
  let s := s.wr pgBASN R.BASN_JOBCUR ((cur.map Job.id).getD 0xFFFFFFFF)
  s.wr pgBASN R.BASN_JOBQ ((q.map Job.id).getD 0xFFFFFFFF)

/-- Whether a bar is in service under R1, R4 and R88. -/
def State.barService (s : State) (b : Nat) : Bool := s.barPart b && decide (bitsOf s.priv.barMap (4 * b) 4 < 8)

/-! ### Warm-up (R420 to R422) -/

/-- The pair of SET frames of a warm-up range to every fitted tile of a bar (R420, R421). -/
def State.warmSets (s : State) (b : Nat) (lo n : Int) : State :=
  if n ≤ 0 then s
  else
    let s := (s.setBarF b { s.barF b with warm := some (lo, lo + n) }).warmStat b
    let idle := s.rdb (pgFIRE b) R.FIRE_CTL_IDLEWARM
    State.each (fun s t => (s.queueSet b t lo true).queueSet b t (lo + n) idle) s (List.range (s.fitted b))

/-! ### Start (R235, R251, R282, R299, R420) -/

/-- The first failing check of a bar at a job start: a geometry check, or a lane with fitted tiles that is not UP
or DEGRADED (R299, R359). -/
def State.startFault (s : State) (j : Job) (b : Nat) : Option (Option (Nat × Nat)) :=
  match s.geometry b j.lpi with
  | some g => some (some g)
  | none => if (List.range 5).any fun c => decide (0 < s.nfit (b * 5 + c)) && !s.laneUp (b * 5 + c) then some none else none

/-- The SET frames of a job start, from the first slot of the job: the warm-up pair with HLTH_WARM.LINES above 0 (R420),
else one SET that takes the row trims of R282 to the tile (log entry 58). -/
def State.startSets (s : State) (b : Nat) (d : Int) : State :=
  let w := s.rd (pgHLTH b) R.HLTH_WARM_LINES
  if 0 < w then s.warmSets b (-d) ((w : Nat) + d)
  else
    let idle := s.rdb (pgFIRE b) R.FIRE_CTL_IDLEWARM
    State.each (fun s t => s.queueSet b t (-d) idle) s (List.range (s.fitted b))

/-- A bar takes its geometry at a JOB boundary: row delays, trims, D_b and LEAD_b (R251, R282, R283). -/
def State.bindBar (j : Job) (s : State) (b : Nat) : State :=
  let g := s.computeRows b j.lpi
  let s := s.setBarRast b { k := g.1, f := g.2.1, kt := g.2.2 }
  let d := s.dBar b
  (s.wri (pgRAST b) R.RAST_STAT_DBAR d).wr pgDFL (R.DFL_LEAD_LEAD b) (s.qLead b + d.toNat + s.margin)

/-- A bar of a job starts: its slots, and the first SETs of its tiles (R420). -/
def State.startBar (s : State) (b : Nat) : State :=
  let d := s.dBar b
  let s := s.setBarF b { first := -d, next := -d }
  let clear := fun (s : State) t => s.setTile b t { s.tile b t with lastFired := none, sets := [], setQ := [], facs := [], facQ := [] }
  (State.each clear s (List.range 22)).startSets b d

/-- A bar that passes the geometry check of a job shows it (R299). -/
def State.geometryPass (s : State) (b : Nat) : State :=
  (s.wr (pgRAST b) R.RAST_STAT_GEOMOK 1).wr (pgRAST b) R.RAST_STAT_GEOMCHK 0

/-- Turns on the channels of a job. -/
def State.startChannels (s : State) (j : Job) : State :=
  State.each (fun s n => s.setDcp n { on := bitOf j.bars (n / 5) && decide (0 < s.nfit n) }) s (List.range 40)

/-- A JOB record is refused (R232). -/
def State.jobRefuse (s : State) (id reason basin : Nat) : State :=
  let s := (s.wr pgBASN R.BASN_JOBSTAT_REFREASON reason).wr pgBASN R.BASN_JOBSTAT_REFBASIN basin
  s.raise pgBASN 1 id

/-- A bar that fails a geometry check reports it (R299). -/
def State.geometryFail (s : State) (b : Nat) (g : Nat × Nat) : State :=
  ((s.wr (pgRAST b) R.RAST_STAT_GEOMOK 0).wr (pgRAST b) R.RAST_STAT_GEOMCHK g.1).raise (pgRAST b) 0 (g.1 * 256 + g.2)

/-- Whether two bars of a job have POS_BARnDIST values in the opposite order to their stations (R88). -/
def State.orderBad (s : State) (bars : List Nat) : Bool :=
  bars.any fun a => bars.any fun b =>
    decide (bitsOf s.priv.barMap (4 * a) 4 < bitsOf s.priv.barMap (4 * b) 4) &&
      decide (s.rdi pgPOS (R.POS_BARDIST b) < s.rdi pgPOS (R.POS_BARDIST a))

/-- The queued job takes the running place at a JOB boundary: settings apply, the geometry and the order of the bars
are checked, and the job starts or is refused (R79, R88, R235, R299). -/
def State.startJob (s : State) (j : Job) : State :=
  let s1 := (s.boundaries .job allPages).posApplied s
  let bad := (barsOf j.bars).filterMap fun b => (s1.startFault j b).map fun g => (b, g)
  let s := s.setJobs { s.jobs with queued := none }
  if bad ≠ [] ∨ s1.orderBad (barsOf j.bars) then
    let skip := (bad.filter fun e => e.2.isSome).map fun e => pgRAST e.1
    let s := (s.boundaries .job (allPages.filter fun p => !skip.contains p)).posApplied s
    let good := (barsOf j.bars).filter fun b => !(bad.any fun e => e.1 == b && e.2.isSome)
    let s := State.each State.geometryPass s good
    let s := State.each (fun s e => match e.2 with | some g => s.geometryFail e.1 g | none => s) s bad
    (s.jobRefuse j.id 2 j.cmdBasin).jobRegs
  else
    let q := s.rd pgPOS R.POS_TRIGSEQ
    let j := { j with trig0 := q, ended := if j.kind = 2 then j.ended.map fun _ => q else j.ended, join := s.isStandby && decide (s.twin.peerState % 16 = 6) }
    let s := s1.setJobs { s1.jobs with queued := none, cur := some j }
    let s := s.setFire { s.fire with xstart := j.xstart, lpi := j.lpi }
    let s := State.each (State.bindBar j) s ((List.range 8).filter s.barPart)
    let s := State.each (fun s b => (s.geometryPass b).startBar b) s (barsOf j.bars)
    let s := ((s.startChannels j).loopStart j).chkReserve
    let s := (s.raise pgBASN 2 j.id).change .printing s.dev.role s.dev.cause
    s.sendAlign.jobRegs.dcpAll

/-- The queued job starts if the running place is free and web-ready allows it (R235, R681). -/
def State.tryStart (s : State) : State :=
  match s.jobs.cur, s.jobs.queued with
  | none, some j =>
    if s.webHolds || !(s.dev.state == .ready || s.inJob) then s else s.startJob j
  | _, _ => s

/-! ### End (R221, R235) -/

/-- The running job ends: its stop sequence, loop and reserved check channels end with it, C of a repeat's basin
moves past the repeat, the device enters READY, and in the same handshake the queued job starts and JOBEND is set, after
any flag of the start (R25, R73, R235, R439, R445). -/
def State.endJob (s : State) : State :=
  match s.jobs.cur with
  | none => s
  | some j =>
    let s := s.cyclesLeft
    let s := s.setJobs { s.jobs with cur := none, dcps := [] }
    let s := if s.sb ≠ 0 then s.sbEnd else (s.stopReq false).revPermit false
    let s := s.setFire { s.fire with ending := false }
    let s := State.each (fun s b => (s.setBarF b { s.barF b with stop := none, warm := none }).wr (pgHLTH b)
      R.HLTH_STAT_WARMING 0) s (barsOf j.bars)
    let s := if j.kind = 0 then s.consume j.basin (if j.passBytes ≠ 0 then j.start + j.passBytes else j.nextPos) else s
    let s := State.each (fun s b => (s.applyHeld b fun _ => true).endFactors b) s (barsOf j.bars)
    let s := s.loopEnd.chkRelease
    let s := if s.inJob then s.goto .ready else s
    (s.tryStart.raise pgBASN 3 j.id).jobRegs.dcpAll

/-- The slot in which a tile prints the last line given. -/
def State.lastSlotOf (s : State) (b t : Nat) (line : Int) : Int :=
  line - minI 0 ((List.range 4).map fun r => s.rowK b t r)

/-- Whether every fitted tile of the job's bars has retired the slots up to a line (R235). -/
def State.linePrinted (s : State) (j : Job) (line : Int) : Bool :=
  (barsOf j.bars).all fun b => (List.range (s.fitted b)).all fun t =>
    match (s.tile b t).lastFired with
    | some v => decide (s.lastSlotOf b t line ≤ v)
    | none => false

/-- The products of a job that were not missed, below `n`. -/
def Job.printed (j : Job) (n : Nat) : List Nat := (List.range n).filter fun k => !j.missed.contains k

/-- Whether the running job has completed (R235). -/
def State.jobDone (s : State) (j : Job) : Bool :=
  if j.kind = 2 then
    match j.taken with
    | none => false
    | some n =>
      (j.printed n).all fun k =>
        match s.productX j k with
        | some x => s.linePrinted j (productLine j x + j.lines - 1)
        | none => true
  else
    match j.total with
    | none => false
    | some t => t = 0 || s.linePrinted j (t - 1)

/-- The end of a product job after a hard stop: every product not completely fired is missed (R444). -/
def State.productStop (s : State) : State :=
  match s.jobs.cur with
  | none => s
  | some j =>
    if !s.fire.ending then s
    else
      let n := ({ j with ended := some (j.ended.getD (s.rd pgPOS R.POS_TRIGSEQ)) } : Job).taken.getD 0
      let open_ := (j.printed n).filter fun k => match s.productX j k with
        | some x => !s.linePrinted j (productLine j x + j.lines - 1)
        | none => true
      let s := State.each (fun s k => (s.inc pgBASN R.BASN_PRODMISS).raise pgBASN 5 (j.trigOf k)) s open_
      s.endJob

/-! ### Halt and resume (R25, R236, R320, R421) -/

/-- A halt of the running job with its cause: one clean stop slot for every bar that has none (R320, R345). -/
def State.haltJob (s : State) (cause : Nat) : State :=
  match s.jobs.cur with
  | none => s
  | some j =>
    if s.dev.state ≠ .printing then s
    else
      let s := State.each (State.stopBar j) s ((barsOf j.bars).filter fun b => (s.barF b).stop.isNone)
      let s := s.setJobs { s.jobs with haltAt := some s.now }
      (s.enterSide .halted cause).loopHold.jobRegs

/-- The resume of a halted job: FIRELIM follows R319 again on bars outside the stop sequence, with the warm-up of
R421. -/
def State.resumeJob (s : State) : State :=
  match s.jobs.cur with
  | none => s
  | some j =>
    if s.dev.state ≠ .halted || s.pio.stopAt == some s.now then s
    else
      let s := s.goto .printing
      let s := State.each (fun s b =>
        let s := s.warmSets b (s.barF b).sigma (s.rd (pgHLTH b) R.HLTH_WARM_RESUME : Nat)
        if bitOf s.waitBar b then s else s.freeBar b) s (barsOf j.bars)
      s.loopHold.jobRegs

/-- ABORT of the running job (R236). -/
def State.abortJob (s : State) : State := if s.inJob then s.endJob else s

/-! ### Command records (R231 to R236, R715) -/

/-- The JOB record of 64 bytes. -/
def parseJob (r : List Byte) : Job :=
  { id := leAt r 4 4, kind := byteAt r 1, bars := byteAt r 2, depth2 := bitOf (byteAt r 3) 0, lpi600 := bitOf (byteAt r 3) 1,
    basin := byteAt r 8, lpb := leAt r 10 2 + 1, passes := leAt r 12 4, start := leAt r 16 8, passBytes := leAt r 24 8,
    xstart := sgn 64 (leAt r 32 8), lines := leAt r 40 6, nextPos := leAt r 16 8 }

/-- Whether a command record has the form of R231 and R234. -/
def recordOk (r : List Byte) : Bool :=
  let type := byteAt r 0
  if leAt r 46 14 ≠ 0 ∨ byteAt r 9 ≠ 0 then false
  else if type = 1 then
    let kind := byteAt r 1
    decide (kind ≤ 2) && decide (byteAt r 2 ≠ 0) && decide (leAt r 4 4 ≠ 0xFFFFFFFF) && decide (63 ≤ leAt r 10 2) &&
      (decide (kind = 0) || (decide (leAt r 12 4 = 0) && decide (leAt r 24 8 = 0)))
  else
    decide (2 ≤ type) && decide (type ≤ 5) && decide (leAt r 1 3 = 0) && decide (leAt r 8 32 = 0)

/-- Whether the CRC of a command record matches. -/
def recordCrc (r : List Byte) : Bool := decide (leAt r 60 4 = crc32c (r.take 60))

/-- The record at C of a command basin. -/
def State.recordAt (s : State) (b : Nat) : List Byte := s.basinGet b (s.basin b).c 64

/-- Whether a record waits in its basin: a JOB record while the queued place is taken (R233). -/
def State.recordWaits (s : State) (r : List Byte) : Bool :=
  recordCrc r && recordOk r && decide (byteAt r 0 = 1) && s.jobs.queued.isSome

/-- The next basin whose record the device takes: the record that became complete first, past basins whose record
waits (R233, log entry 25). -/
def State.nextRecord (s : State) : List (Nat × Nat) → List Nat → Option Nat
  | [], _ => none
  | (_, b) :: bs, blocked =>
    if !s.basinOn b || blocked.contains b then s.nextRecord bs blocked
    else if s.recordWaits (s.recordAt b) then s.nextRecord bs (b :: blocked)
    else some b

/-- Removes the first entry of a basin. -/
def dropFirst (b : Nat) : List (Nat × Nat) → List (Nat × Nat)
  | [] => []
  | a :: t => if a.2 = b then t else a :: dropFirst b t

/-- C passes a record. -/
def State.passRecord (s : State) (b : Nat) : State :=
  (s.setJobs { s.jobs with order := dropFirst b s.jobs.order }).consume b ((s.basin b).c + 64)

/-- Whether a pass of a repeat, as far as it has landed, contains a band that fails its CRC (R232). -/
def State.passBad (s : State) : Nat → Job → Bool
  | 0, _ => false
  | n + 1, j =>
    match s.bandBytes j with
    | none => false
    | some bs =>
      let r := s.landing j bs bs.length
      r.ccrc || s.passBad n (j.land (mkBand j bs r) false)

/-- The reason to refuse a well-formed JOB record, the lowest that applies; 0 for none (R232). -/
def State.jobReason (s : State) (j : Job) : Nat :=
  if (barsOf j.bars).any fun b => !s.barService b then 2
  else if 32 ≤ j.basin ∨ s.basinOn j.basin = false ∨ s.basinUse j.basin ≠ 0 then 3
  else if j.kind = 2 ∧ s.rd pgPOS R.POS_TRIGCFG_MINPITCH * j.lpi < j.lines * 25400 then 4
  else if j.kind = 0 ∧ s.passBad (j.passBytes / 64 + 1) j then 5
  else if (s.jobs.cur.map Job.id) = some j.id ∨ (s.jobs.queued.map Job.id) = some j.id then 6
  else 0

/-- A JOB record is accepted, and starts if the running place is free, or is refused (R232, R233). -/
def State.takeJob (s : State) (basin : Nat) (r : List Byte) : State :=
  let j := parseJob r
  let why := s.jobReason j
  if why ≠ 0 then s.jobRefuse j.id why basin
  else
    ((s.setJobs { s.jobs with queued := some { j with cmdBasin := basin } }).raise pgBASN 0 j.id).jobRegs.tryStart

/-- Whether an id names the running job (R236). -/
def State.namesCur (s : State) (id : Nat) : Bool := s.jobs.cur.isSome && (decide (id = 0xFFFFFFFF) || decide ((s.jobs.cur.map Job.id) = some id))

/-- Whether an END acts on a job: its first END, for an unbounded live job or a product job (R236). -/
def Job.endable (j : Job) (id : Nat) : Bool :=
  decide (j.id = id) && j.ended.isNone && (decide (j.kind = 1 ∧ j.lines = 0) || decide (j.kind = 2))

/-- An END record (R236). -/
def State.takeEnd (s : State) (id line : Nat) : State :=
  let mark := fun j : Job => { j with ended := some (if j.kind = 1 then line else s.rd pgPOS R.POS_TRIGSEQ) }
  match s.jobs.cur, s.jobs.queued with
  | some j, q =>
    if j.endable id then s.setCur (mark j)
    else
      match q with
      | some k => if k.endable id then s.setJobs { s.jobs with queued := some (mark k) } else s
      | none => s
  | none, some k => if k.endable id then s.setJobs { s.jobs with queued := some (mark k) } else s
  | none, none => s

/-- An ABORT record (R236). -/
def State.takeAbort (s : State) (id : Nat) : State :=
  if s.namesCur id then s.abortJob
  else if (s.jobs.queued.map Job.id) = some id then
    ((s.setJobs { s.jobs with queued := none }).raise pgBASN 3 id).jobRegs
  else s

/-- The device takes the record of a basin: C passes it, and it acts or is refused (R231 to R236). -/
def State.takeRecord (s : State) (b : Nat) : State :=
  let r := s.recordAt b
  let id := leAt r 4 4
  let s := s.passRecord b
  if !recordCrc r then s.jobRefuse id 1 b
  else if !recordOk r then s.jobRefuse id 7 b
  else
    match byteAt r 0 with
    | 1 => s.takeJob b r
    | 2 => if s.namesCur id then s.haltJob 1 else s
    | 3 => if s.namesCur id then s.resumeJob else s
    | 4 => s.takeAbort id
    | _ => s.takeEnd id (leAt r 40 6)

/-- Whether the device takes command records (R715). -/
def State.takesRecords (s : State) : Bool := s.dev.state == .ready || s.inJob

/-- The device takes the next record if its TYPE passes a test. -/
def State.takeIf (s : State) (p : Nat → Bool) : State :=
  if !s.takesRecords then s
  else
    match s.nextRecord s.jobs.order [] with
    | none => s
    | some b => if p (byteAt (s.recordAt b) 0) then s.takeRecord b else s

/-- The device takes every record that need not wait, at most `n`. -/
def State.takeAll (s : State) : Nat → State
  | 0 => s
  | n + 1 =>
    if !s.takesRecords then s
    else
      match s.nextRecord s.jobs.order [] with
      | none => s
      | some b => (s.takeRecord b).takeAll n

/-- The running job ends once it has completed (R235). -/
def State.jobOver (s : State) : State :=
  match s.jobs.cur with
  | some j => if s.inJob && s.jobDone j then s.endJob else s
  | none => s

/-- A band of the running or the queued job lands (R239, R249). -/
def State.bandLand (s : State) (queued : Bool) : State :=
  match (if queued then s.jobs.queued else s.jobs.cur) with
  | none => s
  | some j =>
    let (t, j) := s.landBand j
    let t := if queued then t.setJobs { t.jobs with queued := some j } else t.setCur j
    t.passBands.dcpAll

end Sys2Proof.Machine
end

