-- ==== Sys2Proof/Machine/WeirOps.lean ====
section
/-!
DEFINITION. The Weir (14): budgets, levels, banks, admission, throttling and the checks of a period start.
-/
namespace Sys2Proof.Machine

/-- An activity. -/
def State.act (s : State) (a : Nat) : WeirAct := mget {} s.weir.acts a

/-- Replaces an activity. -/
def State.setAct (s : State) (a : Nat) (x : WeirAct) : State :=
  { s with weir := { s.weir with acts := mset {} s.weir.acts a x } }

/-- Replaces the Weir. -/
def State.setWeir (s : State) (x : WeirS) : State := { s with weir := x }

/-- The budget period in force, ticks (R717). -/
def State.weirPeriod (s : State) : Nat := clampN 4000 256000 (s.rd pgWEIR R.WEIR_CTL_PERIOD)

/-- BUDGET in force of an activity. -/
def State.budget (s : State) (a : Nat) : Nat := s.rd pgWEIR (R.WEIR_BUDGET_BUDGET a)

/-- BURST of an activity; 0 on ACT 10 to 13 and 20 (R513). -/
def State.burst (s : State) (a : Nat) : Nat :=
  if inRun a 10 4 || a == 20 then 0 else s.rd pgWEIR (R.WEIR_ACTCFG_BURST a)

/-- F1 in force: the override or the fused value (R504, R516). -/
def State.weirF1 (s : State) : Nat :=
  let o := s.rd pgWEIR R.WEIR_FLOOROVR_F1
  if o ≠ 0 then o else s.part.f1

/-- The floors of a period of `p` ticks (R504). -/
def State.weirFloors (s : State) (p : Nat) : Nat × Nat := (s.weirF1 * p / 16000, s.part.fd1 * p / 16000)

/-- The sums of R514 for budgets given by activity: all but ACT 20, and the DRAM-bound ones. -/
def weirSums (f : Nat → Nat) : Nat × Nat :=
  (sumN (((List.range 24).filter (· ≠ 20)).map f), sumN (((List.range 24).filter weirDram).map f))

/-- The sum that exceeds its floor, if one does. -/
def weirOver (sums floors : Nat × Nat) : Option Nat :=
  if floors.1 < sums.1 then some sums.1 else if floors.2 < sums.2 then some sums.2 else none

/-- Whether an activity is throttled (R521, R522). -/
def State.actThrottled (s : State) (a : Nat) : Bool := s.weir.throttled && !weirRt a

/-- The effective budget of an activity (R521). -/
def State.effBudget (s : State) (a : Nat) : Nat :=
  if s.actThrottled a then s.budget a * atLeast1 (s.rd pgWEIR R.WEIR_THROT_SCALE) / 256 else s.budget a

/-- The reset values of WEIR_CTL and of every budget and burst take effect after a block reset (R704, R717). -/
def State.weirReset (s : State) : State :=
  if s.weir.resetDue then
    let keep := fun a : Nat => !(decide (pageOf a = pgWEIR) && decide (a < 2 ^ 24) && (a % 4096 == 0x40 || decide (0x100 ≤ a % 4096)))
    { s with regs := mfilter keep s.regs, weir := { s.weir with resetDue := false } }
  else s

/-- The settings pending at a period start apply if both sums hold; otherwise the set in force stays, staging keeps its
values and OVERSUB is set (R80 to R84, R514). -/
def State.weirApply (s : State) : State :=
  let p := s.dueWords pgWEIR .period
  if p.isEmpty then s.boundary pgWEIR .period
  else
    let t := s.applyWords p
    match weirOver (weirSums t.budget) (t.weirFloors t.weirPeriod) with
    | none =>
      let s := s.boundary pgWEIR .period
      s.setWeir { s.weir with overSet := false }
    | some n =>
      let st := p.foldl (fun m e => if (mfind m e.1).isSome then m else mput m e.1 e.2) s.staged
      let s := { s.takeDue pgWEIR .period with staged := st }
      (s.setWeir { s.weir with overSet := true }).raise pgWEIR 0 n

/-- Throttling begins or ends at a period start (R521); a request that changed in the same tick waits for the next start
(R524). -/
def State.weirThrottle (s : State) : State :=
  let want := s.therm.throttle
  if want = s.weir.throttled || decide (s.weir.start ≤ s.therm.throttleAt) then s
  else
    let s := (s.setWeir { s.weir with throttled := want }).wr pgWEIR R.WEIR_STAT_THROT (b2n want)
    if want then s.raise pgWEIR 2 (atLeast1 (s.rd pgWEIR R.WEIR_THROT_SCALE)) else s.raise pgWEIR 3

/-- Whether the ingest FIFO of an activity's lane holds data (R229). -/
def State.fifoHolds (s : State) (a : Nat) : Bool := inRun a 10 4 && !(s.lane (a - 10)).fifo.isEmpty

/-- The stalls of the period that ends are counted; a lane also stalls while its FIFO holds data behind a spent budget
(R229, R518, R519). -/
def State.weirStalls (s : State) : Nat → State
  | 0 => s
  | n + 1 =>
    let s := s.weirStalls n
    let x := s.act n
    if !(x.stalled || (x.level == 0 && s.fifoHolds n)) then s
    else
      let s := s.setAct n { x with stall := x.stall + 1, stalled := false }
      if weirRt n then (s.wr pgWEIR R.WEIR_STAT_RTSTALL 1).raise pgWEIR 1 n else s

/-- Banks and levels of the activities below `n` (R509). -/
def State.weirFill (s : State) : Nat → State
  | 0 => s
  | n + 1 =>
    let s := s.weirFill n
    let x := s.act n
    if n = 20 then s
    else
      let bank := if s.actThrottled n then x.bank else min (x.bank + x.level) (s.burst n)
      s.setAct n { x with bank := bank, level := s.effBudget n }

/-- WEIR_FLOOR, WEIR_DRAMFLOOR and WEIR_SUM follow the settings in force; spare and OVERSUB follow R509 and R716. -/
def State.weirStatus (s : State) : State :=
  let f := s.weirFloors s.weirPeriod
  let t := weirSums s.budget
  let s := (s.wr pgWEIR R.WEIR_FLOOR_TOKENS f.1).wr pgWEIR R.WEIR_DRAMFLOOR_TOKENS f.2
  let s := s.wr pgWEIR R.WEIR_SUM_TOKENS t.1
  let ovr := weirOver t f
  let spare := if ovr.isSome then 0 else f.1 - t.1
  let was := s.weir.overNow
  let s := (s.setWeir { s.weir with spare := spare, overNow := ovr.isSome }).wr pgWEIR R.WEIR_SPARE_TOKENS spare
  let s := match ovr with
    | some n => if was then s else s.raise pgWEIR 0 n
    | none => s
  s.wr pgWEIR R.WEIR_STAT_OVERSUB (b2n (s.weir.overSet || s.weir.overNow))

/-- WEIR_STAT.UNGUAR follows the override; its flag is set as it becomes 1 (R516). -/
def State.weirUnguar (s : State) : State :=
  let o := s.rd pgWEIR R.WEIR_FLOOROVR_F1
  let now_ := decide (s.part.f1 < o)
  let was := s.rdb pgWEIR R.WEIR_STAT_UNGUAR
  let s := s.wr pgWEIR R.WEIR_STAT_UNGUAR (b2n now_)
  if now_ && !was then s.raise pgWEIR 4 o else s

/-- The lowest WEIR_SPEED of the VCORE loop's interval (R671). -/
def State.setAvsMin (s : State) (v : Nat) : State := { s with avs := { s.avs with smin := min s.avs.smin v } }

/-- The Cascade speed measured in a period; sixteen low readings in a row are a fatal fabric error (R506). -/
def State.weirSpeed (s : State) (speed : Nat) : State :=
  let n := if speed < 256 then s.weir.slow + 1 else 0
  let s := ((s.setWeir { s.weir with slow := n }).setAvsMin speed).wr pgWEIR R.WEIR_SPEED_SPEED speed
  if n = 16 then s.enterSide .safe 8 else s

/-- A period starts at a tick (R509, R514, R516, R518, R519, R521, R716, R717). -/
def State.weirBegin (s : State) (at_ : Nat) : State :=
  let s := if s.weir.begun then (s.wr pgWEIR R.WEIR_STAT_RTSTALL 0).weirStalls 24 else s
  let s := s.setWeir { s.weir with start := at_, begun := true, sped := false }
  ((s.weirReset.weirApply.weirThrottle.weirUnguar).weirFill 24).weirStatus

/-- The periods that have gone by without a word: bank and level refill in each, and a lane whose budget is 0 stalls in
each (R229, R509). -/
def State.weirSkip (s : State) (k : Nat) : Nat → State
  | 0 => s
  | n + 1 =>
    let s := s.weirSkip k n
    let x := s.act n
    if n = 20 then s
    else
      let bank := if s.actThrottled n then x.bank else min (x.bank + k * x.level) (s.burst n)
      s.setAct n { x with bank := bank, stall := if x.level = 0 && s.fifoHolds n then x.stall + k else x.stall }

/-- The Weir at the present tick: the period starts up to it have taken place (R141, R717). -/
def State.weirPass (s : State) : State :=
  let p := s.weirPeriod
  let w := s.weir
  if w.begun && decide (s.now < w.start + p) then s
  else
    let s := s.weirBegin (if w.begun then w.start + p else s.now / p * p)
    let k := (s.now - s.weir.start) / s.weirPeriod
    if k = 0 then s
    else (s.weirSkip k 24).setWeir { s.weir with start := s.weir.start + k * s.weirPeriod }

/-- A waiting word of an activity is admitted, or keeps waiting (R510, R518); ACT 20 takes no tokens. Answers whether
it was admitted. -/
def State.weirAdmit (s : State) (a : Nat) : Bool × State :=
  let x := s.act a
  if a = 20 then (false, s)
  else if 0 < x.level then (true, s.setAct a { x with level := x.level - 1, admitted := x.admitted + 1 })
  else if 0 < x.bank ∧ 0 < s.weir.spare ∧ s.actThrottled a = false then
    let s := s.setWeir { s.weir with spare := s.weir.spare - 1 }
    (true, s.setAct a { x with bank := x.bank - 1, admitted := x.admitted + 1 })
  else (false, s.setAct a { x with stalled := true })

end Sys2Proof.Machine
end

