-- ==== Sys2Proof/Machine/DramOps.lean ====
section
/-!
DEFINITION. The DRAM controller (15): address mapping, queues and command slots, refresh, retraining, error
correction, freeze and release. Data moves in the DRAM store at the command that reads or writes it; the queues
hold addresses only (log entry 27).
-/
namespace Sys2Proof.Machine

/-! ### Address mapping (R527, R528) -/

/-- The parity of the address bits that a mask selects (R528). -/
def maskParity (mask pa : Nat) : Nat := popCount (Nat.land (pa / 64) mask) 29 % 2

/-- The mask registers in the order SC0 to SC2, BG0 to BG2, BA. -/
def mapFlds : List Fld :=
  [R.DRAM_MAPSC0_MASK, R.DRAM_MAPSC1_MASK, R.DRAM_MAPSC2_MASK, R.DRAM_MAPBG0_MASK, R.DRAM_MAPBG1_MASK,
   R.DRAM_MAPBG2_MASK, R.DRAM_MAPBA_MASK]

/-- One function of the address mapping. -/
def State.mapBit (s : State) (i pa : Nat) : Nat := maskParity (s.rd pgDRAM (nth R.DRAM_MAPBA_MASK mapFlds i)) pa

/-- The subchannel of an address. -/
def State.scOf (s : State) (pa : Nat) : Nat := s.mapBit 0 pa + 2 * s.mapBit 1 pa + 4 * s.mapBit 2 pa

/-- The bank of an address: bank group × 2 + bank. -/
def State.bankOf (s : State) (pa : Nat) : Nat :=
  2 * (s.mapBit 3 pa + 2 * s.mapBit 4 pa + 4 * s.mapBit 5 pa) + s.mapBit 6 pa

/-- The row of an address (R527). -/
def rowOf (pa : Nat) : Nat := bitsOf pa 19 16

/-- The home bits among the MASK bits (R527): PA bits 8, 9, 10, 15, 16, 17 and 18. -/
def homeBits : List Nat := [2, 3, 4, 9, 10, 11, 12]

/-- Whether a mask selects its own home bit and no other (R529). -/
def maskOk (i v : Nat) : Bool := (List.range 7).all fun k => bitOf v (nth 0 homeBits k) == decide (k = i)

/-- The regions that the controller reserves (R531). -/
def State.reservedRegions (s : State) : List (Nat × Nat) :=
  [s.delayRegion, (s.rd pgDRAM R.DRAM_RSV_BASE * 2 ^ 20, 2 ^ 20)]

/-! ### Subchannels -/

/-- A subchannel. -/
def State.sc (s : State) (n : Nat) : DramSc := mget {} s.dram.scs n

/-- Replaces the controller. -/
def State.setDram (s : State) (x : DramS) : State := { s with dram := x }

/-- DEBT and QDEPTH of a subchannel follow it. -/
def State.scRegs (s : State) (n : Nat) : State :=
  let x := s.sc n
  (s.wr (pgSC n) R.DRAM_SCSTAT_DEBT (min 7 x.debt)).wr (pgSC n) R.DRAM_SCSTAT_QDEPTH x.queue.length

/-- Replaces a subchannel. -/
def State.setSc (s : State) (n : Nat) (x : DramSc) : State :=
  (s.setDram { s.dram with scs := mset {} s.dram.scs n x }).scRegs n

/-- SCSTATE: 0 UNTRAINED, 1 TRAIN, 2 RUN, 3 PAUSE, 4 FROZEN. -/
def State.scState (s : State) (n : Nat) : Nat := s.rd (pgSC n) R.DRAM_SCSTAT_SCSTATE

/-- Writes SCSTATE. -/
def State.setScState (s : State) (n v : Nat) : State := s.wr (pgSC n) R.DRAM_SCSTAT_SCSTATE v

/-- Writes bit `n` of a field of eight subchannel bits. -/
def State.scBit (s : State) (f : Fld) (n : Nat) (v : Bool) : State :=
  s.wr pgDRAM f (setBits (s.rd pgDRAM f) n 1 (b2n v))

/-- Sets or clears DEGRADED of a subchannel. -/
def State.setDegraded (s : State) (n : Nat) (v : Bool) : State :=
  (s.wr (pgSC n) R.DRAM_SCSTAT_DEGRADED (b2n v)).scBit R.DRAM_STAT_DEGRADED n v

/-- Sets or clears HOT of a subchannel. -/
def State.setHot (s : State) (n : Nat) (v : Bool) : State :=
  (s.wr (pgSC n) R.DRAM_SCSTAT_HOT (b2n v)).scBit R.DRAM_STAT_HOT n v

/-- Sets or clears RECOV of a subchannel. -/
def State.setRecov (s : State) (n : Nat) (v : Bool) : State :=
  (s.wr (pgSC n) R.DRAM_SCSTAT_RECOV (b2n v)).scBit R.DRAM_STAT_RECOV n v

/-- Whether a subchannel is hot. -/
def State.scHot (s : State) (n : Nat) : Bool := s.rdb (pgSC n) R.DRAM_SCSTAT_HOT

/-- Whether a subchannel is in recovery. -/
def State.scRecov (s : State) (n : Nat) : Bool := s.rdb (pgSC n) R.DRAM_SCSTAT_RECOV

/-- Whether a subchannel is degraded. -/
def State.scDegraded (s : State) (n : Nat) : Bool := s.rdb (pgSC n) R.DRAM_SCSTAT_DEGRADED

/-- DEBTMAX; 0 acts as 1, above 4 as 4. -/
def State.debtMax (s : State) : Nat := clampN 1 4 (s.rd pgDRAM R.DRAM_REFCFG_DEBTMAX)

/-- Ticks of a number of nanoseconds. -/
def ns (n : Nat) : Nat := 16 * n

/-- The refresh interval of a subchannel (R539). -/
def State.refInterval (s : State) (n : Nat) : Nat := if s.scHot n then ns 1950 else ns 3900

/-- Whether the controller is frozen. -/
def State.frozenDram (s : State) : Bool := s.rdb pgDRAM R.DRAM_STAT_FROZEN

/-! ### Queues (R532 to R538) -/

/-- The aligned 256-byte block of an address. -/
def blockOf (pa : Nat) : Nat := pa / 256

/-- DRAM_PORTCFGn.VALUE; 0 acts as 1. -/
def State.portValue (s : State) (p : Nat) : Nat := atLeast1 (s.rd pgDRAM (R.DRAM_PORTCFG_VALUE p))

/-- A transaction joins the queue of its subchannel with its deadline, or waits at its port while the queue is full; a port
write discards a scrub write-back of its block, and a write-back behind a port write is not queued (R532, R536, R553). -/
def State.enqueue (s : State) (x : DramTxn) : State :=
  let n := s.scOf x.pa
  let c := s.sc n
  let x := { x with seq := s.dram.admits, deadline := x.admitAt + ns (s.portValue x.port) }
  let s := s.setDram { s.dram with admits := s.dram.admits + 1 }
  let same := fun y : DramTxn => decide (blockOf y.pa = blockOf x.pa)
  if x.port = 10 && x.write && c.queue.any (fun y => y.port ≠ 10 && y.write && same y) then s
  else
    let q := if x.port ≠ 10 && x.write then c.queue.filter fun y => !(y.port = 10 && y.write && same y) else c.queue
    let all := q ++ c.waits ++ [x]
    s.setSc n { c with queue := all.take 32, waits := all.drop 32 }

/-- The slack of a latency-target transaction in ticks (R536). -/
def DramTxn.slack (x : DramTxn) (at_ : Nat) : Int := (x.deadline : Int) - at_

/-- The place of a transaction in the order of R537; `wr` and `rd` are the fills of the delay-line feeder buffers by
bar, KiB (R535). -/
def State.txnClass (s : State) (x : DramTxn) (wr rd : List Nat) : Nat :=
  if x.port = 0 then (if s.portValue 0 < nth 0 wr x.bar then 2 else 6)
  else if x.port = 1 then (if nth 0 rd x.bar < s.portValue 1 then 2 else 6)
  else if 10 ≤ x.port then 9
  else
    let k := x.slack s.now
    let v : Int := (ns (s.portValue x.port) : Nat)
    if k ≤ 0 then 3 else if k * 4 < v then 4 else if k * 2 < v then 7 else 8

/-- Whether the row of a transaction is open. -/
def State.rowHit (s : State) (n : Nat) (x : DramTxn) : Bool := mfind (s.sc n).rows (s.bankOf x.pa) == some (rowOf x.pa)

/-- Whether an older transaction of the same port and block is ahead in the queue (R538). -/
def ahead (x : DramTxn) (older : List DramTxn) : Bool :=
  older.any fun y => decide (y.port = x.port) && decide (blockOf y.pa = blockOf x.pa)

/-- The best transaction of a queue: class, then an open row, then age (R537, R538). Answers its place and class. -/
def State.bestTxn (s : State) (n : Nat) (wr rd : List Nat) : List DramTxn → List DramTxn → Option (Nat × Nat) →
    Option (Nat × Nat)
  | _, [], best => best
  | older, x :: rest, best =>
    let key := 2 * s.txnClass x wr rd + b2n (!s.rowHit n x)
    let better := !ahead x older && (match best with | some (_, k) => decide (key < k) | none => true)
    s.bestTxn n wr rd (older ++ [x]) rest (if better then some (older.length, key) else best)

/-- Removes an element by place. -/
def dropNth {α : Type} : List α → Nat → List α
  | [], _ => []
  | _ :: t, 0 => t
  | a :: t, i + 1 => a :: dropNth t i

/-- A transaction completes: the counts of its port (DRAM items 16 to 31). -/
def State.txnDone (s : State) (x : DramTxn) : State :=
  let p : DramPort := mget {} s.dram.ports x.port
  let late := 2 ≤ x.port && x.port < 10 && decide (x.slack s.now < 0)
  let np : DramPort := { done := (p.done + 1) % 2 ^ 64, late := if late then (p.late + 1) % 2 ^ 32 else p.late,
                         wait := max p.wait ((s.now - x.admitAt) / 16) }
  s.setDram { s.dram with ports := mset {} s.dram.ports x.port np }

/-- Issues the transaction at a place of a queue (R533, R538, R553); the oldest that waits at a port takes its place. -/
def State.issue (s : State) (n i : Nat) : State :=
  let c := s.sc n
  match c.queue.drop i with
  | [] => s
  | x :: _ =>
    let q := dropNth c.queue i
    let q := if x.port ≠ 10 && x.write then q.filter fun y => !(y.port = 10 && y.write && decide (blockOf y.pa = blockOf x.pa)) else q
    let all := q ++ c.waits
    let b := s.bankOf x.pa
    let back := !x.write || x.rmw
    let s := s.setSc n { c with queue := all.take 32, waits := all.drop 32, rows := mput c.rows b (rowOf x.pa), used := mput c.used b s.now,
                                flight := if back then c.flight ++ [x] else c.flight }
    if back then s else s.txnDone x

/-- A read of the same port admitted before a read is still on its way. -/
def State.olderRead (s : State) (x : DramTxn) : Bool :=
  (List.range 8).any fun k => ((s.sc k).queue ++ (s.sc k).waits ++ (s.sc k).flight).any fun y =>
    !y.write && decide (y.port = x.port) && decide (y.seq < x.seq)

/-- Inserts a transaction by admission. -/
def bySeq (x : DramTxn) : List DramTxn → List DramTxn
  | [] => [x]
  | y :: t => if x.seq < y.seq then x :: y :: t else y :: bySeq x t

/-- A transaction in flight is over: a write is done; read data goes to its port in admission order (R538). -/
def State.flightOver (s : State) (x : DramTxn) : State :=
  if x.write then s.txnDone x
  else
    let back := bySeq x s.dram.back
    let s1 := s.setDram { s.dram with back := back.filter s.olderRead }
    State.each State.txnDone s1 (back.filter fun y => !s.olderRead y)

/-- Issues a refresh: the banks are precharged, the debt falls, and recovery ends at half of DEBTMAX (R533, R540,
R541). -/
def State.refresh (s : State) (n : Nat) (forced : Bool) : State :=
  let c := s.sc n
  let d := c.debt - 1
  let s := s.setSc n { c with debt := d, rows := [], busy := s.now + ns 195 }
  let s := if forced then s.inc (pgSC n) R.DRAM_SCCNT_FORCED else s
  if s.scRecov n && decide (d ≤ s.debtMax / 2) then s.setRecov n false else s

/-- A command slot of a subchannel (R537); refresh goes on in training and in a freeze, not in a pause (R543, R546). -/
def State.commandSlot (s : State) (n : Nat) (wr rd : List Nat) : State :=
  let c := s.sc n
  let st := s.scState n
  if st = 0 ∨ st = 3 ∨ s.now < c.busy then s
  else if s.scRecov n || decide (s.debtMax ≤ c.debt) then s.refresh n true
  else
    match (if st = 2 then s.bestTxn n wr rd [] c.queue none else none) with
    | some (i, key) => if 0 < c.debt ∧ 5 < key / 2 then s.refresh n false else s.issue n i
    | none => if 0 < c.debt then s.refresh n false else s

/-- A bank that has been idle for IDLE ns is precharged (R533). -/
def State.idlePrecharge (s : State) (n b : Nat) : State :=
  let c := s.sc n
  if (mfind c.rows b).isSome && decide (mget 0 c.used b + ns (atLeast1 (s.rd pgDRAM R.DRAM_CTL_IDLE)) ≤ s.now) then
    s.setSc n { c with rows := merase c.rows b }
  else s

/-! ### Refresh (R539 to R543) -/

/-- A refresh interval ends (R540, R543). -/
def State.refreshEnd (s : State) (n : Nat) : State :=
  let c := s.sc n
  if s.scState n = 0 ∨ s.now < c.intEnd then s
  else s.setSc n { c with debt := c.debt + 1, intEnd := c.intEnd + s.refInterval n }

/-- A temperature sample of a subchannel, 1/128 degC, or a sample of a faulty sensor, which counts as hot (R539,
R541, R542, R558, R618). -/
def State.scTemp (s : State) (n : Nat) (temp : Option Int) : State :=
  let s := match temp with | some t => s.wri (pgSC n) R.DRAM_SCTEMP_TEMP t | none => s
  let lim : Int := (s.rd pgDRAM R.DRAM_REFCFG_HOTLIM * 128 : Nat)
  let cool : Int := lim - (s.rd pgDRAM R.DRAM_REFCFG_HYST * 128 : Nat)
  let hot := match temp with | some t => decide (lim < t) | none => true
  let cold := match temp with | some t => decide (t < cool) | none => false
  let c := s.sc n
  if hot && !s.scHot n then
    let d := 2 * c.debt
    let enter := decide (s.debtMax ≤ d)
    let pause := s.scState n = 3
    let s := s.setHot n true
    let s := s.setSc n { c with debt := d, intEnd := s.now + (c.intEnd - s.now) / 2, recovAfter := enter && pause }
    let s := s.raise pgDRAM 5 n
    if enter then ((if pause then s else s.setRecov n true)).raise pgDRAM 7 d else s
  else if cold && s.scHot n then
    let s := s.setHot n false
    (s.setSc n { c with debt := (c.debt + 1) / 2, intEnd := s.now + 2 * (c.intEnd - s.now) }).raise pgDRAM 6 n
  else s

/-! ### Retraining (R545 to R550) -/

/-- Whether a pause of a subchannel may start now (R508, R545). -/
def State.pauseDue (s : State) (n : Nat) : Bool :=
  let gap := us (max 1000 (s.budget 20))
  let c := s.sc n
  s.scState n == 2 && !s.scRecov n && decide (c.debt < s.debtMax) && !s.frozenDram &&
  (match c.pauseAt with | some p => decide (p + gap ≤ s.weir.start) | none => true) &&
  (List.range 8).all fun k => decide (k = n) ||
    (match (s.sc k).pauseAt with | some p => decide (p + gap / 8 ≤ s.weir.start) | none => true)

/-- The pauses that start at a period start, in subchannel order (R545, R546). -/
def State.pauseStart (s : State) : Nat → State
  | 0 => s
  | n + 1 =>
    let s := s.pauseStart n
    if s.pauseDue n then
      let s := s.setSc n { s.sc n with pauseAt := some s.weir.start, rows := [] }
      (s.setScState n 3).incWrap (pgSC n) R.DRAM_SCCNT_PAUSES
    else s

/-- The period starts up to the present tick take place, with the pauses that the last of them starts (R141, R508, R545).
A period that no command of the block falls in starts no pause (log entry 86). -/
def State.weirRoll (s : State) : State :=
  let t := s.weirPass
  if t.weir.start = s.weir.start && s.weir.begun then t else t.pauseStart 8

/-- A period start with the speed measured (R506, R509). -/
def State.weirStart (s : State) (speed : Nat) : State :=
  let s := s.weirRoll
  if s.weir.sped then s else (s.setWeir { s.weir with sped := true }).weirSpeed speed

/-- A subchannel is left without a working setting (R548, R600). -/
def State.retrainFail (s : State) (n : Nat) : State :=
  let s := ((s.setDegraded n true).raise pgDRAM 4 n)
  if s.isActive then s.twinSendBoth (.heart (s.heart 3)) else s

/-- A step of a pause ends with the margins found, whether the pattern compared, and the new centre (R546 to R550). -/
def State.retrainDone (s : State) (n : Nat) (ok : Bool) (rd wr vref centre : Nat) : State :=
  if s.scState n ≠ 3 then s
  else
    let c := s.sc n
    let s := ((s.wr (pgSC n) R.DRAM_SCMARGIN_RD rd).wr (pgSC n) R.DRAM_SCMARGIN_WR wr).wr (pgSC n) R.DRAM_SCMARGIN_VREF vref
    let m := s.rd pgDRAM R.DRAM_RETRAIN_MINMARGIN
    let pass := ok && decide (m ≤ rd) && decide (m ≤ wr) && decide (m ≤ vref) &&
      decide (m ≤ s.rd (pgSC n) R.DRAM_SCMARGIN_CA)
    let moves := pass && !s.rdb (pgSC n) R.DRAM_TRNOVR_FIX
    let s := (s.setScState n 2).setSc n { c with
      step := if pass then (c.step + 1) % 4 else c.step, fails := if pass then 0 else c.fails + 1,
      centres := if moves then mset 0 c.centres c.step centre else c.centres, recovAfter := false }
    let s := if c.recovAfter then s.setRecov n true else s
    if pass then s
    else
      let s := s.inc (pgSC n) R.DRAM_SCCNT_RTFAIL
      let most := atLeast1 (s.rd pgDRAM R.DRAM_RETRAIN_RETRYN)
      if (s.sc n).fails = most || (decide (most < (s.sc n).fails) && !s.scDegraded n) then s.retrainFail n else s

/-! ### Errors, freeze and release (R551 to R558) -/

/-- The held entries of a subchannel by place: data not yet returned, what was in flight, then the queue (R555). -/
def State.heldList (s : State) (n : Nat) : List (Nat × DramTxn) :=
  ((s.dram.back.filter (fun x => s.scOf x.pa == n) ++ (s.sc n).flight ++ (s.sc n).queue).take 32).zipIdx.map fun e =>
    (n * 32 + e.2, e.1)

/-- Every queue entry is held (R555). -/
def State.holdQueues (s : State) : State := s.setDram { s.dram with heldQ := (List.range 8).flatMap s.heldList }

/-- A subchannel stops issuing transactions; a pause ends, and a recovery that waited for its end starts (R555, R558). -/
def State.freezeSc (s : State) (k : Nat) : State :=
  let c := s.sc k
  let s := if s.scState k = 3 && c.recovAfter then (s.setSc k { c with recovAfter := false }).setRecov k true else s
  s.setScState k (if s.scState k = 0 then 0 else 4)

/-- The controller freezes for an error on a subchannel: `data` tells the kind (R554, R555). -/
def State.freeze (s : State) (n : Nat) (data : Bool) : State :=
  let s := s.holdQueues
  let s := s.setDram { s.dram with frzSc := n, frzAt := s.now, training := false }
  let s := State.each State.freezeSc s (List.range 8)
  let s := (s.wr pgDRAM R.DRAM_STAT_FROZEN 1).wr pgDRAM R.DRAM_STAT_FRZCAUSE (if data then 1 else 2)
  (s.raise pgDRAM 1 n).enterSide .frozen (if data then 5 else 6)

/-- The address of a word of a transaction. -/
def wordAddr (x : DramTxn) (burst word : Nat) : Nat := x.pa / 64 * 64 + burst * 64 + word * 8

/-- The record of an error in a transaction (DRAM item 0). -/
def State.errRecord (s : State) (x : DramTxn) (burst word syndrome bits : Nat) : DramErr :=
  { pa := wordAddr x burst word, port := x.port, word := word, scrub := x.port = 10, syndrome := syndrome,
    bits := bits, tick := s.now }

/-- A correction: counted, recorded, flagged, and the burst queued for a write-back (R551). -/
def State.corrected (s : State) (x : DramTxn) (burst word syndrome : Nat) (two : Bool) : State :=
  let s := s.inc pgDRAM (if two then R.DRAM_ECCCNT_CORR2 else R.DRAM_ECCCNT_CORR1)
  let e := s.errRecord x burst word syndrome (if two then 2 else 1)
  let s := s.setDram { s.dram with corr := e }
  let s := { s with twin := { s.twin with health := { s.twin.health with dramCorr := satInc 8 s.twin.health.dramCorr } } }
  let s := s.raise pgDRAM 0 e.pa
  let wb : DramTxn := { pa := e.pa / 64 * 64, port := 10, bursts := 1, write := true, rmw := false, bar := 0, admitAt := s.now }
  let s := s.enqueue wb
  if s.frozenDram && decide (s.dram.frzAt = s.now) then s.holdQueues else s

/-- The entry of the lowest subchannel. -/
def lowest {α : Type} : List (Nat × α) → Option (Nat × α)
  | [] => none
  | x :: t => match lowest t with
    | some y => if y.1 < x.1 then some y else some x
    | none => some x

/-- An uncorrectable error of this tick that still waits: its subchannel and record. -/
def State.waitingData (s : State) : Instr → Option (Nat × DramErr)
  | .dramReadData t n (.uncorrectable b w syn) =>
    if t.toNat = s.now then (s.sc n.val).flight.head?.map fun x => (n.val, s.errRecord x b.val w.val syn.toNat 3) else none
  | _ => none

/-- A parity error of this tick that still waits: its subchannel and code. -/
def State.waitingParity (s : State) : Instr → Option (Nat × Nat)
  | .caParityError t n code => if t.toNat = s.now then some (n.val, code.toNat) else none
  | _ => none

/-- A step of a pause that ends in this tick and still waits ends before the freeze (R558). -/
def State.stepOfTick (s : State) : Instr → State
  | .retrainStepDone t n ok rd wr vref centre =>
    if t.toNat = s.now then s.retrainDone n.val ok rd.toNat wr.toNat vref.toNat centre.toNat else s
  | _ => s

/-- The controller freezes once for all the errors of the tick: the recorded data error is that of the lowest subchannel, as is
the parity error, and a data error goes before a parity error (R555, R558; log entry 92). -/
def State.freezeBy (s : State) (datas : List (Nat × DramErr)) (pars : List (Nat × Nat)) : State :=
  let s := s.pending.foldl State.stepOfTick s
  let pars := lowest (pars ++ s.pending.filterMap s.waitingParity)
  let s := match pars with
    | some (k, code) => s.setDram { s.dram with parity := (code, k, s.now) }
    | none => s
  match lowest (datas ++ s.pending.filterMap s.waitingData), pars with
  | some (k, r), _ => (s.setDram { s.dram with froze := r }).freeze k true
  | none, some (k, _) => s.freeze k false
  | none, none => s

/-- A data error in the tick of a freeze that was taken without it (R555, R558). -/
def State.lateData (s : State) (n : Nat) (r : DramErr) : State :=
  if s.rd pgDRAM R.DRAM_STAT_FRZCAUSE = 2 then
    let s := (s.setDram { s.dram with froze := r, frzSc := n }).wr pgDRAM R.DRAM_STAT_FRZCAUSE 1
    if s.dev.state = .frozen then s.change .frozen s.dev.role 5 else s
  else if n < s.dram.frzSc then s.setDram { s.dram with froze := r, frzSc := n }
  else s

/-- An uncorrectable error of a subchannel with its record (R554, R555, R558). -/
def State.dataError (s : State) (n : Nat) (r : DramErr) : State :=
  if s.frozenDram && !s.dram.training then (if s.dram.frzAt = s.now then s.lateData n r else s) else s.freezeBy [(n, r)] []

/-- The oldest read in flight of a subchannel returns its data, with what the code finds (R551, R554, R555, R558). An
uncorrectable error during release training lies in the training region; its port is a free value (log entry 98). -/
def State.readData (s : State) (n : Nat) (ecc : Sys2Proof.ReadEcc) : State :=
  let c := s.sc n
  match c.flight with
  | [] =>
    match ecc with
    | .uncorrectable b w syn =>
      if s.dram.training then
        let (f, s) := s.draw
        let x : DramTxn := { pa := s.rd pgDRAM R.DRAM_RSV_BASE * 2 ^ 20, port := (Config.freeWord f).toNat % 16, bursts := 4,
                             write := false, rmw := false, bar := 0, admitAt := s.now }
        s.dataError n (s.errRecord x b.val w.val syn.toNat 3)
      else s
    | _ => s
  | x :: rest =>
    let pass := fun s : State => if s.frozenDram then s else (s.setSc n { s.sc n with flight := rest }).flightOver x
    match ecc with
    | .clean => pass s
    | .corrected b w two syn => (pass s).corrected x b.val w.val syn.toNat two
    | .uncorrectable b w syn => s.dataError n (s.errRecord x b.val w.val syn.toNat 3)

/-- A command/address parity error of a subchannel (R554, R555, R558). -/
def State.parityError (s : State) (n code : Nat) : State :=
  if s.frozenDram && !s.dram.training then
    if s.dram.frzAt = s.now && !(s.dram.parity.2.2 == s.now && decide (s.dram.parity.2.1 ≤ n)) then
      s.setDram { s.dram with parity := (code, n, s.now) }
    else s
  else s.freezeBy [] [(n, code)]

/-- The first block at or after one that a subchannel owns, within `k` blocks. -/
def State.ownBlock (s : State) (n b : Nat) : Nat → Nat
  | 0 => b
  | k + 1 => if s.scOf (b % 2 ^ 27 * 256) = n then b % 2 ^ 27 else s.ownBlock n (b + 1) k

/-- A scrub read of the next block of a subchannel once its interval has passed (R552). -/
def State.scrubRead (s : State) (n : Nat) : State :=
  let c := s.sc n
  let int := us (atLeast1 (s.rd pgDRAM R.DRAM_SCRUB_INT)) / (if s.scDegraded n then 2 else 1)
  if !s.rdb pgDRAM R.DRAM_CTL_SCRUBEN || s.frozenDram || decide (s.scState n < 2) || decide (s.now < c.scrubAt + int) then s
  else
    let b := s.ownBlock n c.scrub 16
    let s := s.setSc n { c with scrub := (b + 1) % 2 ^ 27, scrubAt := s.now }
    s.enqueue { pa := b * 256, port := 10, bursts := 4, write := false, rmw := false, bar := 0, admitAt := s.now }

/-- Training begins on every subchannel, which from now on is refreshed (R543, R544). -/
def State.trainBegin (s : State) : State :=
  State.each (fun s n => (s.setSc n { s.sc n with intEnd := s.now + s.refInterval n }).setScState n 1) s (List.range 8)

/-- Training completes on every subchannel with the margins found (R544, R549). -/
def State.trained (s : State) (margins : List (BitVec 32)) : State :=
  let s := (List.range 8).foldl (fun s n =>
    let s := s.setSc n { s.sc n with fails := 0, step := 0, rows := [] }
    let s := (s.setScState n 2).setDegraded n false
    s.setWord (pgSC n * 4096 + 0x4C) (nth 0#32 margins n)) s
  s.wr pgDRAM R.DRAM_STAT_TRAINED 1

/-- Counts a record write that the freeze discarded against its basin (R557). -/
def State.lostRecord (s : State) (x : DramTxn) : State :=
  if x.port = 8 && x.write then
    match (List.range 32).find? fun b => s.basinOn b && decide (s.basinBase b ≤ x.pa) && decide (x.pa < s.basinBase b + s.basinSize b) with
    | some b => s.inc pgBASNW (R.BASN_RDROP b)
    | none => s
  else s

/-- The jobs are discarded without an end (R25, from FROZEN to READY). -/
def State.dropJobs (s : State) : State :=
  let s := if s.sb ≠ 0 then s.sbEnd else (s.stopReq false).revPermit false
  let s := (s.setJobs {}).setFire { s.fire with ending := false }
  let s := (List.range 8).foldl (fun s b => (s.setBarF b { s.barF b with stop := none, warm := none }).wr (pgHLTH b)
    R.HLTH_STAT_WARMING 0) s
  s.loopEnd.chkRelease.jobRegs.dcpAll

/-- RELEASE in FROZEN starts the training, discards the queues, disables the job-data and command basins and discards
the delay lines (R557). -/
def State.freezeRelease (s : State) : State :=
  if s.dev.state ≠ .frozen then s
  else
    let s := (List.range 8).foldl (fun s n => ((s.sc n).flight ++ (s.sc n).queue ++ (s.sc n).waits).foldl State.lostRecord s) s
    let s := (List.range 8).foldl (fun s n =>
      ((s.setSc n { s.sc n with queue := [], flight := [], waits := [], rows := [] }).setDegraded n false).setScState n 1) s
    let s := (List.range 24).foldl (fun s b => if s.basinDev b then s else s.wrSelf pgBASNW (R.BASN_RCFG_EN b) 0) s
    let s := (List.range 8).foldl (fun s b => s.wrSelf pgBASNW (R.BASN_RCFG_EN (24 + b))
      (if s.basinDev (24 + b) then b2n (s.basinOn (24 + b)) else 0)) s
    let s := (List.range 8).foldl (fun s b => s.setBarRast b { s.barRast b with mapped := [], present := [], seam := [] }) s
    let s := s.wr pgDRAM R.DRAM_STAT_TRAINED 0
    s.setDram { s.dram with heldQ := [], back := [], froze := {}, parity := (0, 0, 0), training := true }

/-- Release training completes, or fails on a subchannel (R25, R557, R583). DESIGN CHOICE (log entry 71): a device that R583
makes active while SLUICE_IN is high returns as standby. -/
def State.releaseDone (s : State) (fail : Option Nat) (margins : List (BitVec 32)) : State :=
  if !s.dram.training then s
  else
    let s := s.setDram { s.dram with training := false }
    match fail with
    | some n =>
      let s := (List.range 8).foldl (fun s k => s.setScState k 4) s
      s.raise pgDRAM 3 n
    | none =>
      let s := ((s.trained margins).wr pgDRAM R.DRAM_STAT_FROZEN 0).wr pgDRAM R.DRAM_STAT_FRZCAUSE 0
      let s := s.dropJobs.raise pgDRAM 2
      if s.dev.state ≠ .frozen then s
      else
        let role : Role := if !s.pairMode then .solo else if s.pairRole = .active && !s.twin.sluiceIn then .active else .standby
        let s := s.setTwinState (if role = .active then 3 else if role = .standby then 2 else 0)
        if role = .active then s.becomeActive .ready
        else s.change .ready role s.dev.cause

/-- A word of an activity waits for admission; one that completes a DRAM transaction sends it to its subchannel as it is
admitted (R510, R526, R532). -/
def State.admitWord (s : State) (a : Nat) (txn : Option DramReq) : State :=
  let (ok, s) := s.weirRoll.weirAdmit a
  match txn with
  | some r =>
    if ok then
      s.enqueue { pa := r.pa.toNat, port := r.port.val, bursts := r.len.val + 1, write := r.write, rmw := r.write && r.part,
                  bar := r.bar.val, admitAt := s.now }
    else s
  | none => s

/-- SRAM scrubbing finds an error (R21, R22). The manual names no flag for the event of a masked entry: it is one of the
flags that RAST leaves unnamed, which one a free value (log entry 57). -/
def State.sramScrub (s : State) (site : Sys2Proof.SramSite) (uncorrectable : Bool) : State :=
  if !uncorrectable then
    { s with twin := { s.twin with health := { s.twin.health with sramCorr := satInc 8 s.twin.health.sramCorr } } }
  else
    match site with
    | .nozzle b i =>
      let (d, s) := s.draw
      (s.nozApply b.val i.val 0xF00 0x300).raise (pgRAST b.val) (6 + (Config.freeWord d).toNat % 16) i.val
    | .other => s.enterSide .safe 8

end Sys2Proof.Machine
end

