-- ==== Sys2Proof/Machine/Sha.lean ====
section
/-!
DEFINITION. SHA-256 and HMAC-SHA-256, which the privileged handshake (02, M_h and M_d) and the digest of
OTP records (R93) use. FIPS 180-4 and RFC 2104 give the functions; the manual names them.
-/
namespace Sys2Proof.Machine

/-- Whether no number but 1 and itself divides a number. -/
def isPrime (n : Nat) : Bool := decide (2 ≤ n) && (List.range n).all fun d => decide (d < 2) || decide (n % d ≠ 0)

/-- The largest number below `x + 2 ^ n`, from `x` on, whose `k`-th power does not exceed `t`, bit by bit from the top. -/
def rootFrom (k t : Nat) : Nat → Nat → Nat
  | 0, x => x
  | n + 1, x => rootFrom k t n (if (x + 2 ^ n) ^ k ≤ t then x + 2 ^ n else x)

/-- The first 32 bits of the fractional part of the `k`-th root of a number below 343. -/
def rootBits (k p : Nat) : Nat := rootFrom k (p * 2 ^ (32 * k)) 35 0 % 2 ^ 32

/-- The round constants: the fractional parts of the cube roots of the primes up to 311, which are 64. -/
def shaK : List Nat := ((List.range 312).filter isPrime).map (rootBits 3)

/-- Rotation right of a 32-bit number. -/
def rotr32 (x n : Nat) : Nat := (x / 2 ^ n + x % 2 ^ n * 2 ^ (32 - n)) % 2 ^ 32

/-- Three numbers combined bit by bit without carry. -/
def xor3 (a b c : Nat) : Nat := Nat.xor (Nat.xor a b) c

/-- The eight working words; they start as the fractional parts of the square roots of the first eight primes. -/
structure Sha where
  a : Nat := rootBits 2 2
  b : Nat := rootBits 2 3
  c : Nat := rootBits 2 5
  d : Nat := rootBits 2 7
  e : Nat := rootBits 2 11
  f : Nat := rootBits 2 13
  g : Nat := rootBits 2 17
  h : Nat := rootBits 2 19
  deriving DecidableEq, Repr

/-- One round with its constant and message word. -/
def shaRound (s : Sha) (k w : Nat) : Sha :=
  let ch := Nat.xor (Nat.land s.e s.f) (Nat.land (2 ^ 32 - 1 - s.e) s.g)
  let t1 := s.h + xor3 (rotr32 s.e 6) (rotr32 s.e 11) (rotr32 s.e 25) + ch + k + w
  let maj := xor3 (Nat.land s.a s.b) (Nat.land s.a s.c) (Nat.land s.b s.c)
  let t2 := xor3 (rotr32 s.a 2) (rotr32 s.a 13) (rotr32 s.a 22) + maj
  { a := (t1 + t2) % 2 ^ 32, b := s.a, c := s.b, d := s.c, e := (s.d + t1) % 2 ^ 32, f := s.e, g := s.f,
    h := s.g }

/-- The rounds over the constants; the window holds the last 16 message words, oldest first. -/
def shaRounds : Sha → List Nat → List Nat → Sha
  | s, _, [] => s
  | s, ws, k :: ks =>
    let w := nth 0 ws 0
    let w1 := nth 0 ws 1
    let w14 := nth 0 ws 14
    let s0 := xor3 (rotr32 w1 7) (rotr32 w1 18) (w1 / 2 ^ 3)
    let s1 := xor3 (rotr32 w14 17) (rotr32 w14 19) (w14 / 2 ^ 10)
    shaRounds (shaRound s k w) (ws.drop 1 ++ [(w + s0 + nth 0 ws 9 + s1) % 2 ^ 32]) ks

/-- The 32-bit words of a block. -/
def beWords : List Byte → Nat → List Nat
  | _, 0 => []
  | bs, n + 1 => beNat (bs.take 4) :: beWords (bs.drop 4) n

/-- One block of 64 bytes. -/
def shaBlock (s : Sha) (bs : List Byte) : Sha :=
  let r := shaRounds s (beWords bs 16) shaK
  let add := fun x y => (x + y) % 2 ^ 32
  { a := add s.a r.a, b := add s.b r.b, c := add s.c r.c, d := add s.d r.d, e := add s.e r.e,
    f := add s.f r.f, g := add s.g r.g, h := add s.h r.h }

/-- `n` blocks. -/
def shaBlocks : Sha → List Byte → Nat → Sha
  | s, _, 0 => s
  | s, bs, n + 1 => shaBlocks (shaBlock s (bs.take 64)) (bs.drop 64) n

/-- SHA-256 of a list of bytes. -/
def sha256 (bs : List Byte) : List Byte :=
  let n := (bs.length + 9 + 63) / 64
  let m := bs ++ [0x80#8] ++ zeros (64 * n - bs.length - 9) ++ beBytes (8 * bs.length) 8
  let s := shaBlocks {} m n
  beBytes s.a 4 ++ beBytes s.b 4 ++ beBytes s.c 4 ++ beBytes s.d 4 ++ beBytes s.e 4 ++ beBytes s.f 4 ++
    beBytes s.g 4 ++ beBytes s.h 4

/-- HMAC-SHA-256 with a key of 32 bytes. -/
def hmac256 (key msg : List Byte) : List Byte :=
  let k := padTo key 64
  let inner := sha256 (k.map (· ^^^ 0x36#8) ++ msg)
  sha256 (k.map (· ^^^ 0x5c#8) ++ inner)

end Sys2Proof.Machine
end

