-- ==== Sys2Proof/Machine/CamOps.lean ====
section
/-!
DEFINITION. Camera ports and the image pipeline (12): triggers and exposure, lines and frames, line stores,
the pipeline stages, raw taps, tables and statistics windows.
-/
namespace Sys2Proof.Machine

/-- A camera port. -/
def State.camP (s : State) (p : Nat) : CamPort := mget {} s.cam.ports p

/-- Replaces a camera port; CAM_PSTAT follows. -/
def State.setCamP (s : State) (p : Nat) (x : CamPort) : State :=
  let s := { s with cam := { s.cam with ports := mset {} s.cam.ports p x } }
  let n := (x.store.filter fun l => !l.dropped).length
  (s.wr (pgCAMP p) R.CAM_PSTAT_STORED (min 255 n)).wr (pgCAMP p) R.CAM_PSTAT_FRAMELO (x.frames - 1)

/-- PSTATE: 0 OFF, 1 IDLE, 2 FRAME. -/
def State.pState (s : State) (p : Nat) : Nat := s.rd (pgCAMP p) R.CAM_PSTAT_PSTATE

/-- Writes PSTATE. -/
def State.setPState (s : State) (p v : Nat) : State := s.wr (pgCAMP p) R.CAM_PSTAT_PSTATE v

/-- FMT; 3 acts as 0. -/
def State.camFmt (s : State) (p : Nat) : Nat := s.rd (pgCAMP p) R.CAM_PCFG_FMT % 3

/-- FRMODE is 1. -/
def State.frMode (s : State) (p : Nat) : Bool := s.rdb (pgCAMP p) R.CAM_PCFG_FRMODE

/-- WIDTH: 1 to 16,384 pixels, which is also the limit of 49,152 store bytes. -/
def State.camWidth (s : State) (p : Nat) : Nat := clampN 1 16384 (s.rd (pgCAMP p) R.CAM_WIDTH_WIDTH)

/-- FRLINES; 0 acts as 1. -/
def State.frLines (s : State) (p : Nat) : Nat := atLeast1 (s.rd (pgCAMP p) R.CAM_WIDTH_FRLINES)

/-- EXP; 0 acts as 1. -/
def State.camExp (s : State) (p : Nat) : Nat := atLeast1 (s.rd (pgCAMP p) R.CAM_EXP_EXP)

/-- EXPMODE. -/
def State.camMode (s : State) (p : Nat) : Bool := s.rdb (pgCAMP p) R.CAM_TRIG_EXPMODE

/-- X_c now in 1/256 um (R452). -/
def State.camX (s : State) (p : Nat) : Int :=
  let x0 := s.x0At s.now
  to256 (x0 - s.rdi (pgCAMP p) R.CAM_DIST * 65536 + (s.stretchAt x0 * s.rdi (pgCAMP p) R.CAM_K).fdiv 1000000000)

/-! ### Enable (R450, R451, R453) -/

/-- A port is enabled: frames count from 0, and positions up to the present one count as triggered (log entry 30). -/
def State.camEnable (s : State) (p : Nat) : State :=
  let old := s.camP p
  let s := s.setCamP p { top := s.camX p, copy := old.copy, pend := old.pend }
  (s.setPState p 1).wr (pgCAMP p) R.CAM_PSTAT_PCLKOK 1

/-- A port is disabled. -/
def State.camDisable (s : State) (p : Nat) : State :=
  let old := s.camP p
  let s := s.setCamP p { copy := old.copy, pend := old.pend }
  (s.setPState p 0).wr (pgCAMP p) R.CAM_PSTAT_PCLKOK 0

/-! ### Triggers (R453 to R459, R476) -/

/-- TMODE. -/
def State.camTMode (s : State) (p : Nat) : Nat := s.rd (pgCAMP p) R.CAM_TRIG_TMODE

/-- Whether the trigger pulse of a port is on its pin: the role drives it and no side state stops it (R476, R477). -/
def State.camDrives (s : State) : Bool :=
  (s.dev.role == .active || s.dev.role == .solo) &&
  !(s.dev.state == .fenced || s.dev.state == .frozen || s.dev.state == .safe)

/-- CAMx_TRIG as driven; none while the device does not drive it. -/
def State.camTrigPin (s : State) (p : Nat) : Option Bool :=
  if s.camDrives then some ((s.camP p).pulse != s.rdb (pgCAMP p) R.CAM_TRIG_TINV) else none

/-- The position of the next trigger in TMODE 1: the lowest multiple of PITCH above every position triggered. -/
def State.nextPitch (s : State) (p : Nat) : Int :=
  let pitch : Int := (16 * atLeast1 (s.rd (pgCAMP p) R.CAM_PITCH_PITCH) : Nat)
  ((s.camP p).top.fdiv pitch + 1) * pitch

/-- Whether a trigger that falls due is skipped (R456). -/
def State.camBusy (s : State) (p : Nat) : Bool :=
  let c := s.camP p
  decide (0 < c.pulseEnd) && decide (s.now < c.pulseEnd + 1600 * s.rd (pgCAMP p) R.CAM_TRIG_GAP)

/-- Whether the next trigger is the first of a frame (R458). -/
def State.firstTrigger (s : State) (p : Nat) : Bool :=
  if s.frMode p then decide ((s.camP p).issued % s.frLines p = 0) else (s.camP p).newFrame

/-- Issues a trigger at a position, or skips it (R454 to R459); the position counts as triggered either way (R453,
R456). -/
def State.issueTrigger (s : State) (p : Nat) (pos : Int) : State :=
  let c := { s.camP p with top := max (s.camP p).top pos }
  if s.camBusy p then
    ((s.setCamP p c).inc (pgCAMP p) R.CAM_TRIGCNT_SKIP).raiseI (pgCAMP p) 4 (pos.fdiv 256)
  else
    let old := c.expAt == some s.now
    let c1 := if s.firstTrigger p then
        { c with exp := if old then c.oldExp else s.camExp p, mode := if old then c.oldMode else s.camMode p, first := s.now }
      else c
    let t : CamTrig := { tick := s.now, pos := pos, exp := c1.exp, mode := c1.mode, first := c1.first }
    let ts := c1.trigs ++ [t]
    s.setCamP p { c1 with trigs := ts.drop (ts.length - 64), pulse := true, pulseEnd := s.now + 160 * c1.exp,
                          issued := c1.issued + 1, newFrame := false }

/-- A position or time trigger of a port, if one is due (R453, R456). -/
def State.camTrigger (s : State) (p : Nat) : State :=
  if s.pState p = 0 then s
  else if s.camTMode p = 1 then
    let x := s.nextPitch p
    if s.camX p < x || s.pos.track.reverse || !s.pos.track.valid then s
    else s.issueTrigger p x
  else if s.camTMode p = 2 then
    if s.now % (160 * atLeast1 (s.rd (pgCAMP p) R.CAM_PERIOD_PERIOD)) = 0 && (s.camP p).due != some s.now then
      (s.setCamP p { s.camP p with due := some s.now }).issueTrigger p (s.camX p)
    else s
  else s

/-- CAM_SWTRIG.GO: one trigger in TMODE 3, ignored otherwise (R478). -/
def State.softTrigger (s : State) (p : Nat) : State :=
  if s.pState p ≠ 0 ∧ s.camTMode p = 3 then s.issueTrigger p (s.camX p) else s

/-- The trigger pulse ends (R455). -/
def State.pulseOver (s : State) (p : Nat) : State :=
  let c := s.camP p
  if c.pulse && decide (c.pulseEnd ≤ s.now) then s.setCamP p { c with pulse := false } else s

/-! ### Tables (R465, R466) -/

/-- The decimal digits of a number, less one. -/
def log10 : Nat → Nat → Nat
  | 0, _ => 0
  | k + 1, n => if n < 10 then 0 else log10 k (n / 10) + 1

/-- TONE_c at reset: min(4,095, round(−1,000 × log10(max(i, 1) ÷ 4,095))). -/
def toneReset (i : Nat) : Nat := (log10 7400 (4095 ^ 2000 / (atLeast1 i) ^ 2000) + 1) / 2

/-- The number of entries of a table: 0 defect map, 1 to 3 S_c, 4 to 6 TONE_c. -/
def camTableLen (t : Nat) : Nat := if t = 0 then 512 else if t ≤ 3 then 16384 else 4096

/-- The reset value of a table entry. -/
def camTableReset (t i : Nat) : Nat := if t = 0 then 0xFFFF else if t ≤ 3 then 4096 else toneReset i

/-- The key of a table entry. -/
def camTableKey (p : Nat) (copy : Bool) (t i : Nat) : Nat := ((p * 2 + b2n copy) * 8 + t) * 16384 + i

/-- A table entry of a copy. -/
def State.camTable (s : State) (p : Nat) (copy : Bool) (t i : Nat) : Nat :=
  (mfind s.cam.tables (camTableKey p copy t i)).getD (camTableReset t i)

/-- Writes a table entry of the inactive copy. -/
def State.setCamTable (s : State) (p t i v : Nat) : State :=
  let k := camTableKey p (!(s.camP p).copy) t i
  let m := if v = camTableReset t i then merase s.cam.tables k else mput s.cam.tables k v
  { s with cam := { s.cam with tables := m } }

/-- The columns of a defect map, up to its end mark. -/
def State.defectMap (s : State) (p : Nat) (copy : Bool) : List Nat :=
  ((List.range 512).map (s.camTable p copy 0)).takeWhile (· ≠ 0xFFFF)

/-- Whether a list rises strictly. -/
def ascending : List Nat → Bool
  | a :: b :: t => decide (a < b) && ascending (b :: t)
  | _ => true

/-- A swap takes effect at a frame start (R465, R466). -/
def State.tableSwap (s : State) (p : Nat) : State :=
  let c := s.camP p
  if !c.pend then s
  else
    let ok := ascending (s.defectMap p (!c.copy))
    let s := s.setCamP p { c with pend := false, copy := if ok then !c.copy else c.copy }
    let s := s.wr pgCAMI (if p = 0 then R.CAM_TBLSWAP_PENDA else R.CAM_TBLSWAP_PENDB) 0
    s.raise pgCAMI (if ok then 0 else 1) p

/-- CAM_TBLSWAP requests a swap of a port (R465). -/
def State.askSwap (s : State) (p : Nat) : State :=
  (s.setCamP p { s.camP p with pend := true }).wr pgCAMI (if p = 0 then R.CAM_TBLSWAP_PENDA else R.CAM_TBLSWAP_PENDB) 1

/-! ### Frames and lines (R447 to R450, R457, R462) -/

/-- Whether an address of the pipeline page lies in the context of a port. -/
def inContext (p addr : Nat) : Bool := inRun addr (pgCAMI * 4096 + 0x40 + 0x40 * p) 0x40

/-- The FRAME boundary of a port on the pipeline page: values of the port's context that wait for it, and a committed
set that awaits FRAME (R79 to R84, 12). -/
def State.contextBoundary (s : State) (p : Nat) : State :=
  let other := s.waiting.filter fun e => waitsFor pgCAMI .frame e && !inContext p e.1
  let s1 := ({ s with waiting := s.waiting.filter fun e => !(waitsFor pgCAMI .frame e && !inContext p e.1) }).boundary pgCAMI .frame
  { s1 with waiting := other.foldl (fun m e => mput m e.1 e.2) s1.waiting }

/-- The FRAME boundary of a port on its page and in its context of the pipeline page (R79, R450). -/
def State.frameBoundary (s : State) (p : Nat) : State := (s.boundary (pgCAMP p) .frame).contextBoundary p

/-- A frame opens: its number, the settings that waited for FRAME, the exposure of its first trigger, a table swap
(R450, R458, R465). -/
def State.openFrame (s : State) (p : Nat) : State :=
  let n := (s.camP p).frames
  let was := (s.camExp p, s.camMode p)
  let s := s.frameBoundary p
  let new := (s.camExp p, s.camMode p)
  let c := s.camP p
  let c := { c with frames := n + 1, line := 0 }
  let c := if was = new then c else { c with oldExp := was.1, oldMode := was.2, expAt := some s.now }
  let c := match c.trigs with
    | t :: _ => { c with frameExp := t.exp, frameMode := t.mode, frameFirst := t.first }
    | [] => { c with frameExp := c.exp, frameMode := c.mode, frameFirst := c.first }
  let s := (s.setCamP p c).setPState p 2
  let s := (s.raise (pgCAMP p) 0 n).tableSwap p
  if was = new then s else s.raise (pgCAMP p) 6 n

/-- A camera frame starts (R450). A trigger due at the tick at which TMODE changes is issued under the old TMODE
first (R478). -/
def State.frameStart (s : State) (p : Nat) : State :=
  if s.pState p ≠ 1 then s
  else if s.camTMode p = (s.frameBoundary p).camTMode p then s.openFrame p
  else
    let s := s.camTrigger p
    (s.setCamP p { s.camP p with due := some s.now }).openFrame p

/-- The frame in progress ends. -/
def State.frameOver (s : State) (p : Nat) : State :=
  if s.pState p = 2 then s.setPState p 1 else s

/-- FV becomes inactive in FRMODE 0: the frame ends and the next trigger is the first of a frame (R449, R458). -/
def State.frameEnd (s : State) (p : Nat) : State :=
  if s.pState p = 0 || s.frMode p then s
  else
    let s := s.frameOver p
    s.setCamP p { s.camP p with newFrame := true }

/-- The pixel clock is lost (R451). -/
def State.pclkLoss (s : State) (p : Nat) : State :=
  if s.pState p ≠ 0 && s.rdb (pgCAMP p) R.CAM_PSTAT_PCLKOK then
    ((s.frameOver p).wr (pgCAMP p) R.CAM_PSTAT_PCLKOK 0).raise (pgCAMP p) 5
  else s

/-- The pixel clock returns. -/
def State.pclkReturn (s : State) (p : Nat) : State :=
  if s.pState p ≠ 0 then s.wr (pgCAMP p) R.CAM_PSTAT_PCLKOK 1 else s

/-- The pixels of a cycle (R447): 24 bits for RGB, 12 bits each for monochrome. -/
def cyclePixels (fmt : Nat) (c : Sys2Proof.CamCycle) : List Nat :=
  let d := c.d.toNat
  if fmt = 1 then [bitsOf d 0 12, bitsOf d 12 12] else if fmt = 2 then [bitsOf d 0 12] else [d]

/-- The store bytes of a line (R447). -/
def storeBytes (fmt width : Nat) : Nat := if fmt = 0 then 3 * width else (3 * width + 1) / 2

/-- Whether FV is active in a cycle. -/
def State.fvActive (s : State) (p : Nat) (c : Sys2Proof.CamCycle) : Bool := c.fv != s.rdb (pgCAMP p) R.CAM_PCFG_FVINV

/-- Whether a cycle carries pixels (R447). -/
def State.cycleOn (s : State) (p : Nat) (c : Sys2Proof.CamCycle) : Bool :=
  (s.frMode p || s.fvActive p c) &&
  (!s.rdb (pgCAMP p) R.CAM_PCFG_DVEN || c.dv != s.rdb (pgCAMP p) R.CAM_PCFG_DVINV)

/-- A complete line takes its trigger and enters the line store, or is dropped for space (R457, R462). -/
def State.storeLine (s : State) (p : Nat) (pixels : List Nat) : State :=
  let c := s.camP p
  let fmt := s.camFmt p
  let bytes := storeBytes fmt pixels.length
  let room := decide (sumN (c.store.map CamLine.bytes) + bytes ≤ 2 ^ 20)
  let l : CamLine := { frame := c.frames - 1, line := c.line, fmt := fmt, pixels := if room then pixels else [],
                       bytes := if room then bytes else 0, trig := c.trigs.head?, dropped := !room,
                       exp := c.frameExp, mode := c.frameMode }
  let s := s.setCamP p { c with store := c.store ++ [l], trigs := c.trigs.drop 1, line := c.line + 1 }
  let s :=
    if !room then (s.inc (pgCAMP p) R.CAM_DROP_LINES).raise (pgCAMP p) 1 (l.frame * 65536 + l.line)
    else if c.trigs.isEmpty then (s.inc (pgCAMP p) R.CAM_TRIGCNT_UNTRIG).raise (pgCAMP p) 7 l.frame
    else s
  if s.frMode p && decide (s.frLines p ≤ c.line + 1) then s.frameOver p else s

/-- A camera line ends at LV (R447 to R449, R457, R462). -/
def State.lineComplete (s : State) (p : Nat) (cycles : List Sys2Proof.CamCycle) : State :=
  if s.pState p = 0 then s
  else if !s.frMode p && !(cycles.head?.any (s.fvActive p)) then
    (s.inc (pgCAMP p) R.CAM_ERR_PROTO).raise (pgCAMP p) 2
  else
    let px := (cycles.filter (s.cycleOn p)).flatMap (cyclePixels (s.camFmt p))
    if px.length ≠ s.camWidth p then (s.inc (pgCAMP p) R.CAM_ERR_LENERR).raise (pgCAMP p) 3 px.length
    else if s.pState p = 2 then s.storeLine p px
    else s

/-! ### Pipeline stages (R464) -/

/-- Whether a stage is bypassed. -/
def State.bypass (s : State) (p i : Nat) : Bool := bitOf (s.rd pgCAMI (R.CAM_PCTL_BYP p)) i

/-- A value after a stage. -/
def clamp12 (v : Int) : Nat := (clampI 0 4095 v).toNat

/-- Stage 1, black level. -/
def State.stage1 (s : State) (p c v : Nat) : Nat :=
  let b := s.rd pgCAMI (if c = 0 then R.CAM_BLACK_B0 p else if c = 1 then R.CAM_BLACK_B1 p else R.CAM_BLACK_B2 p)
  if s.bypass p 0 then v else clamp12 ((v : Int) - b)

/-- Stage 2, defective pixels of one channel, on the values after stage 1. -/
def State.stage2 (s : State) (p : Nat) (vs : List Nat) : List Nat :=
  if s.bypass p 1 then vs
  else
    let m := s.defectMap p (s.camP p).copy
    let good := fun (i : Int) => decide (0 ≤ i) && decide (i < vs.length) && !m.contains i.toNat
    (List.range vs.length).map fun i =>
      if !m.contains i then nth 0 vs i
      else
        match good ((i : Int) - 1), good (i + 1) with
        | true, true => (nth 0 vs (i - 1) + nth 0 vs (i + 1)) / 2
        | true, false => nth 0 vs (i - 1)
        | false, true => nth 0 vs (i + 1)
        | false, false => 0

/-- Stages 3 and 4, lens shading and white balance. -/
def State.stage34 (s : State) (p c i v : Nat) : Nat :=
  let v := if s.bypass p 2 then v else min 4095 (v * s.camTable p (s.camP p).copy (1 + c) i / 4096)
  let wb := s.rd pgCAMI (if c = 0 then R.CAM_WB01_WB0 p else if c = 1 then R.CAM_WB01_WB1 p else R.CAM_WB2_WB2 p)
  if s.bypass p 3 then v else min 4095 (v * wb / 4096)

/-- A coefficient M_{c,k} of the colour matrix, signed. -/
def State.matrix (s : State) (p i : Nat) : Int :=
  let lo := [R.CAM_MAT0_LO p, R.CAM_MAT1_LO p, R.CAM_MAT2_LO p, R.CAM_MAT3_LO p, R.CAM_MAT4_LO p]
  let hi := [R.CAM_MAT0_HI p, R.CAM_MAT1_HI p, R.CAM_MAT2_HI p, R.CAM_MAT3_HI p]
  s.rdi pgCAMI (if i % 2 = 0 then nth (R.CAM_MAT0_LO p) lo (i / 2) else nth (R.CAM_MAT0_HI p) hi (i / 2))

/-- Stage 5, the colour matrix on the channels of a pixel; not for monochrome. -/
def State.stage5 (s : State) (p : Nat) (v : List Nat) : List Nat :=
  if s.bypass p 4 || v.length ≠ 3 then v
  else (List.range 3).map fun c =>
    clamp12 ((sumI ((List.range 3).map fun k => s.matrix p (3 * c + k) * ((nth 0 v k : Nat) : Int))).fdiv 4096)

/-- Stage 6, the tone curve. -/
def State.stage6 (s : State) (p c v : Nat) : Nat :=
  if s.bypass p 5 then v else min 4095 (s.camTable p (s.camP p).copy (4 + c) v)

/-- The channels of a pixel as they enter the pipeline. -/
def pixelChannels (fmt px : Nat) : List Nat :=
  if fmt = 0 then [bitsOf px 16 8 * 16, bitsOf px 8 8 * 16, bitsOf px 0 8 * 16] else [px]

/-- The values of a line after stage 4, by pixel. -/
def State.afterBalance (s : State) (p : Nat) (l : CamLine) : List (List Nat) :=
  let chans := l.pixels.map (pixelChannels l.fmt)
  let nc := if l.fmt = 0 then 3 else 1
  let fixed := (List.range nc).map fun c => s.stage2 p (chans.map fun v => s.stage1 p c (nth 0 v c))
  (List.range l.pixels.length).map fun i => (List.range nc).map fun c => s.stage34 p c i (nth 0 (nth [] fixed c) i)

/-- The values of a line after stage 6, by pixel. -/
def State.afterTone (s : State) (p : Nat) (px : List (List Nat)) : List (List Nat) :=
  px.map fun v => let m := s.stage5 p v; (List.range m.length).map fun c => s.stage6 p c (nth 0 m c)

/-! ### Raw taps (R467 to R469) -/

/-- The store format of pixels: 24 or 12 bits each, little-endian (log entry 31). -/
def storeForm (fmt : Nat) : List Nat → List Byte
  | [] => []
  | [a] => if fmt = 0 then leBytes a 3 else leBytes a 2
  | a :: b :: t => if fmt = 0 then leBytes a 3 ++ storeForm fmt (b :: t) else leBytes (a + b * 4096) 3 ++ storeForm fmt t

/-- Bytes padded to a multiple of 8. -/
def pad8 (bs : List Byte) : List Byte := padTo bs ((bs.length + 7) / 8 * 8)

/-- The header of a tap record (R468). -/
def tapHeader (p point : Nat) (l : CamLine) : List Byte :=
  let b := leBytes ((l.trig.map CamTrig.tick).getD 0) 10 ++
    leBytes (p + point * 2 + b2n l.trig.isNone * 8 + l.fmt * 16) 1 ++ zeros 1 ++ leBytes l.frame 4 ++ leBytes l.line 2 ++
    leBytes l.pixels.length 2 ++ leBytes (uns 64 ((l.trig.map CamTrig.pos).getD 0)) 8
  b ++ leBytes (crc32c b) 4

/-- The tap of a line (R467, R469). -/
def State.camTap (s : State) (p : Nat) (l : CamLine) (mid out : List (List Nat)) : State :=
  let point := s.rd (pgCAMP p) R.CAM_TAP_POINT
  let c := s.camP p
  let s := s.setCamP p { c with taps := c.taps + 1 }
  if point = 0 || c.taps % 2 ^ s.rd (pgCAMP p) R.CAM_TAP_DEC ≠ 0 then s
  else
    let wide := fun (px : List (List Nat)) => px.flatMap fun v => v.flatMap fun x => leBytes x 2
    let data := if point = 1 then pad8 (storeForm l.fmt l.pixels) else wide (if point = 2 then mid else out)
    let bs := tapHeader p point l ++ data
    let b := s.rd (pgCAMP p) R.CAM_TAP_BASIN
    if s.canProduce b bs.length then (s.append b bs).tap 8 p bs true true none
    else s.inc (pgCAMP p) R.CAM_DROP_TAP

/-! ### Statistics windows (R470 to R475) -/

/-- A statistics window. -/
def State.camWin (s : State) (w : Nat) : CamWin := mget {} s.cam.wins w

/-- Replaces a statistics window. -/
def State.setCamWin (s : State) (w : Nat) (x : CamWin) : State := { s with cam := { s.cam with wins := mset {} s.cam.wins w x } }

/-- The position of the end of an instance. -/
def CamWin.endOf (x : CamWin) (k : Nat) : Int := x.s + ((k * x.rep + x.len) * 256 : Nat)

/-- The instances of a window that contain a position (R470). -/
def CamWin.instancesAt (x : CamWin) (pos : Int) : List Nat :=
  let d := pos - x.s
  if d < 0 then []
  else
    let n := d.toNat
    if x.rep = 0 then (if n < x.len * 256 then [0] else [])
    else
      let top := n / (x.rep * 256)
      ((List.range (x.len / x.rep + 1)).filterMap fun i => if i ≤ top ∧ n < (top - i) * x.rep * 256 + x.len * 256 then some (top - i) else none).reverse

/-- The job line index of a position in 2^-12 line (R474). -/
def State.posLine (s : State) (pos : Int) : Int :=
  match s.jobs.cur with
  | some j => ellOf j (pos * 256)
  | none => -(2 ^ 63)

/-- The statistics record of an instance (R473). -/
def State.statRecord (s : State) (w : Nat) (i : CamInst) : List Byte :=
  let b := leBytes i.tick 10 ++ leBytes w 1 ++
    leBytes (s.rd pgCAMS (R.CAM_WIN_PORT w) + b2n i.isPartial * 2 + b2n i.dropped * 4 +
      s.rd pgCAMS (R.CAM_WIN_LOOP w) * 8 + b2n i.mode * 16) 1 ++
    leBytes i.frame 4 ++ leBytes i.exp 4 ++ leBytes i.lines 2 ++ leBytes i.cells.length 2 ++
    leBytes (uns 64 (s.posLine i.posFirst)) 8 ++
    (i.cells.flatMap fun c => leBytes (nth 0 c 0) 4 ++ leBytes (nth 0 c 1) 4 ++ leBytes (nth 0 c 2) 4 ++
      leBytes (nth 0 c 3) 4) ++
    leBytes (uns 64 (s.posLine i.posLast)) 8 ++ zeros 4
  b ++ leBytes (crc32c b) 4

/-- The density sums of a cell saturate at 32 bits (R473). -/
def satCell (c : List Nat) : List Nat := nth 0 c 0 :: (c.drop 1).map (min (2 ^ 32 - 1))

/-- An instance closes: its record goes to the colour loop and, if spilled, to the basin (R472, R475). -/
def State.closeInst (s : State) (w : Nat) (i : CamInst) : State :=
  let x := s.camWin w
  let s := s.setCamWin w { x with open_ := x.open_.filter fun y => decide (y.k ≠ i.k), closed := max x.closed (i.k + 1) }
  let p := s.rd pgCAMS (R.CAM_WIN_PORT w)
  let cut := (s.camP p).cut == some i.frame
  let i := { i with isPartial := i.isPartial || cut, cells := i.cells.map satCell }
  let s := (s.incWrap pgCAMS R.CAM_STATCNT_RECORDS).raise pgCAMS 0 w
  let s := if i.isPartial then s.raise pgCAMS 1 w else s
  let s :=
    if s.rdb pgCAMS R.CAM_STATCTL_SPILL then
      let bs := s.statRecord w i
      let b := s.rd pgCAMS R.CAM_STATCTL_BASIN
      if s.canProduce b bs.length then s.append b bs else (s.inc pgCAMS R.CAM_STATCNT_LOST).raise pgCAMS 2 w
    else s
  if s.rdb pgCAMS (R.CAM_WIN_LOOP w) then s.loopRecord w p i (s.posLine i.posFirst) (s.posLine i.posLast) else s

/-- The cells of a window over a line: pixel count and density sums by channel (R470). -/
def State.cellSums (s : State) (w : Nat) (out : List (List Nat)) : List (List Nat) :=
  let n := s.rd pgCAMS (R.CAM_WIN_CELLS w) + 1
  let cw := atLeast1 (s.rd pgCAMS (R.CAM_WIN_CELLW w))
  (List.range n).map fun i =>
    let px := (out.drop (s.rd pgCAMS (R.CAM_WCOL_COLSTART w) + i * cw)).take cw
    [px.length, sumN (px.map fun v => nth 0 v 0), sumN (px.map fun v => nth 0 v 1), sumN (px.map fun v => nth 0 v 2)]

/-- Adds two lists element by element. -/
def addLists : List (List Nat) → List (List Nat) → List (List Nat)
  | a :: as, b :: bs => ((List.range 4).map fun n => nth 0 a n + nth 0 b n) :: addLists as bs
  | [], bs => bs
  | as, [] => as

/-- A line enters an instance, or opens it (R470); a dropped line marks it DROPPED and counts nothing, and an instance
that only dropped lines have entered has their first tick and their positions (log entry 93). -/
def CamWin.enter (x : CamWin) (l : CamLine) (t : CamTrig) (sums : List (List Nat)) (k : Nat) : CamWin :=
  if k < x.closed ∧ (x.open_.all fun i => decide (i.k ≠ k)) then x
  else
    let i : CamInst := (x.open_.find? fun i => decide (i.k = k)).getD
      { k := k, frame := l.frame, isPartial := false, dropped := false, exp := l.exp, mode := l.mode, tick := t.tick,
        posFirst := t.pos, posLast := t.pos, lines := 0, cells := [] }
    let j := if l.dropped then
        { i with dropped := true, posLast := if i.lines = 0 then t.pos else i.posLast, cells := addLists i.cells sums }
      else { i with tick := if i.lines = 0 then t.tick else i.tick, posFirst := if i.lines = 0 then t.pos else i.posFirst,
                    posLast := t.pos, lines := i.lines + 1, cells := addLists i.cells sums }
    { x with open_ := (x.open_.filter fun y => decide (y.k ≠ k)) ++ [j] }

/-- Whether a window takes lines of a port. -/
def State.winOn (s : State) (p w : Nat) : Bool :=
  s.rdb pgCAMS (R.CAM_WIN_ARM w) && decide (s.rd pgCAMS (R.CAM_WIN_PORT w) = p)

/-- The instances of a window that a line closes (R471, R478). -/
def State.winClose (l : CamLine) (s : State) (w : Nat) : State :=
  let x := s.camWin w
  State.each (fun s i =>
    match l.trig with
    | some t =>
      if x.endOf i.k ≤ t.pos then s.closeInst w { i with dropped := i.dropped || l.dropped }
      else if i.frame ≠ l.frame then s.closeInst w { i with isPartial := true }
      else s
    | none => if i.frame ≠ l.frame then s.closeInst w { i with isPartial := true } else s) s x.open_

/-- A line reaches the statistics unit (R470, R471). -/
def State.statLine (s : State) (p : Nat) (l : CamLine) (out : List (List Nat)) : State :=
  let wins := (List.range 64).filter (s.winOn p)
  let s := State.each (State.winClose l) s wins
  match l.trig with
  | none => s
  | some t =>
    let s := s.loopPass p t.pos 64
    let wins := (List.range 64).filter (s.winOn p)
    State.each (fun s w =>
      let x := s.camWin w
      match x.instancesAt t.pos with
      | [] => s
      | ks => s.setCamWin w (ks.foldl (fun y k => y.enter l t (s.cellSums w out) k) x)) s wins

/-! ### The pipeline (R460, R461) -/

/-- Whether a port is the high-priority port: PRIO 1, port A if both have it, port A if neither (R461, R463; log
entry 32). -/
def State.prioPort (s : State) : Nat :=
  if s.rdb (pgCAMP 0) R.CAM_PCFG_PRIO then 0 else if s.rdb (pgCAMP 1) R.CAM_PCFG_PRIO then 1 else 0

/-- The port whose line the pipeline takes next (R461). A store never begins with a dropped line, which leaves with the
complete line before it. -/
def State.nextPort (s : State) : Option Nat :=
  let hi := s.prioPort
  let fill := fun p => sumN ((s.camP p).store.map CamLine.bytes)
  let has := fun p => !(s.camP p).store.isEmpty
  if 524288 < fill hi then some hi
  else if has (1 - s.cam.last) then some (1 - s.cam.last)
  else if has s.cam.last then some s.cam.last
  else none

/-- The pixels processed count in CAM_LOAD by windows of 1 ms. -/
def State.camLoad (s : State) (n : Nat) : State :=
  let w := s.now / ms 1
  let c := s.cam
  let c := if w = c.loadWin then { c with loadNow := c.loadNow + n }
    else { c with loadPrev := if w = c.loadWin + 1 then c.loadNow / 1000 else 0, loadWin := w, loadNow := n }
  { s with cam := { c with peak := max c.peak c.loadPrev } }

/-- Lines dropped under R462 pass the statistics unit in their place. -/
def State.passDropped (s : State) (p : Nat) (ls : List CamLine) : State := State.each (fun s l => s.statLine p l []) s ls

/-- The image pipeline takes the next stored line (R461, R464, R467, R470), and the dropped lines behind it pass. -/
def State.pipelineLine (s : State) : State :=
  match s.nextPort with
  | none => s
  | some p =>
    match (s.camP p).store with
    | [] => s
    | l :: rest =>
      let s := s.setCamP p { s.camP p with store := rest.dropWhile (·.dropped) }
      let s := { s with cam := { s.cam with last := p } }
      let mid := s.afterBalance p l
      let out := s.afterTone p mid
      (((s.camLoad l.pixels.length).camTap p l mid out).statLine p l out).passDropped p (rest.takeWhile (·.dropped))

end Sys2Proof.Machine
end

