-- ==== Sys2Proof/Machine/CmpOps.lean ====
section
/-!
DEFINITION. The compressor channels (06). R262 and R263 fix what a block decodes to, its type and its longest form, and
leave the encoder's choices open: the coded bits are free values within those bounds (log entry 4).
-/
namespace Sys2Proof.Machine

/-- A compressor channel. -/
def State.cmp (s : State) (n : Nat) : Cmp := mget {} s.cmps n

/-- Replaces a compressor channel. -/
def State.setCmp (s : State) (n : Nat) (x : Cmp) : State := { s with cmps := mset {} s.cmps n x }

/-- STATE: 0 IDLE, 1 RUN, 2 STOPPED, 3 DONE, 4 SAVING, 5 RESTORING, 6 ERROR. -/
def State.cmpState (s : State) (n : Nat) : Nat := s.rd pgCMP (R.DFL_CMPSTAT_STATE n)

/-- Writes STATE. -/
def State.setCmpState (s : State) (n v : Nat) : State := s.wr pgCMP (R.DFL_CMPSTAT_STATE n) v

/-- Writes ERRCODE. -/
def State.cmpErr (s : State) (n v : Nat) : State := s.wr pgCMP (R.DFL_CMPSTAT_ERRCODE n) v

/-- Whether the channel accepts a command: 0 START, 1 RESUME, 2 ABORT, 3 SAVE, 4 RESTORE (R270). -/
def State.cmpAccepts (s : State) (n : Nat) (cmd : Nat) : Bool :=
  let st := s.cmpState n
  match cmd with
  | 1 => st == 2
  | 2 => st == 1 || st == 2
  | 3 => st == 2 || (st == 3 && s.rdb pgCMP (R.DFL_CMPSTAT_HISTVALID n))
  | _ => st == 0 || st == 3 || st == 6

/-- A command that the state does not accept sets ERRCODE 4 (R270). -/
def State.cmpRefuse (s : State) (n : Nat) : State := s.cmpErr n 4

/-- The channel enters ERROR with a code and flag CMPERR (R271, R272). -/
def State.cmpFail (s : State) (n code : Nat) : State := ((s.cmpErr n code).setCmpState n 6).raise pgDFL 6 n

/-- Whether a DRAM range leaves the 32 GiB or overlaps an enabled basin (R271). -/
def State.badRange (s : State) (a len : Nat) : Bool :=
  decide (2 ^ 35 < a + len) || (List.range 32).any fun b => s.basinOn b && overlaps (a, len) (s.basinBase b, s.basinSize b)

/-- The destination basin of a channel. -/
def State.cmpBasin (s : State) (n : Nat) : Nat := s.rd pgCMP (R.DFL_CMPCTL_BASIN n)

/-- Whether a channel writes to a basin. -/
def State.cmpToBasin (s : State) (n : Nat) : Bool := s.rdb pgCMP (R.DFL_CMPCTL_DSTBASIN n)

/-- The error code of the arguments of START; 0 for none (R269, R271). -/
def State.cmpArgs (s : State) (n : Nat) : Nat :=
  let x := s.cmp n
  let b := s.cmpBasin n
  if s.badRange x.src x.srcLen then 1
  else if s.cmpToBasin n then
    if !(s.basinOn b && s.basinDev b) then 1 else if s.basinFree b < 16392 then 2 else 0
  else if s.badRange x.dst x.cap then 1
  else if x.cap < 16392 then 2 else 0

/-- START (R268, R270, R271). -/
def State.cmpStart (s : State) (n : Nat) : State :=
  let st := s.cmpState n
  if st = 0 ∨ st = 3 ∨ st = 6 then
    let e := s.cmpArgs n
    if e ≠ 0 then s.cmpFail n e
    else
      let x := s.cmp n
      let keep := s.rdb pgCMP (R.DFL_CMPCTL_HIST n) && s.rdb pgCMP (R.DFL_CMPSTAT_HISTVALID n)
      let s := s.setCmp n { x with icount := 0, ocount := 0, written := 0, held := 0, window := if keep then x.window else [] }
      let s := if keep then s else s.wr pgCMP (R.DFL_CMPSTAT_HISTVALID n) 0
      ((s.cmpErr n 0).wr pgCMP (R.DFL_CMPSTAT_BITS n) 0).setCmpState n 1
  else s.cmpRefuse n

/-- RESUME (R265, R270). -/
def State.cmpResume (s : State) (n : Nat) : State :=
  if s.cmpState n = 2 then ((s.setCmp n { s.cmp n with written := 0 }).cmpErr n 0).setCmpState n 1 else s.cmpRefuse n

/-- ABORT (R270). -/
def State.cmpAbort (s : State) (n : Nat) : State :=
  if s.cmpState n = 1 ∨ s.cmpState n = 2 then (s.cmpErr n 0).setCmpState n 0 else s.cmpRefuse n

/-- SAVE (R270). -/
def State.cmpSave (s : State) (n : Nat) : State :=
  let st := s.cmpState n
  if st = 2 ∨ (st = 3 ∧ s.rdb pgCMP (R.DFL_CMPSTAT_HISTVALID n)) then
    ((s.setCmp n { s.cmp n with prior := st }).cmpErr n 0).setCmpState n 4
  else s.cmpRefuse n

/-- RESTORE (R270). -/
def State.cmpRestore (s : State) (n : Nat) : State :=
  let st := s.cmpState n
  if st = 0 ∨ st = 3 ∨ st = 6 then (s.cmpErr n 0).setCmpState n 5 else s.cmpRefuse n

/-- `k` free bytes from draw `d` on. -/
def freeBytes (d : Nat) : Nat → List Byte
  | 0 => []
  | k + 1 => BitVec.ofNat 8 (Config.freeSaveWord d).toNat :: freeBytes (d + 1) k

/-- The bytes of a save area before its CRC: the window, oldest byte first, and the private record. A window of fewer
than 32,768 bytes leaves the rest of its range open, as the record is: free values. -/
def saveArea (x : Cmp) (d : Nat) : List Byte :=
  x.window ++ freeBytes d (32768 - x.window.length) ++ freeBytes (d + 32768) 252

/-- The DRAM address of the save area: 35 bits, a multiple of 64 (R272; log entry 42). -/
def Cmp.saveAt (x : Cmp) : Nat := x.area % 2 ^ 35 / 64 * 64

/-- Bytes of DRAM from an address on; the range goes on at 0 past the end of the 32 GiB (log entry 42). -/
def dramBytes (m : List Host.Cell) (a n : Nat) : List Byte :=
  memBytes m a (min n (2 ^ 35 - a)) ++ memBytes m 0 (n - (2 ^ 35 - a))

/-- Writes bytes of DRAM from an address on, as `dramBytes` reads them. -/
def dramPuts (m : List Host.Cell) (a : Nat) (bs : List Byte) : List Host.Cell :=
  memPuts (memPuts m a (bs.take (2 ^ 35 - a))) 0 (bs.drop (2 ^ 35 - a))

/-- SAVE completes: the area is written and the channel returns to the state it came from (R272). -/
def State.cmpSaveDone (s : State) (n : Nat) : State :=
  if s.cmpState n ≠ 4 then s
  else
    let x := s.cmp n
    let d := s.free
    let a := saveArea x d
    let snap : CmpSnap :=
      { draw := d, window := x.window, icount := x.icount, ocount := x.ocount, bits := s.rd pgCMP (R.DFL_CMPSTAT_BITS n),
        held := x.held, done := decide (x.prior = 3), hist := s.rdb pgCMP (R.DFL_CMPSTAT_HISTVALID n) }
    let s := { s with free := d + 33020, saves := snap :: s.saves, mem := dramPuts s.mem x.saveAt (a ++ leBytes (crc32c a) 4) }
    (s.setCmpState n x.prior).raise pgDFL 7 n

/-- RESTORE completes: the CRC of the area is checked and the recorded state returns (R272). A record that no SAVE of
this device wrote has a meaning private to the device: its state is a free value. -/
def State.cmpRestoreDone (s : State) (n : Nat) : State :=
  if s.cmpState n ≠ 5 then s
  else
    let x := s.cmp n
    let all := dramBytes s.mem x.saveAt 33024
    let area := all.take 33020
    if leNat (all.drop 33020) ≠ crc32c area then s.cmpFail n 3
    else
      let (d, s) := s.draw
      let w := (Config.freeWord d).toNat
      let free : CmpSnap :=
        { draw := d, window := area.take 32768, icount := w % 2 ^ 48, ocount := w / 2 ^ 48 % 2 ^ 48,
          bits := w / 2 ^ 96 % 8, held := w / 2 ^ 99 % 128, done := bitOf w 126, hist := bitOf w 127 }
      let snap := (s.saves.find? fun e => decide (area.drop 32768 = freeBytes (e.draw + 32768) 252)).getD free
      let s := s.setCmp n { x with window := snap.window, icount := snap.icount, ocount := snap.ocount,
                                   held := snap.held % 2 ^ snap.bits, written := 0 }
      let s := (s.wr pgCMP (R.DFL_CMPSTAT_BITS n) snap.bits).wr pgCMP (R.DFL_CMPSTAT_HISTVALID n) (b2n snap.hist)
      ((s.cmpErr n 0).setCmpState n (if snap.done then 3 else 2)).raise pgDFL 8 n

/-- A stored block at a bit position of its byte: its bits as a number and their count. -/
def storedBlock (bits : Nat) (last : Bool) (data : List Byte) : Nat × Nat :=
  let pad := (8 - (bits + 3) % 8) % 8
  let n := data.length
  (b2n last + (n + (65535 - n) * 65536 + leNat data * 2 ^ 32) * 2 ^ (3 + pad), 3 + pad + 32 + 8 * n)

/-- A number of `w` free bits from draw `d` on. -/
def freeBits (d w : Nat) : Nat := leNat ((List.range (w / 32 + 1)).flatMap fun i => leBytes (Config.freeBlockBits (d + i)).toNat 4) % 2 ^ w

/-- Whether `w` bits are one whole block of a type, with BFINAL as asked, that decodes to the data behind a window (R262,
R263): type 1 has the fixed codes, type 2 its own. -/
def codesTo (type : Nat) (last : Bool) (window data : List Byte) (v w : Nat) : Bool :=
  let r := inflBlocks v w data.length (data.length + 1) 1
    { out := window.reverse, count := 0, avail := window.length, pos := 0 }
  decide (v % 8 = b2n last + 2 * type) && !r.err && decide (r.pos = w) && decide (r.own = data)

/-- The form of a block. At effort 0 it is stored; at effort 1 a block of the fixed codes and at 2 to 9 one of its own
codes, no longer than the stored form, or the stored form (R262, R263). The spec fixes neither the hash nor how ties and
code lengths are chosen: the coded form is a free value among the blocks that decode to the data (log entry 4). -/
def State.codeBlock (s : State) (n bits : Nat) (last : Bool) (data : List Byte) : Nat × Nat × State :=
  let st := storedBlock bits last data
  let effort := s.rd pgCMP (R.DFL_CMPCTL_EFFORT n)
  if effort = 0 then (st.1, st.2, s)
  else
    let (d, s) := s.draw
    let w := (Config.freeBlockBits d).toNat % (st.2 + 1)
    let v := freeBits (d + 1) w
    let s := { s with free := d + 2 + w / 32 }
    if codesTo (if effort = 1 then 1 else 2) last (s.cmp n).window data v w then (v, w, s) else (st.1, st.2, s)

/-- Room left in the destination. -/
def State.cmpRoom (s : State) (n : Nat) : Nat :=
  if s.cmpToBasin n then s.basinFree (s.cmpBasin n) else (s.cmp n).cap - (s.cmp n).written

/-- Writes whole bytes to the destination (R264, R269). -/
def State.cmpPut (s : State) (n : Nat) (bs : List Byte) : State :=
  let x := s.cmp n
  let s := if s.cmpToBasin n then s.appendRaw (s.cmpBasin n) bs else { s with mem := memPuts s.mem (x.dst + x.written) bs }
  s.setCmp n { x with written := x.written + bs.length, ocount := x.ocount + bs.length }

/-- The last 32 KiB of a window and what follows it. -/
def slide (w bs : List Byte) : List Byte := let l := w ++ bs; l.drop (l.length - 32768)

/-- A block is formed and written if it fits; the last block ends the stream or the byte (R263, R264, R267). -/
def State.cmpBlock (s : State) (n : Nat) : State :=
  if s.cmpState n ≠ 1 then s
  else
    let x := s.cmp n
    let bits := s.rd pgCMP (R.DFL_CMPSTAT_BITS n)
    let k := min 16384 (x.srcLen - x.icount)
    let data := memBytes s.mem (x.src + x.icount) k
    let last := decide (x.srcLen ≤ x.icount + k)
    let finish := s.rdb pgCMP (R.DFL_CMPCTL_FINISH n)
    let (v, w, s) := s.codeBlock n bits (last && finish) data
    let v := x.held + v * 2 ^ bits
    let w := bits + w
    let empty := storedBlock (w % 8) false []
    let (v, w) := if !last then (v, w)
      else if finish then (v, (w + 7) / 8 * 8)
      else (v + empty.1 * 2 ^ w, w + empty.2)
    if s.cmpRoom n < (w + 7) / 8 then (s.setCmpState n 2).raise pgDFL 5 n
    else
      let s := (s.tap 4 n data (decide (x.icount = 0)) last none).tap 5 n (leBytes v (w / 8)) (decide (x.icount = 0)) last none
      let s := s.cmpPut n (leBytes v (w / 8))
      let s := s.setCmp n { s.cmp n with icount := x.icount + k, held := v / 2 ^ (w / 8 * 8) % 2 ^ (w % 8),
                                         window := slide x.window data }
      let s := s.wr pgCMP (R.DFL_CMPSTAT_BITS n) (w % 8)
      if last then
        ((s.wr pgCMP (R.DFL_CMPSTAT_HISTVALID n) (b2n !finish)).setCmpState n 3).raise pgDFL 4 n
      else s

end Sys2Proof.Machine
end

