-- ==== Sys2Proof/Machine/HealthOps.lean ====
section
/-!
DEFINITION. Head health and warm-up (10): resistance scans, from a reading to a class and a status, baselines,
extremes, the supply window, warm-up checks and health records.
-/
namespace Sys2Proof.Machine

/-- The history of a nozzle. -/
def State.nozH (s : State) (b idx : Nat) : NozHealth := mget {} s.nozHealth (nozKey b idx)

/-- Replaces the history of a nozzle. -/
def State.setNozH (s : State) (b idx : Nat) (x : NozHealth) : State :=
  { s with nozHealth := mset {} s.nozHealth (nozKey b idx) x }

/-- A tile of the head-health block. -/
def State.tileH (s : State) (b t : Nat) : TileHealth := mget {} s.tileHealth (b * 22 + t)

/-- Replaces a tile of the head-health block. -/
def State.setTileH (s : State) (b t : Nat) (x : TileHealth) : State :=
  { s with tileHealth := mset {} s.tileHealth (b * 22 + t) x }

/-! ### Health records (R426) -/

/-- Writes a health record; bytes 16 to 25 are given. -/
def State.healthRecord (s : State) (b t row cause col : Nat) (body : List Byte) (temp : Int) : State :=
  if s.rdb (pgHLTH b) R.HLTH_LOGCTL_EN then
    let r : SpillRing := .health (Fin.ofNat 8 b)
    let bs := leBytes s.now 10 ++ leBytes b 1 ++ leBytes t 1 ++ leBytes row 1 ++ leBytes cause 1 ++ leBytes col 2 ++
      body ++ leBytes (uns 16 temp) 2
    let full := s.ringFull r
    let s := s.ringPut r (bs ++ leBytes (crc32c bs) 4)
    if full then s.raise (pgHLTH b) 11 else s
  else s

/-- A record about a tile. The manual gives bytes 16 to 25 a meaning for one nozzle only: free values (log entry 4). -/
def State.tileRecord (s : State) (b t cause : Nat) : State :=
  let (d, s) := s.draw
  s.healthRecord b t 0xFF cause 0xFFFF (leBytes (Config.freeWord d).toNat 10) (s.tile b t).temp

/-! ### Scans (R402 to R407) -/

/-- Whether the device issues MEAS in its state and role (R407). -/
def State.measOpen (s : State) : Bool :=
  s.tilesOpen && s.dev.role != .standby &&
  !(s.dev.state == .fenced || s.dev.state == .frozen || s.dev.state == .safe)

/-- MEASMAX of a tile, 16 to 64. -/
def State.measMax (s : State) (b t : Nat) : Nat :=
  match (s.tpos (laneOf b t) (posOf t)).cap with
  | some c => clampN 16 64 (byteAt c 27)
  | none => 16

/-- The nozzles of the next command of a tile; a retry names those of the command before it (R403, R405). -/
def State.measCount (s : State) (b t : Nat) : Nat :=
  match (s.tileH b t).again with
  | some n => n
  | none => min (min (atLeast1 (s.rd (pgHLTH b) R.HLTH_MEASCFG_COUNT)) (s.measMax b t)) (4800 - (s.tileH b t).col)

/-- AFTER of a command (R404); all ones is 2^48 − 1. -/
def State.measAfter (s : State) (b t : Nat) : Nat :=
  if s.jobs.cur.isNone || (s.mapInForce b).any Pace.nomap then 2 ^ 48 - 1
  else uns 48 ((s.tile b t).fired + (atLeast1 (s.rd (pgHLTH b) R.HLTH_MEASCFG_AHEAD) : Nat))

/-- Whether a command of a tile is due (R402). -/
def State.measDue (s : State) (b t : Nat) : Bool :=
  s.rdb (pgHLTH b) R.HLTH_CTL_MEASEN && s.measOpen && decide (t < s.fitted b) && s.laneUp (laneOf b t) &&
  (s.tileH b t).out.isNone &&
  (match (s.tileH b t).issued with
   | some i => decide (i + us (max 10 (s.rd (pgHLTH b) R.HLTH_MEASCFG_INT)) ≤ s.now)
   | none => true)

/-- Issues the next command of a tile, if it is due (R402 to R405). -/
def State.measIssue (s : State) (b t : Nat) : State :=
  if s.measDue b t then
    let x := s.tileH b t
    let n := s.measCount b t
    let a := s.measAfter b t
    let s := s.setTileH b t { x with
      tag := (x.tag + 1) % 65536, issued := some s.now,
      out := some { tag := x.tag, row := x.row, col := x.col, count := n, at_ := s.now } }
    s.tileSend (laneOf b t) 5 0 (posOf t)
      (leBytes x.tag 2 ++ leBytes 1 1 ++ leBytes x.row 1 ++ leBytes x.col 2 ++ leBytes n 2 ++ leBytes a 6 ++ zeros 2)
  else s

/-- No result within TMO ms: the loss is counted, and the command is issued again when due (R405). -/
def State.measTimeout (s : State) (b t : Nat) : State :=
  match (s.tileH b t).out with
  | none => s
  | some c =>
    if c.at_ + ms (atLeast1 (s.rd (pgHLTH b) R.HLTH_MEASCFG_TMO)) ≤ s.now then
      ((s.setTileH b t { s.tileH b t with out := none, again := some c.count }).inc (pgHLTH b) R.HLTH_MEASCNT_LOST).raise (pgHLTH b) 6 t
    else s

/-- HLTH_STAT.SCANNING: a tile has a command outstanding or due. -/
def State.scanning (s : State) (b : Nat) : Bool :=
  (List.range 22).any fun t => (s.tileH b t).out.isSome || s.measDue b t

/-- A bar scan is counted once every fitted tile has completed one (R406). -/
def State.barScan (s : State) (b : Nat) : State :=
  let ts := List.range (s.fitted b)
  if !ts.isEmpty && ts.all (fun t => decide (0 < (s.tileH b t).scansNow)) then
    let s := State.each (fun s t => s.setTileH b t { s.tileH b t with scansNow := 0 }) s ts
    let s := s.incWrap (pgHLTH b) R.HLTH_SCANCNT
    s.raise (pgHLTH b) 10 (s.rd (pgHLTH b) R.HLTH_SCANCNT)
  else s

/-- The scan of a tile advances past a group (R403, R406). -/
def State.scanNext (s : State) (b t n : Nat) : State :=
  let x := s.tileH b t
  if x.col + n < 4800 then s.setTileH b t { x with col := x.col + n }
  else if x.row < 3 then s.setTileH b t { x with row := x.row + 1, col := 0 }
  else
    (s.setTileH b t { x with row := 0, col := 0, scansNow := x.scansNow + 1, scanTick := s.now,
                             scans := (x.scans + 1) % 2 ^ 32 }).barScan b

/-! ### From a reading to a class and a status (R408 to R415) -/

/-- Rounds to nearest with halves upward. -/
def roundHalfUp (a b : Int) : Int := (2 * a + b).fdiv (2 * b)

/-- The normalised resistance of R408. Where the quotient is not a resistance of 16 bits the manual gives no value:
it is free (log entry 4). -/
def State.normal (s : State) (b m : Nat) (temp : Int) : Nat × State :=
  let den : Int := 128000000 + s.rdi (pgHLTH b) R.HLTH_RREF_TCR * (temp - s.rdi (pgHLTH b) R.HLTH_TNORM_TNORM)
  let n := roundHalfUp ((m : Int) * 128000000) den
  if 0 < den ∧ n < 65536 then (n.toNat, s)
  else
    let (d, s) := s.draw
    ((Config.freeWord d).toNat % 65536, s)

/-- The target class of R409 before clamping. -/
def State.rClass (s : State) (b nf : Nat) : Int :=
  let r : Nat := atLeast1 (s.rd (pgHLTH b) R.HLTH_RREF_RREF)
  2048 + roundHalfUp (16384 * ((nf : Int) - r)) r

/-- The drift of R410 in 0.1 %, saturating at 255; 0 without a baseline. -/
def driftOf (nf base : Nat) : Nat :=
  if base = 0 then 0 else min 255 (1000 * ((nf : Int) - base).natAbs / base)

/-- The status that a reading calls for, with its cause, given the counts of R411; none if no count is reached. -/
def State.wantStatus (s : State) (b : Nat) (counts : List Nat) : Option (Nat × Nat) :=
  let n := atLeast1 (s.rd (pgHLTH b) R.HLTH_DRIFT_CONFN)
  if 0 < nth 0 counts 3 then some (2, 3)
  else if 0 < nth 0 counts 4 then some (2, 4)
  else if n ≤ nth 0 counts 1 then some (2, 2)
  else if n ≤ nth 0 counts 2 then some (2, 5)
  else if n ≤ nth 0 counts 0 then some (1, 1)
  else none

/-- The body of a health record of a nozzle. -/
def recordBody (old new d : Nat) (x : NozHealth) (entry : Nat) : List Byte :=
  leBytes (old + 16 * new) 1 ++ leBytes d 1 ++ leBytes x.m 2 ++ leBytes x.nf 2 ++ leBytes x.base 2 ++
  leBytes (bitsOf entry 16 12) 2

/-- Writes the class, the DRIFT bit and the status that a reading gives an entry, with flags and records (R409 to
R413, R305, R427). Only a device that is not a standby writes the table (R588). -/
def State.healthWrite (s : State) (b t row col : Nat) (cls : Option Int) (d : Option Nat) (temp : Int) : State :=
  let idx := nozIndex t row col
  let x := s.nozH b idx
  let e := s.nozzleNext b idx
  let st := nozStatus e
  let want := if s.rdb (pgHLTH b) R.HLTH_CTL_AUTOSTAT then s.wantStatus b x.counts else none
  if s.isStandby then s
  else if st = 3 then
    match want with
    | some (_, c) => s.healthRecord b t row c col (recordBody 3 3 (d.getD 0) x e) temp
    | none => s
  else
    let rc := match cls with
      | some c => if s.rdb (pgHLTH b) R.HLTH_CTL_AUTORCLASS then (clampI 0 4095 c).toNat else bitsOf e 16 12
      | none => bitsOf e 16 12
    let drift := match d with
      | some v => decide (s.rd (pgHLTH b) R.HLTH_DRIFT_WARN ≤ v)
      | none => bitOf e 30
    let new := match want with
      | some (v, _) => max st v
      | none => st
    let e1 := setBits (setBits (setBits e 16 12 rc) 30 1 (b2n drift)) 8 4 (if new = st then bitsOf e 8 4 else new)
    let mask := (if rc = bitsOf e 16 12 then 0 else 0x0FFF0000) + (if drift = bitOf e 30 then 0 else 0x40000000) +
      (if new = st then 0 else 0xF00)
    let (hit, s) := if mask = 0 then (false, s) else s.engineWrite b idx mask e1
    let s := if drift && !bitOf e 30 then
        (s.raise (pgHLTH b) 2 idx).healthRecord b t row 6 col (recordBody st st (d.getD 0) x e1) temp
      else s
    match want with
    | none => s
    | some (_, c) =>
      if new = st then s
      else if hit then s.healthRecord b t row 9 col (recordBody st st (d.getD 0) x e1) temp
      else
        let s := (s.inc (pgHLTH b) (if new = 1 then R.HLTH_NCNT_WEAK else R.HLTH_NCNT_OUT)).raise (pgHLTH b)
          (if new = 1 then 0 else 1) idx
        let s := if c = 5 then s.raise (pgHLTH b) 4 idx else s
        s.healthRecord b t row c col (recordBody st new (d.getD 0) x e1) temp

/-- The counts of R411 after a reading that meets some conditions. -/
def nextCounts (old : List Nat) (met : List Bool) : List Nat :=
  (List.range 5).map fun i => if nth false met i then satInc 16 (nth 0 old i) else 0

/-- One reading of a nozzle (R408 to R415). -/
def State.takeReading (s : State) (b t row col m : Nat) (temp : Int) : State :=
  let idx := nozIndex t row col
  let x := s.nozH b idx
  if m = 0 ∨ m = 0xFFFF then
    let s := s.setNozH b idx { x with m := m, counts := nextCounts x.counts [false, false, false, m = 0, m = 0xFFFF] }
    (s.raise (pgHLTH b) 3 idx).healthWrite b t row col none none temp
  else
    let (n, s) := s.normal b m temp
    let f := 2 ^ min 8 (s.rd (pgHLTH b) R.HLTH_DRIFT_RFILT)
    let nf := if x.nf = 0 then n else ((x.nf : Int) + ((n : Int) - x.nf).fdiv f).toNat
    let base := if x.base = 0 ∧ s.rdb (pgHLTH b) R.HLTH_CTL_AUTOBASE then nf else x.base
    let c := s.rClass b nf
    let d := driftOf nf base
    let w := s.rd (pgHLTH b) R.HLTH_DRIFT_WEAK
    let o := s.rd (pgHLTH b) R.HLTH_DRIFT_OUT
    let met := [base ≠ 0 && decide (w ≤ d) && decide (d < o), base ≠ 0 && decide (o ≤ d),
      decide (c < 0) || decide (4095 < c), false, false]
    let s := s.setNozH b idx { m := m, nf := nf, base := base, counts := nextCounts x.counts met }
    s.healthWrite b t row col (some c) (if base = 0 then none else some d) temp

/-- The readings of a result, from a column on; an active device passes each one on (R588). -/
def State.takeReadings (s : State) (b t row : Nat) (temp : Int) : Nat → List Nat → State
  | _, [] => s
  | col, m :: ms =>
    let s := if s.isActive then
        let r : Reading := ⟨Fin.ofNat 8 b, Fin.ofNat 22 t, Fin.ofNat 4 row, BitVec.ofNat 13 col, BitVec.ofNat 16 m,
          BitVec.ofInt 16 temp⟩
        s.sendDelta (.reading r)
      else s
    (s.takeReading b t row col m temp).takeReadings b t row temp (col + 1) ms

/-- A MEAS result of a position of a lane: its payload (R387, R405). -/
def State.measResult (s : State) (n p : Nat) (pl : List Byte) : State :=
  let b := n / 5
  let t := tileOf n p
  match (s.tileH b t).out with
  | none => s
  | some c =>
    if leAt pl 0 2 ≠ c.tag ∨ byteAt pl 2 ≠ 1 ∨ byteAt pl 3 ≠ c.row ∨ leAt pl 4 2 ≠ c.col ∨ leAt pl 6 2 ≠ c.count then s
    else
      let again := if byteAt pl 8 = 0 then none else some c.count
      let s := s.setTileH b t { s.tileH b t with out := none, again := again }
      match byteAt pl 8 with
      | 0 =>
        let ms := (List.range c.count).map fun i => leAt pl (16 + 2 * i) 2
        (s.takeReadings b t c.row (s.tile b t).temp c.col ms).scanNext b t c.count
      | 1 => s.inc (pgHLTH b) R.HLTH_MEASCNT_NOTDONE
      | _ => s

/-! ### Baselines and new tiles (R416, R417) -/

/-- Runs a change on every nozzle of a tile that has a history. -/
def State.mapHistory (s : State) (b t : Nat) (f : NozHealth → NozHealth) : State :=
  let lo := nozKey b (t * 19200)
  { s with nozHealth := s.nozHealth.filterMap fun e =>
      if lo ≤ e.1 ∧ e.1 < lo + 19200 then (if f e.2 = {} then none else some (e.1, f e.2)) else some e }

/-- DRIFT of an entry is judged anew where its baseline or WARN has changed, as at a reading (R305, R410). -/
def State.driftJudge (b : Nat) (s : State) (idx : Nat) : State :=
  let x := s.nozH b idx
  let e := s.nozzleNext b idx
  let d := driftOf x.nf x.base
  let drift := decide (s.rd (pgHLTH b) R.HLTH_DRIFT_WARN ≤ d)
  if x.nf = 0 || x.base = 0 || s.isStandby || nozStatus e == 3 || drift == bitOf e 30 then s
  else
    let e1 := setBits e 30 1 (b2n drift)
    let s := (s.engineWrite b idx 0x40000000 e1).2
    if drift then
      (s.raise (pgHLTH b) 2 idx).healthRecord b (idx / 19200) (idx / 4800 % 4) 6 (idx % 4800)
        (recordBody (nozStatus e) (nozStatus e) d x e1) (s.tile b (idx / 19200)).temp
    else s

/-- The entries of a bar below which a reading has been taken, from an index on and up to another. -/
def State.readEntries (s : State) (b lo hi : Nat) : List Nat :=
  (s.nozHealth.filter fun e => decide (nozKey b lo ≤ e.1) && decide (e.1 < nozKey b hi)).map fun e => e.1 - nozKey b 0

/-- Rebases a tile (R416). -/
def State.rebaseTile (b : Nat) (s : State) (t : Nat) : State :=
  let s := s.mapHistory b t fun x => { x with base := x.nf, counts := [0, 0, 0, 0, 0] }
  let s := State.each (State.driftJudge b) s (s.readEntries b (t * 19200) ((t + 1) * 19200))
  (s.setTileH b t { s.tileH b t with rebaseTick := s.now, scans := 0 }).tileRecord b t 7

/-- The tiles that a command of HLTH_CMD names. -/
def State.cmdTiles (s : State) (b : Nat) : List Nat :=
  if s.rdb (pgHLTH b) R.HLTH_CMD_ALL then List.range (s.fitted b)
  else
    let t := s.rd (pgHLTH b) R.HLTH_CMD_TILE
    if t < 22 then [t] else []

/-- HLTH_CMD.REBASE (R416). -/
def State.hlthRebase (s : State) (b : Nat) : State := State.each (State.rebaseTile b) s (s.cmdTiles b)

/-- HLTH_CMD.CLRSUM (R418). -/
def State.hlthClrsum (s : State) (b : Nat) : State :=
  State.each (fun s t => s.setTileH b t { s.tileH b t with tRange := none, vRange := none }) s (s.cmdTiles b)

/-- A CAP reports a serial number (R417). -/
def State.newSerial (s : State) (b t serial : Nat) : State :=
  let x := s.tileH b t
  if serial = x.serial then s
  else if x.serial = 0 then s.setTileH b t { x with serial := serial }
  else
    let s := s.mapHistory b t fun h => { h with nf := 0, base := 0, counts := [0, 0, 0, 0, 0] }
    let s := s.setTileH b t { x with serial := serial, out := none, again := none, row := 0, col := 0 }
    (s.raise (pgHLTH b) 5 t).tileRecord b t 8

/-! ### Temperature and supply (R418, R419, R422) -/

/-- Widens a range by a value. -/
def widenI (r : Option (Int × Int)) (v : Int) : Option (Int × Int) :=
  match r with
  | some (a, b) => some (min a v, max b v)
  | none => some (v, v)

/-- Widens a range by a value. -/
def widenN (r : Option (Nat × Nat)) (v : Nat) : Option (Nat × Nat) :=
  match r with
  | some (a, b) => some (min a v, max b v)
  | none => some (v, v)

/-- The supply of a tile is held against the window: flag SUPPLY as it leaves it (R419). -/
def State.supplyJudge (b : Nat) (s : State) (t : Nat) : State :=
  let x := s.tileH b t
  let volt := (s.tile b t).volt
  let bad := (s.tile b t).known &&
    (decide (volt < s.rd (pgHLTH b) R.HLTH_VWIN_VMIN) || decide (s.rd (pgHLTH b) R.HLTH_VWIN_VMAX < volt))
  let s := s.setTileH b t { x with supplyBad := bad }
  if bad && !x.supplyBad then s.raise (pgHLTH b) 7 t else s

/-- HLTH_STAT.SUPPLYBAD: a fitted tile is outside the window (R419). -/
def State.supplyBad (s : State) (b : Nat) : Bool := (List.range (s.fitted b)).any fun t => (s.tileH b t).supplyBad

/-- Temperature and supply of a STATUS reach the head-health block (R418, R419). -/
def State.healthStatus (s : State) (b t : Nat) (temp : Int) (volt : Nat) : State :=
  let x := s.tileH b t
  let s := s.setTileH b t { x with tRange := widenI x.tRange temp, vRange := widenN x.vRange volt }
  s.supplyJudge b t

/-- ℓ_b first reaches W: the tiles below TREADY are reported (R423). -/
def State.warmupCheck (s : State) (b : Nat) : State :=
  match s.jobs.cur with
  | none => s
  | some j =>
    let w := s.rd (pgHLTH b) R.HLTH_WARM_LINES
    if w = 0 ∨ !bitOf j.bars b ∨ (s.barF b).warmChecked ∨ s.ell j b < (w : Nat) * 4096 then s
    else
      let s := s.setBarF b { s.barF b with warmChecked := true }
      let lim := s.rdi (pgHLTH b) R.HLTH_TREADY_TREADY
      let r := (List.range (s.fitted b)).foldl (fun (a : List Nat × State) t =>
        let (temp, _, s) := a.2.tileReading b t
        (if temp < lim then a.1 ++ [t] else a.1, s)) ([], s)
      if r.1.isEmpty then r.2.raise (pgHLTH b) 9 else State.each (fun s t => s.raise (pgHLTH b) 8 t) r.2 r.1

end Sys2Proof.Machine
end

