-- ==== Sys2Proof/Machine/FrameOps.lean ====
section
/-!
DEFINITION. Frames of the running job and what tiles report (08, 09, 11): FIRE and PACE frames, re-arming,
STATUS, staleness, inspection marks and the rows of the stop sequence.
-/
namespace Sys2Proof.Machine

/-! ### FIRE frames (R309, R310, R370, R591, R592) -/

/-- Builds the FIRE frame of a tile for a slot: the payload passes tap 7, it is sent unless the device is a standby,
and entries beyond 64 are dropped (R293, R309, R591). Answers the CRC of the payload (R569). -/
def State.fireTile (s : State) (b t : Nat) (slot : Int) : Nat × State :=
  let n := laneOf b t
  let pl := s.firePayload b t slot
  let ovr := (s.slotEntries b t slot).drop 64
  let s := (s.reachSeams b t slot).tap 7 n pl true true none
  let s := if s.isStandby then s else s.tileSend n 1 0 (posOf t) pl
  let s := State.each (fun s e =>
    s.countPx b (slot + s.rowK b t (bitsOf e 13 2)) (s.xcol b t + bitsOf e 0 13) (bitsOf e 13 2) false) s ovr
  (crc32c pl, s.dropEntries b t slot ovr)

/-- The FIRE frames of a slot for the tiles given, ascending, with their CRCs in order. -/
def State.fireTiles (s : State) (b : Nat) (slot : Int) : List Nat → List Nat × State
  | [] => ([], s)
  | t :: ts =>
    let (c, s) := s.fireTile b t slot
    let (cs, s) := s.fireTiles b slot ts
    (c :: cs, s)

/-- Sends the FIRE frames of the next slot of a bar, if its lead and its nozzle lines allow it (R309, R430, R592). -/
def State.fireFrameSend (s : State) (b : Nat) : State :=
  match s.jobs.cur with
  | none => s
  | some j =>
    let x := s.barF b
    let slot := x.next
    if s.dev.state ≠ .printing ∨ !bitOf j.bars b ∨ s.ellHeld j b < (slot - (s.qLead b : Nat)) * 4096 ∨
        !s.slotReady j b slot j.total then s
    else
      let (cs, s) := s.fireTiles b slot (List.range (s.fitted b))
      let x := s.barF b
      let s := s.setBarF b { x with
        next := slot + 1, recent := (slot, s.now) :: x.recent.filter fun e => decide (s.now < e.2 + us 2) }
      let s := s.setTwin { s.twin with ownCommitted := mput s.twin.ownCommitted b (uns 48 slot) }
      if s.pairMode then s.ownSummary b (uns 48 slot) (crc32c (cs.flatMap fun c => leBytes c 4)) else s

/-! ### PACE frames and re-arming (R312 to R319, R431, R436, R437, R606) -/

/-- Whether a bar re-arms in a frame with a given Λ0 (R436). -/
def State.rearms (s : State) (b : Nat) (l0 : Int) : Bool :=
  s.sb == 4 && bitOf s.waitBar b && s.pos.track.valid && !s.pos.track.reverse &&
  decide (s.pos.validSince + us (s.rd pgFIREC R.FIRE_SBCFG_SETTLE) ≤ s.now) && (s.msrc == 1 || s.msrc == 2) &&
  decide (l0 ≤ ((s.barF b).sigma - (s.armGap : Nat)) * 4096)

/-- Re-arms a bar: its WAITBAR bit clears and FIRELIM follows R319, unless a HALT holds it (R436, R445). -/
def State.rearm (s : State) (b : Nat) : State :=
  let s := s.wr pgFIREC R.FIRE_SBSTAT_WAITBAR (s.waitBar - 2 ^ b)
  (if s.dev.state = .printing then s.freeBar b else s).raise pgFIREC 4 b

/-- The lanes of a bar with a fitted tile. -/
def State.fittedLanes (s : State) (b : Nat) : List Nat :=
  ((List.range 5).map fun c => b * 5 + c).filter fun n => decide (0 < s.nfit n)

/-- One block time of a tile lane in ticks, rounded up: 6.4 ns at rate code 3, doubling with each lower one (R131). -/
def State.blockTime (s : State) (n : Nat) : Nat :=
  (1024 * 2 ^ (3 - s.rd (pgTLNK n) R.TLNK_STAT_RATE) + 9) / 10

/-- A PACE frame leaves on a lane; one that starts a block time or more after its launch tick is late (R131, R132;
log entry 12). -/
def State.paceOut (s : State) (n launch : Nat) (payload : List Byte) : State :=
  (s.tileSend n 2 0 0xF payload).lateLaunch (decide (launch + s.blockTime n ≤ s.pairTick)) n

/-- The PACE frame of one bar for a start tick (R313, R436). -/
def State.paceBar (j : Job) (start : Nat) (s : State) (b : Nat) : State :=
  let s := if s.rearms b (s.paceL0 j b start) then s.rearm b else s
  let (p, s) := s.paceFrame j b start
  let s := s.notePace b p
  if s.isStandby then s
  else State.each (fun s n => s.paceOut n (start - s.paceLead) (s.pacePayload b p)) s (s.fittedLanes b)

/-- The last WAITBAR bit has cleared (R437). -/
def State.sbDone (s : State) : State :=
  if s.sb = 4 ∧ s.waitBar = 0 then
    let s := (s.setSb 0).wr pgFIREC R.FIRE_SBSTAT_RETRIES 0
    (s.wr pgFIREC R.FIRE_SBSTAT_CAUSE 0).raise pgFIREC 5
  else s

/-- A takeover is complete once a PACE frame has left on every lane of the job (R606, step 6). -/
def State.takeoverDone (s : State) : State :=
  if s.twinState = 4 then (s.setTwinState 5).inc pgTWIN R.TWIN_TAKECNT_TAKE else s

/-- The PACE frames of the grid frame whose launch has come (R313). -/
def State.paceLaunch (s : State) : State :=
  match s.jobs.cur with
  | none => s
  | some j =>
    let start := s.paceStart
    if !s.inJob || decide (start ≤ s.fire.lastS) then s
    else
      let s := s.setFire { s.fire with lastS := start }
      let s := State.each (State.paceBar j start) s (barsOf j.bars)
      s.sbDone.takeoverDone.speedCheck

/-! ### STATUS (R331 to R336, R339, R370, R376, R387) -/

/-- The fields of a STATUS payload. -/
structure Status where
  temp : Int
  volt : Nat
  flags : Nat
  events : Nat
  lastFired : Int
  evSlot : Int
  evRow : Nat
  theta : Int
  missing : Nat
  skips : List (Int × Nat × Nat)

/-- Reads a STATUS payload. -/
def parseStatus (pl : List Byte) : Status :=
  { temp := sgn 16 (leAt pl 0 2), volt := leAt pl 2 2, flags := byteAt pl 4, events := byteAt pl 5,
    lastFired := sgn 48 (leAt pl 8 6), evSlot := sgn 48 (leAt pl 14 6), evRow := byteAt pl 20,
    theta := sgn 16 (leAt pl 22 2), missing := leAt pl 24 6,
    skips := (List.range (byteAt pl 21)).map fun i =>
      let w := leAt pl (32 + 8 * i) 8
      (sgn 48 (bitsOf w 0 48), bitsOf w 48 2, bitsOf w 50 14) }

/-- Sends a tile its DELAY for the port on which it receives this device's frames (R380). -/
def State.sendDelay (s : State) (n p : Nat) : State :=
  let x := s.tpos n p
  let d := if s.eastEnd then x.dE else x.dW
  let s := s.setTpos n p { x with delaySent := x.delaySent || (s.tilesOpen && s.laneOn n) }
  s.tileSendOpen n 4 3 p (leBytes (b2n s.eastEnd) 1 ++ zeros 3 ++ leBytes (uns 32 d) 4)

/-- Link facts of a STATUS: θ, TLOST, QFULL, OLDEP and the lock reports (R382, R388, R398, R614). -/
def State.statusLink (s : State) (n p : Nat) (st : Status) : State :=
  let x := s.tpos n p
  let tl := bitOf st.flags 2
  let qf := bitOf st.flags 3
  let w := bitOf st.flags 5
  let e := bitOf st.flags 6
  let s := s.setTpos n p { x with
    theta := st.theta, tlost := some tl, qfull := qf, statAt := s.now, unlockW := if w then 0 else x.unlockW + 1,
    unlockE := if e then 0 else x.unlockE + 1, lockedRuns := if w && e then x.lockedRuns + 1 else 0 }
  let s := if tl && x.tlost != some true then s.raise (pgTLNK n) 5 p else s
  let s := if qf && !x.qfull then s.raise (pgTLNK n) 8 p else s
  if bitOf st.flags 4 then s.raise (pgTLNK n) 9 p else s

/-- A tile has lost what it was sent: SET, FACTORS and DELAY again (R376). -/
def State.statusNoset (s : State) (n p b t : Nat) (st : Status) : State :=
  if bitOf st.flags 7 && s.laneUp n then
    let s := s.setTile b t { s.tile b t with sets := [], setQ := [], facs := [], facQ := [] }
    (((s.sendSetNow b t false false).sendAllFactors b t).sendDelay n p).raise (pgTLNK n) 12 p
  else s

/-- FIRE_STAT.HOTANY, HARDANY and STALEANY follow the tiles. -/
def State.fireStat (s : State) (b : Nat) : State :=
  let s := s.wr (pgFIRE b) R.FIRE_STAT_HOTANY (b2n (decide (s.rd (pgFIRE b) R.FIRE_HOT_TILES ≠ 0)))
  let s := s.wr (pgFIRE b) R.FIRE_STAT_HARDANY (b2n (decide (s.rd (pgFIRE b) R.FIRE_HARD_TILES ≠ 0)))
  s.wr (pgFIRE b) R.FIRE_STAT_STALEANY (b2n ((List.range (s.fitted b)).any fun t => (s.tile b t).stale))

/-- Sets or clears the bit of a tile in FIRE_HOT or FIRE_HARD. -/
def State.tileBit (s : State) (b t : Nat) (f : Fld) (v : Bool) : State :=
  s.wr (pgFIRE b) f (setBits (s.rd (pgFIRE b) f) t 1 (b2n v))

/-- A hot entry (R331). -/
def State.hotEntry (s : State) (b t : Nat) (st : Status) : State :=
  let s := s.tileBit b t R.FIRE_HOT_TILES true
  let s := (s.inc (pgFIRE b) R.FIRE_HOTCNT_HOT).raise (pgFIRE b) 0 t
  s.defect 6 b t (2 ^ (st.evRow % 4)) (st.evSlot + s.rowK b t (st.evRow % 4)) (s.xcol b t) 4800

/-- A hard stop (R334, R444). The resume slot that the device reports has no place in the manual's registers, items or frames:
it is kept in the bar's state alone (DESIGN CHOICE, log entry 89). -/
def State.hardStop (s : State) (b t : Nat) (st : Status) : State :=
  let s := s.tileBit b t R.FIRE_HARD_TILES true
  let s := (s.inc (pgFIRE b) R.FIRE_HOTCNT_HARD).raise (pgFIRE b) 2 (t * 2 ^ 48 + uns 48 st.evSlot)
  match s.jobs.cur with
  | none => s
  | some j =>
    let s :=
      if j.kind = 2 then
        if s.inJob && !s.fire.ending then
          let s := State.each (State.stopBar j) s ((barsOf j.bars).filter fun b => (s.barF b).stop.isNone)
          (s.stopReq true).setFire { s.fire with ending := true }
        else s
      else s.sbTrigger 2
    let x := s.barF b
    let s := s.setBarF b { x with resume := mput x.resume t (min x.sigma (st.evSlot + 1)) }
    if s.rdb pgPOS R.POS_STAT_STANDSTILL then s.productStop else s

/-- A tile that has cooled returns to the normal set, and its hard stop ends, with the SET that says so (R332, R335). While
the tile has no room for it, its bits stand. -/
def State.coolDown (s : State) (b t : Nat) (st : Status) : State :=
  let cool := decide (st.temp < s.rdi (pgFIRE b) R.FIRE_TLIM_THOT - (s.rd (pgFIRE b) R.FIRE_TLIM2_THYST : Nat))
  let hot := bitOf (s.rd (pgFIRE b) R.FIRE_HOT_TILES) t
  let hard := bitOf (s.rd (pgFIRE b) R.FIRE_HARD_TILES) t
  if !cool || !(hot || hard) then s
  else if !s.canSet b t then s.setTile b t { s.tile b t with owed := true }
  else
    let s := s.sendSetNow b t hard hot
    let s := if hot then (s.tileBit b t R.FIRE_HOT_TILES false).raise (pgFIRE b) 1 t else s
    if hard then s.tileBit b t R.FIRE_HARD_TILES false else s

/-- The skips of a STATUS (R339). -/
def State.statusSkips (s : State) (b t : Nat) : List (Int × Nat × Nat) → State
  | [] => s
  | (slot, r, k) :: rest =>
    let s := (s.addTo (pgFIRE b) R.FIRE_SKIPCNT k).raise (pgFIRE b) 3 (t * 2 ^ 48 + uns 48 slot)
    let s := s.setTile b t { s.tile b t with skipped := ((s.tile b t).skipped + k) % 2 ^ 32 }
    (s.defect 1 b t (2 ^ r) (slot + s.rowK b t r) (s.xcol b t) 4800).statusSkips b t rest

/-- A missing slot is sent again, at each report, while it lies at least 8 lines above ℓ_b and the state lets the lane carry
FIRE (R31, R370). -/
def State.statusMissing (s : State) (n p b t : Nat) (missing : Nat) : State :=
  if missing = 2 ^ 48 - 1 then s
  else
    let slot := sgn 48 missing
    match s.jobs.cur with
    | some j =>
      if s.dev.state == .printing && s.dev.role != .standby && decide (s.ell j b + 8 * 4096 ≤ slot * 4096) then
        let s := ((s.inc (pgTLNK n) R.TLNK_RETX).inc (pgTLNK n) R.TLNK_DISC_MISSING).raise (pgTLNK n) 7 missing
        s.tileSend n 1 0 p (s.firePayload b t slot)
      else s
    | none => s

/-- A new set when temperature or supply has moved by a step since the last set, and a set that was owed (R324, R425). -/
def State.statusStep (s : State) (n p b t : Nat) (st : Status) : State :=
  let x := s.tile b t
  let dt := decide (atLeast1 (s.rd (pgFIRE b) R.FIRE_STEP_TSTEP) ≤ (st.temp - x.setT).natAbs)
  let dv := decide (atLeast1 (s.rd (pgFIRE b) R.FIRE_STEP_VSTEP) ≤ ((st.volt : Int) - x.setV).natAbs)
  if (s.tpos n p).setSent && (dt || dv) || x.owed then s.sendSetNow b t false false else s

/-- Temperature, supply and LASTFIRED of a STATUS. -/
def State.statusValues (s : State) (b t : Nat) (st : Status) : State :=
  let x := s.tile b t
  let s := s.setTile b t { x with
    temp := st.temp, volt := st.volt, known := true, stale := false, statAt := s.now, fired := st.lastFired,
    lastFired := if s.inJob then some st.lastFired else none, sets := x.sets.filter fun a => decide (st.lastFired < a),
    facs := x.facs.filter fun a => decide (st.lastFired < a) }
  s.healthStatus b t st.temp st.volt

/-- The relay of a lane stops once every fitted tile reports both ports locked twice (R614). -/
def State.healCheck (s : State) (n : Nat) : State :=
  let all := (List.range (s.nfit n)).all fun p => decide (2 ≤ (s.tpos n p).lockedRuns)
  let healed := s.rdb (pgTLNK n) R.TLNK_STAT_HEALED
  if all && (s.twin.relay.contains n || healed) then
    let s := s.setTwin { s.twin with relay := s.twin.relay.filter (· ≠ n) }
    let s := (s.wr (pgTLNK n) R.TLNK_STAT_HEALED 0).raise pgTWIN 10 n
    let s := s.wr (pgTLNK n) R.TLNK_STAT_BREAKHOP 7
    if s.lstate n = 7 then (s.setLstate n 6).raise (pgTLNK n) 2 (s.rd (pgTLNK n) R.TLNK_STAT_RATE) else s
  else s

/-- A STATUS of a position of a lane is consumed (R387). -/
def State.takeStatus (s : State) (n p : Nat) (pl : List Byte) : State :=
  let st := parseStatus pl
  let b := n / 5
  let t := tileOf n p
  let s := ((s.statusLink n p st).statusValues b t st).pumpTile b t 64
  let s := if bitOf st.events 0 then s.hotEntry b t st else s
  let s := if bitOf st.events 1 then s.hardStop b t st else s
  let s := s.coolDown b t st
  let s := s.statusSkips b t st.skips
  let s := s.statusMissing n p b t st.missing
  let s := s.statusNoset n p b t st
  let s := s.statusStep n p b t st
  ((((s.fireStat b).warmStat b).healCheck n).speedCheck)

/-- Whether a frame names the other device of the pair as its source (R397). -/
def State.fromOther (s : State) (f : List Byte) : Bool :=
  if s.eastEnd then tileSrc f == 0xC else tileSrc f == 0xD

/-- A STAT frame of a lane: checked under R366, passed on by a standby that heals the chain (R399, R612), and consumed; a
frame for another DEST is not the device's (R397). -/
def State.statFrame (s : State) (n : Nat) (f : List Byte) (sub : Nat) (take : State → Nat → List Byte → State) : State :=
  if !s.laneOn n || decide (s.lstate n = 0) then s
  else if !(State.tileGood n f && decide (tileType f = 6) && decide (tileSub f = sub)) then s.tileBad n
  else if tileDest f ≠ 0xE then s
  else
    let p := tileSrc f
    let s := s.sawEpoch (leAt f 4 4)
    let s := if s.isStandby && s.rdb (pgTLNK n) R.TLNK_STAT_HEALED && !s.beyond n p then s.twinSend (.relay n f) else s
    if p < s.nfit n then take s p (tilePayload f) else s

/-- A STATUS frame arrives on a lane (R387). -/
def State.tileStatus (s : State) (n : Nat) (f : List Byte) : State :=
  s.statFrame n f 0 fun s p pl => s.takeStatus n p pl

/-- No report of a fitted tile for STALE ms; one that has never reported counts from tick 0 (R336). -/
def State.tempStale (s : State) (b t : Nat) : State :=
  let x := s.tile b t
  if s.fitted b ≤ t || x.stale ||
      decide (s.now < x.statAt + ms (atLeast1 (s.rd (pgFIRE b) R.FIRE_TLIM2_STALE))) then s
  else (((s.setTile b t { x with stale := true }).raise (pgFIRE b) 4 t).fireStat b).speedCheck

/-! ### Inspection marks (R344) -/

/-- X0 reaches the inspection points at or below it: the mark output is asserted for its full width. -/
def State.markStart (s : State) : State :=
  let x := s.x0At s.now
  if s.fire.marks.any fun m => decide (m ≤ x) then
    let s := s.setFire { s.fire with marks := s.fire.marks.filter (fun m => !decide (m ≤ x)),
                                     markEnd := s.now + us (atLeast1 (s.rd pgFIREC R.FIRE_INSPW_US)) }
    { s with lines := { s.lines with mark := true } }
  else s

/-- The width of a mark has passed. -/
def State.markOver (s : State) : State :=
  if s.lines.mark && decide (s.fire.markEnd ≤ s.now) then { s with lines := { s.lines with mark := false } } else s

/-! ### Rows of the stop sequence (R433, R435, R438, R439) -/

/-- Whether a waiting bar lies behind its back-up point (R433). -/
def State.backed (s : State) (j : Job) (b : Nat) : Bool :=
  let point := j.xstart * 256 * j.lpi + (s.barF b).sigma * 25400 * 65536 -
    (s.rd pgFIREC R.FIRE_SBDIST_DIST * 65536 * j.lpi : Nat)
  decide (s.barX b * j.lpi ≤ point)

/-- Every waiting bar has passed the back-up distance (R433). -/
def State.sbBacked (s : State) : State :=
  match s.jobs.cur with
  | none => s
  | some j =>
    if s.sb = 2 && (barsOf s.waitBar).all (s.backed j) then ((s.revPermit false).setSb 3).raise pgFIREC 3 else s

/-- RETURNING once the web stands, the data holds and no tile is stopped (R435); the warm-up of the resume follows
(R421). -/
def State.sbReturning (s : State) : State :=
  match s.jobs.cur with
  | none => s
  | some j =>
    let hard := (List.range 8).any fun b => s.rd (pgFIRE b) R.FIRE_HARD_TILES ≠ 0
    if s.sb = 3 && s.rdb pgPOS R.POS_STAT_STANDSTILL && s.dataOk && !hard && s.dev.state == .printing then
      let s := (s.stopReq false).setSb 4
      State.each (fun s b => s.warmSets b (s.barF b).sigma (s.rd (pgHLTH b) R.HLTH_WARM_RESUME : Nat)) s (barsOf j.bars)
    else s

/-- A waiting bar passes σ_b − ARMGAP without re-arming (R438). -/
def State.sbRetry (s : State) (b : Nat) : State :=
  match s.jobs.cur with
  | none => s
  | some j =>
    if (s.sb = 3 ∨ s.sb = 4) ∧ bitOf s.waitBar b ∧ ((s.barF b).sigma - (s.armGap : Nat)) * 4096 < s.ell j b then
      let n := satInc 4 (s.rd pgFIREC R.FIRE_SBSTAT_RETRIES)
      let s := ((s.wr pgFIREC R.FIRE_SBSTAT_RETRIES n).inc pgFIREC R.FIRE_SBCNT_RETRY).raise pgFIREC 6 b
      let s := s.stopReq true
      if n < atLeast1 (s.rd pgFIREC R.FIRE_SBCFG_RETRYMAX) then (s.setSb 1).sbStill
      else (s.setSb 5).raise pgFIREC 7
    else s

/-- FIRE_SBCMD.REARM: leaves FAILED (R439). -/
def State.sbRearm (s : State) : State :=
  if s.sb = 5 then ((s.wr pgFIREC R.FIRE_SBSTAT_RETRIES 0).setSb 1).sbStill else s

/-- What a standstill or a reversal means to the stop sequence and to a product job whose end a hard stop has asked for
(R428, R432, R444). -/
def State.webTurned (s old : State) : State :=
  let stood := s.rdb pgPOS R.POS_STAT_STANDSTILL && !old.rdb pgPOS R.POS_STAT_STANDSTILL
  let s := s.sbWatch (s.pos.track.reverse != old.pos.track.reverse) stood
  if stood then s.productStop else s

/-- The holds that have ended are accepted, at most `n`, each with what a reversal brings (R145, R147). -/
def State.acceptDue (s : State) : Nat → State
  | 0 => s
  | n + 1 =>
    match s.firstDue with
    | none => s
    | some (i, h) => ((s.acceptEdge i h).webTurned s).acceptDue n

/-- Every hold that has ended is accepted, in the order of R147, and trigger edges that waited for them form their records:
what comes before any other event of the tick. -/
def State.edgesFirst (s : State) : State := (s.acceptDue 9).formTriggers

/-- A pending edge is accepted once its hold has ended, and with it every other of which this is so (R145, R147). -/
def State.edgeAccept (s : State) : State := s.edgesFirst

/-- An edge is captured, after the edges whose hold ends (R144, R145). -/
def State.edgeSeen (i : Nat) (level : Bool) (s : State) : State := (s.edgesFirst.edgeCapture i level).formTriggers

/-- The speed bound falls below STANDV (R165), after the edges of the tick (R147), with what a standstill brings. -/
def State.standNow (s : State) : State :=
  let s := s.edgesFirst
  s.standDeclare.webTurned s

end Sys2Proof.Machine
end

