-- ==== Sys2Proof/Machine/LinkOps.lean ====
section
/-!
DEFINITION. Bring-up and upkeep of the tile lanes (09): lock, the rate ladder, training, provisioning, time,
epochs, idle frames, PRBS, adaptation and breaks.
-/
namespace Sys2Proof.Machine

/-! ### Frames of the bring-up (R353 to R357, R393) -/

/-- Sends a TEST frame of a subtype to every tile of a lane. -/
def State.sendTest (s : State) (n sub : Nat) (payload : List Byte) : State := s.tileSend n 8 sub 0xF payload

/-- ENUM and CAPREQ (R354). -/
def State.sendEnum (s : State) (n : Nat) : State :=
  (s.sendTest n 4 (leBytes (b2n s.eastEnd) 1 ++ leBytes 0 1 ++ leBytes (s.nfit n) 1 ++ zeros 1)).sendTest n 1 []

/-- The rate code in force on a lane. -/
def State.rate (s : State) (n : Nat) : Nat := s.rd (pgTLNK n) R.TLNK_STAT_RATE

/-- Whether the receiver of a lane is locked. -/
def State.locked (s : State) (n : Nat) : Bool := s.rdb (pgTLNK n) R.TLNK_STAT_LOCK

/-- The positions that have answered CAP. -/
def State.answers (s : State) (n : Nat) : Nat := ((List.range 5).filter fun p => (s.tpos n p).answered).length

/-- Whether every fitted position of a lane has answered. -/
def State.allAnswered (s : State) (n : Nat) : Bool := (List.range (s.nfit n)).all fun p => (s.tpos n p).answered

/-- The answers of a lane are awaited again. -/
def State.clearAnswers (s : State) (n : Nat) : State :=
  State.each (fun s p => s.setTpos n p { s.tpos n p with answered := false, linked := false }) s (List.range 5)

/-- Bring-up starts: the lane transmits at rate code 0 and hunts for lock (R353). -/
def State.laneStart (s : State) (n : Nat) : State :=
  if !(s.laneOn n && s.barService (n / 5)) then s
  else
    let old := s.tl n
    let s := s.setTl n { seq := old.seq, tx := old.tx, txAt := old.txAt, maxRate := s.rd (pgTLNK n) R.TLNK_CTL_MAXRATE, huntAt := s.now }
    let s := (s.setLstate n 1).wr (pgTLNK n) R.TLNK_STAT_RATE 0
    let s := (s.wr (pgTLNK n) R.TLNK_STAT_LOCK 0).wr (pgTLNK n) R.TLNK_STAT_NTILES 0
    (s.wr (pgTLNK n) R.TLNK_STAT_BREAKHOP 7).wr (pgTLNK n) R.TLNK_STAT_HEALED 0

/-- A lane is switched off. -/
def State.laneOff (s : State) (n : Nat) : State :=
  let s := (s.setLstate n 0).wr (pgTLNK n) R.TLNK_STAT_LOCK 0
  s.setTl n { seq := (s.tl n).seq, tx := (s.tl n).tx }

/-! ### The rate ladder (R355 to R360) -/

/-- The highest rate allowed on a lane (R357, R358). -/
def State.rateAllowed (s : State) (n : Nat) : Nat :=
  let caps := (List.range (s.nfit n)).filterMap fun p => (s.tpos n p).cap.map fun c => byteAt c 6
  caps.foldl min (min (s.tl n).maxRate (s.tl n).cap)

/-- A lane moves to a rate code; the lead end sends RATE, which no job lets it send (R355, R360). -/
def State.stepTo (s : State) (n r : Nat) : State :=
  if s.inJob then s
  else
    let s := if s.leadEnd then s.sendTest n 2 (leBytes r 1 ++ zeros 3) else s
    let s := s.setTl n { s.tl n with prev := s.rate n, switchAt := s.now, dwellAt := none, asked := false, huntAt := s.now }
    ((s.wr (pgTLNK n) R.TLNK_STAT_RATE r).wr (pgTLNK n) R.TLNK_STAT_LOCK 0).setLstate n 4

/-- A failure at a rate: counted, flagged, and after RETRY failures the rate is no longer tried (R356, R357). -/
def State.rateFail (s : State) (n r : Nat) : State :=
  let l := s.tl n
  let k := mget 0 l.fails r + 1
  let stop := decide (atLeast1 (s.rd (pgTLNK n) R.TLNK_CTL_RETRY) ≤ k) && decide (0 < r)
  let s := s.setTl n { l with fails := mset 0 l.fails r k, cap := if stop then min l.cap (r - 1) else l.cap }
  (s.inc (pgTLNK n) R.TLNK_LOCKCNT_RATEFAIL).raise (pgTLNK n) 3 r

/-- SET and FACTORS go to the tiles of a lane that have not received them, once the device's state lets the lane carry
them (R31, R359). -/
def State.provision (s : State) (n : Nat) : State :=
  let b := n / 5
  if !s.tilesOpen || !s.laneOn n then s
  else
    State.each (fun s p =>
      if (s.tpos n p).setSent && (s.tpos n p).facSent then s
      else
        let go := s.canSet b (tileOf n p)
        let s := (s.sendSetNow b (tileOf n p) false false).sendAllFactors b (tileOf n p)
        s.setTpos n p { s.tpos n p with setSent := go, facSent := true }) s (List.range (s.nfit n))

/-- The rate is settled: the tiles are provisioned and timed (R359). -/
def State.settleLane (s : State) (n : Nat) : State :=
  let s := (s.setLstate n 5).wr (pgTLNK n) R.TLNK_FOM_MINFOM (s.rd (pgTLNK n) R.TLNK_FOM_FOM)
  (if s.answers n = s.nfit n then s else s.raise (pgTLNK n) 4 (s.answers n)).provision n

/-- The answers to CAPREQ are in: at rate code 0 after ENUM the lane climbs or settles; after a switch the PRBS dwell begins
at either end (R357). -/
def State.laneProceed (s : State) (n : Nat) : State :=
  if s.lstate n = 2 then
    if s.leadEnd && decide (0 < s.rateAllowed n) && !s.inJob then s.stepTo n 1 else s.settleLane n
  else if s.lstate n = 3 ∧ (s.tl n).dwellAt = none then
    s.setTl n { s.tl n with dwellAt := some s.now, prbs := 0, eqPrbs := 0 }
  else s

/-- The lane is locked and every fitted position has answered (R357). -/
def State.laneAnswered (s : State) (n : Nat) : State :=
  if !s.allAnswered n || s.nfit n == 0 || !s.locked n then s else s.laneProceed n

/-- The receiver gets lock, or holds it. Without a valid control block among the last 64 the polarity is inverted instead,
unless RXINV fixes it (R350, R351). -/
def State.laneLock (s : State) (n : Nat) (valid : Bool) : State :=
  if !s.laneOn n || s.lstate n == 0 then s
  else if !valid && !s.rdb (pgTLNK n) R.TLNK_CTL_RXINV then
    (s.setTl n { s.tl n with inverted := !(s.tl n).inverted }).inc (pgTLNK n) R.TLNK_LOCKCNT_LOSS
  else if s.locked n then s
  else
    let s := (s.wr (pgTLNK n) R.TLNK_STAT_LOCK 1).raise (pgTLNK n) 0 (s.rate n)
    match s.lstate n with
    | 1 => ((s.setLstate n 2).clearAnswers n).sendEnum n
    | 4 =>
      let s := (s.setLstate n 3).clearAnswers n
      if s.leadEnd then s.sendTest n 1 [] else s
    | _ => s.laneAnswered n

/-- The receiver loses lock and hunts again; in service it relocks at its rate (R350, R360). -/
def State.laneLoss (s : State) (n : Nat) : State :=
  if !s.locked n then s
  else
    let s := (s.wr (pgTLNK n) R.TLNK_STAT_LOCK 0).inc (pgTLNK n) R.TLNK_LOCKCNT_LOSS
    let s := s.raise (pgTLNK n) 1 (s.rate n)
    if s.lstate n = 2 then (s.setLstate n 1).setTl n { s.tl n with huntAt := s.now } else s

/-- No lock 5 ms after a rate switch: the lane returns to the rate it ran before (R356). -/
def State.switchTimeout (s : State) (n : Nat) : State :=
  let l := s.tl n
  let r := s.rate n
  if s.lstate n ≠ 4 ∨ s.locked n ∨ r = l.prev ∨ s.now < l.switchAt + ms 5 then s
  else
    let s := (s.rateFail n r).wr (pgTLNK n) R.TLNK_STAT_RATE l.prev
    s.setTl n { s.tl n with huntAt := s.now }

/-- No lock at rate code 0 within 100 ms, or no tile answers (LSTATE 8). With some tiles missing the lane goes on with
those that have answered (log entry 60). -/
def State.huntTimeout (s : State) (n : Nat) : State :=
  let late := decide ((s.tl n).huntAt + ms 100 ≤ s.now)
  let hunting := (s.lstate n == 1 || s.lstate n == 4) && !s.locked n && s.rate n == 0
  let waiting := (s.lstate n == 2 || s.lstate n == 3 && (s.tl n).dwellAt.isNone) && !s.allAnswered n
  if !late then s
  else if hunting || (waiting && s.answers n == 0) then s.setLstate n 8
  else if waiting && s.locked n then s.laneProceed n
  else s

/-- The receivers in use of a position: W and E (R357). -/
def State.portsUsed (s : State) (n p : Nat) : List Nat :=
  let w := p ≠ 0 || s.pairMode || !s.eastEnd
  let e := p + 1 ≠ s.nfit n || s.pairMode || s.eastEnd
  (if w then [0] else []) ++ (if e then [1] else [])

/-- Whether a rate step passes (R357). -/
def State.stepPasses (s : State) (n : Nat) : Bool :=
  let emax := s.rd (pgTLNK n) R.TLNK_TRAIN_ERRMAX
  let fmin := s.rd (pgTLNK n) R.TLNK_TRAIN_FOMMIN
  s.locked n && decide ((s.tl n).prbs ≤ emax) && decide (fmin ≤ s.rd (pgTLNK n) R.TLNK_FOM_FOM) &&
  (List.range (s.nfit n)).all fun p => (s.tpos n p).linked && (s.portsUsed n p).all fun q =>
    let l := (s.tpos n p).link
    decide (leAt l (16 * q) 4 ≤ emax) && decide (fmin ≤ byteAt l (16 * q + 13))

/-- The step is judged once every tile that answers has reported: the lead end steps up, steps down or settles (R357). -/
def State.judgeStep (s : State) (n : Nat) : State :=
  if s.lstate n ≠ 3 ∨ !(s.tl n).asked ∨ s.inJob ∨ !((List.range (s.nfit n)).all fun p => !(s.tpos n p).answered || (s.tpos n p).linked) then s
  else
    let r := s.rate n
    if s.stepPasses n then (if r < s.rateAllowed n then s.stepTo n (r + 1) else s.settleLane n)
    else
      let s := s.rateFail n r
      if 0 < r then s.stepTo n (r - 1) else s.settleLane n

/-- The PRBS dwell is over: at the lead end LINKREQ asks the tiles for their counts, and the step is judged when they have
reported; the other end settles until the next RATE (R352, R357). -/
def State.dwellEnd (s : State) (n : Nat) : State :=
  match (s.tl n).dwellAt with
  | none => s
  | some d =>
    if s.lstate n ≠ 3 ∨ (s.tl n).asked ∨ s.now < d + ms (atLeast1 (s.rd (pgTLNK n) R.TLNK_TRAIN_PRBSMS)) then s
    else if !s.leadEnd then s.settleLane n
    else
      let s := State.each (fun s p => s.setTpos n p { s.tpos n p with linked := false }) s (List.range 5)
      (s.setTl n { s.tl n with asked := true }).sendTest n 3 (leBytes 1 1 ++ zeros 3)

/-- The lane reaches UP (R359), or DEGRADED with a tile missing (LSTATE 7), after what its tiles still lack. -/
def State.laneIsUp (s : State) (n : Nat) : State :=
  let s := if s.lstate n = 5 then s.provision n else s
  let ready := (List.range (s.nfit n)).all fun p =>
    let x := s.tpos n p
    !x.answered || (x.setSent && x.facSent && x.delaySent && x.tlost == some false)
  if s.lstate n = 5 ∧ s.locked n ∧ 0 < s.answers n ∧ ready then
    if s.allAnswered n then (s.setLstate n 6).raise (pgTLNK n) 2 (s.rate n) else s.setLstate n 7
  else s

/-- TLNK_CTL.BRINGUP (R353). -/
def State.bringUp (s : State) (n : Nat) : State := if s.pagesUp then s.laneStart n else s

/-! ### Frames from tiles (R387, R380, R397) -/

/-- A CAP frame arrives on a lane (R354, R387, R417). -/
def State.tileCap (s : State) (n : Nat) (f : List Byte) : State :=
  s.statFrame n f 1 fun s p pl =>
    let b := n / 5
    let s := s.setTpos n p { s.tpos n p with cap := some pl, answered := true }
    let s := s.wr (pgTLNK n) R.TLNK_STAT_NTILES (s.answers n)
    let s := if bitOf (byteAt pl 7) 2 then s.raise (pgTLNK n) 11 p else s
    ((s.newSerial b (tileOf n p) (leAt pl 16 8)).laneAnswered n)

/-- A LINK frame arrives on a lane (R387). -/
def State.tileLink (s : State) (n : Nat) (f : List Byte) : State :=
  s.statFrame n f 3 fun s p pl =>
    (s.setTpos n p { s.tpos n p with link := pl, linked := true }).judgeStep n

/-- What a queued command does at the present tick if it is the CAP frame of a tile. -/
def State.capNow (s : State) : Instr → Option State
  | .tileCap t n f => if t.toNat = s.now then some (s.tileCap n.val f) else none
  | _ => none

/-- The CAP frames of this tick that still wait in the queue are processed, and noted: a new serial number discards a result
of the same handshake (R427). -/
def State.capsFirst (s : State) : State := s.actAhead State.capNow

/-- A MEAS result arrives on a lane (R387, R405, R427). -/
def State.measFrame (s : State) (n : Nat) (f : List Byte) : State :=
  s.capsFirst.statFrame n f 2 fun s p pl => s.measResult n p pl

/-- What a queued command does at the present tick if it is a MEAS result. -/
def State.resultNow (s : State) : Instr → Option State
  | .measResult t n f => if t.toNat = s.now then some (s.measFrame n.val f) else none
  | _ => none

/-- The MEAS results of this tick that still wait in the queue are processed, and noted: a rebase or a baseline written in
the same handshake acts after them (R427). -/
def State.resultsFirst (s : State) : State := s.actAhead State.resultNow

/-- The wire delay in 1/8 tick that an ECHO gives for a probe that left at pair tick `t1` (R380). -/
def State.echoDelay (s : State) (n t1 : Nat) (f : List Byte) : Int :=
  let pl := tilePayload f
  let t4 : Int := (s.pairTick : Int) - (s.rd (pgTLNK n) R.TLNK_LAT_RXLAT : Nat)
  let up := sgn 40 (uns 40 (t4 - (t1 : Nat)))
  let turn := sgn 40 (uns 40 ((leAt pl 14 5 : Int) - (leAt pl 5 5 : Nat)))
  8 * (up - turn - sgn 32 (leAt pl 10 4) - sgn 32 (leAt f 12 4))

/-- A delay sample of a position joins its last four, whose mean is the delay of the device's end (R380). -/
def State.wireSample (s : State) (n p : Nat) (d : Int) : State :=
  let x := s.tpos n p
  let ds := (d :: x.samples).take 4
  let m := (sumI ds).fdiv ds.length
  let x := { x with samples := ds }
  s.setTpos n p (if s.eastEnd then { x with dE := m } else { x with dW := m })

/-- The probe in progress is over. -/
def State.probeOver (s : State) (n : Nat) : State := s.setTl n { s.tl n with probed := none }

/-- An ECHO gives a wire delay: the mean of the last four is sent in DELAY (R380). -/
def State.timeEcho (s : State) (n : Nat) (f : List Byte) : State :=
  if !s.laneOn n || decide (s.lstate n = 0) then s
  else if !(State.tileGood n f && decide (tileType f = 4) && decide (tileSub f = 2)) then s.tileBad n
  else if tileDest f ≠ 0xE then s
  else
    let p := tileSrc f
    let s := s.sawEpoch (leAt f 4 4)
    match (s.tl n).probed with
    | none => s
    | some (q, t1) =>
      if q ≠ p ∨ leAt (tilePayload f) 0 5 ≠ t1 then s
      else ((s.wireSample n p (s.echoDelay n t1 f)).probeOver n).sendDelay n p

/-- Whether a frame of another epoch fences the device: an active device, or a standby whose takeover is in progress
(R25, R397, R615). -/
def State.fencedBy (s : State) (e : Nat) : Bool :=
  newerEpoch e (s.rd pgTWIN R.TWIN_EPOCH) && (s.isActive || s.dev.role == .solo || s.twin.declared.isSome)

/-- A frame of the other device of the pair: R25 for an EPOCH; RATE is followed by the end that does not lead; the
frame is discarded and counted otherwise (R352, R397). -/
def State.otherFrame (s : State) (n : Nat) (f : List Byte) : State :=
  if !s.laneOn n || decide (s.lstate n = 0) then s
  else if !State.tileGood n f then s.tileBad n
  else if !s.fromOther f then s
  else
    let e := leAt f 4 4
    let s := s.sawEpoch e
    let s := if tileType f = 7 ∧ s.fencedBy e then
        let s := s.fence 4 (pgTLNK n) 13
        s.setTwin { s.twin with declared := none }
      else s
    let r := byteAt (tilePayload f) 0
    if tileType f = 8 ∧ tileSub f = 2 ∧ !s.leadEnd ∧ !s.inJob ∧ r ≤ 3 then
      if r = s.rate n then s else s.stepTo n r
    else s.inc (pgTLNK n) R.TLNK_DISC_OTHER

/-! ### Time, epochs and idle frames (R377 to R383, R389, R392) -/

/-- Whether a lane carries TIME frames: its state lets it, or a standby heals its chain (R383, R399). -/
def State.timeOpen (s : State) (n : Nat) : Bool :=
  (s.tilesOpen || (s.isStandby && s.rdb (pgTLNK n) R.TLNK_STAT_HEALED)) && decide (5 ≤ s.lstate n) && decide (s.lstate n ≤ 7)

/-- A SYNC once SYNCINT has passed (R383). -/
def State.timeSync (s : State) (n : Nat) : State :=
  let l := s.tl n
  if !s.timeOpen n || (l.syncAt ≠ 0 && decide (s.now < l.syncAt + us (max 8 (s.rd (pgTLNK n) R.TLNK_TIMECFG_SYNCINT)))) then s
  else
    (s.setTl n { l with syncAt := s.now }).tileSend n 4 0 0xF
      (leBytes (s.pairTick + s.rd (pgTLNK n) R.TLNK_LAT_TXLAT) 5 ++ zeros 3)

/-- A PROBE to the next tile once PROBEINT has passed (R380). A standby keeps the delays that it measured in LINKUP (R399,
R594). -/
def State.timeProbe (s : State) (n : Nat) : State :=
  let l := s.tl n
  if !s.timeOpen n || s.nfit n == 0 || (s.isStandby && s.dev.state != .linkup) ||
      (l.probeAt ≠ 0 && decide (s.now < l.probeAt + ms (atLeast1 (s.rd (pgTLNK n) R.TLNK_TIMECFG_PROBEINT)))) then s
  else
    let p := l.probe % s.nfit n
    let t1 := (s.pairTick + s.rd (pgTLNK n) R.TLNK_LAT_TXLAT) % 2 ^ 40
    (s.setTl n { l with probeAt := s.now, probed := some (p, t1), probe := (p + 1) % s.nfit n }).tileSend n 4 1 p
      (leBytes t1 5 ++ zeros 3)

/-- The EPOCH of a lane with its FROMSLOT. -/
def State.sendEpoch (s : State) (n : Nat) (fromSlot : Int) : State :=
  s.tileSend n 7 0 0xF (leBytes (b2n s.eastEnd) 1 ++ zeros 7 ++ leBytes (uns 48 fromSlot) 6 ++ zeros 2)

/-- EPOCH on every lane in service by an active or solo device (R389). Without a job the manual gives no FROMSLOT: a free
value (log entry 4). -/
def State.epochSend (s : State) : State :=
  if (s.dev.role == .active || s.dev.role == .solo) && (s.dev.state == .ready || s.inJob) then
    State.each (fun s n =>
      if !s.laneUp n then s
      else
        match s.jobs.cur with
        | some j =>
          if bitOf j.bars (n / 5) then s.sendEpoch n (s.barF (n / 5)).next
          else let (d, s) := s.draw; s.sendEpoch n (sgn 48 (Config.freeWord d).toNat)
        | none => let (d, s) := s.draw; s.sendEpoch n (sgn 48 (Config.freeWord d).toNat)) s (List.range 40)
  else s

/-- An IDLE frame on a lane that has carried nothing for 10 us (R392). -/
def State.idleSend (s : State) (n : Nat) : State :=
  if s.pagesUp && decide (s.lstate n ≠ 0) && decide ((s.tl n).txAt + us 10 ≤ s.now) then
    s.tileSend n 0 0 0xF (leBytes s.dev.state.code 1 ++ leBytes s.dev.role.code 1 ++ zeros 2)
  else s

/-! ### PRBS and adaptation (R361 to R364) -/

/-- One step of PRBS31 (log entry 34): the next state and its bit. -/
def prbsStep (x : Nat) : Nat := x * 2 % 2 ^ 31 + b2n (bitOf x 30 != bitOf x 27)

/-- Eight bits of PRBS31 from a state, least significant first, with the state after them. -/
def prbsByte (x : Nat) : Nat → Nat × Nat
  | 0 => (0, x)
  | k + 1 =>
    let y := prbsStep x
    let (v, z) := prbsByte y k
    (y % 2 + 2 * v, z)

/-- `k` bytes of PRBS31 from a state. -/
def prbsBytes (x : Nat) : Nat → List Byte
  | 0 => []
  | k + 1 => let (v, y) := prbsByte x 8; BitVec.ofNat 8 v :: prbsBytes y k

/-- A PRBS frame of 64 payload bytes in an idle gap, or back to back in training (R357, R362). The manual leaves the
state that a frame starts from open: a free value (log entry 4). -/
def State.prbsSend (s : State) (n : Nat) : State :=
  let train := decide (s.lstate n = 3)
  let idle := decide (s.lstate n = 6) && s.rdb (pgTLNK n) R.TLNK_CTL_IDLEPRBS && decide ((s.tl n).txAt + us 10 ≤ s.now)
  if train || idle then
    let (d, s) := s.draw
    let x := (Config.freeWord d).toNat % 2 ^ 31
    s.sendTest n 0 (leBytes x 4 ++ prbsBytes x 60)
  else s

/-- Bits in which two lists of bytes differ. -/
def bitErrors : List Byte → List Byte → Nat
  | a :: as, b :: bs => popCount (a ^^^ b).toNat 8 + bitErrors as bs
  | _, _ => 0

/-- A PRBS frame arrives: its bit errors are counted, and a failure of its CRC; one that R366 discards for its header or its
length counts alone (R361, R366). -/
def State.prbsReceive (s : State) (n : Nat) (f : List Byte) : State :=
  if !s.laneOn n || !s.locked n then s
  else
    let pl := (f.drop 16).take (f.length - 20)
    let head := decide (byteAt f 0 / 16 = 1) && decide (byteAt f 3 = n) && decide (leAt f 8 2 + 20 = f.length) &&
      isPrbs (tileType f) (tileSub f) && tileForm 8 0 pl
    if !head then s.tileBad n
    else
      let s := if State.tileFrameOk n f then s else s.tileBad n
      let body := pl.drop 4
      let e := bitErrors body (prbsBytes (leAt pl 0 4 % 2 ^ 31) body.length)
      let l := s.tl n
      let s := (s.setTl n { l with prbs := l.prbs + e, prbsAt := s.now }).addTo (pgTLNK n) R.TLNK_PRBSERR e
      let h := s.twin.health
      s.setTwin { s.twin with health := { h with tilePrbs := satAdd 16 h.tilePrbs e } }

/-- A TEST frame on a twin lane in an idle gap, with the sequence of R361 (R575, R595). -/
def State.twinTest (s : State) (k : Nat) : State :=
  if !s.twinPowered || !s.twinUp k || decide (s.now < mget 0 s.twin.txAt k + us 10) then s
  else
    let (d, s) := s.draw
    let x := (Config.freeWord d).toNat % 2 ^ 31
    s.twinSendOn k (.test (leBytes x 4 ++ prbsBytes x 60))

/-- The payload of a TEST frame arrives on a twin lane: its bit errors count for the health period (R595). -/
def State.twinTestIn (s : State) (k : Nat) (pl : List Byte) : State :=
  if !s.twinPowered || !s.twinUp k then s
  else
    let h := s.twin.health
    let e := bitErrors (pl.drop 4) (prbsBytes (leAt pl 0 4 % 2 ^ 31) (pl.length - 4))
    s.setTwin { s.twin with health := { h with twinPrbs := satAdd 16 h.twinPrbs e } }

/-- A PRBS frame leaves on a lane: tile lanes 0 to 39, twin lanes 40 and 41 (R362, R575). -/
def State.prbsOut (s : State) (n : Nat) : State := if n < 40 then s.prbsSend n else s.twinTest (n - 40)

/-- A PRBS frame arrives on a lane: tile lanes 0 to 39, twin lanes 40 and 41 (R361, R575). -/
def State.prbsIn (s : State) (n : Nat) (f : List Byte) : State := if n < 40 then s.prbsReceive n f else s.twinTestIn (n - 40) f

/-- Whether a trial step of the equaliser is kept (R364): by PRBS errors in mode 0 while PRBS frames arrive at least once
per millisecond, else by the FOM. -/
def State.keepStep (s : State) (n fom : Nat) : Bool :=
  let l := s.tl n
  let byPrbs := s.rd (pgTLNK n) R.TLNK_CTL_ADAPT % 3 = 0 && decide (s.now < l.prbsAt + ms 1)
  if byPrbs then decide (l.prbs ≤ l.eqPrbs) else decide (s.rd (pgTLNK n) R.TLNK_FOM_FOM ≤ fom) || s.rd (pgTLNK n) R.TLNK_FOM_FOM == 255

/-- An adaptation step with the FOM that the receiver measures after it, which the registers show (R363, R364). In mode 2
nothing adapts. -/
def State.adapt (s : State) (n fom : Nat) : State :=
  if !s.laneOn n || !s.locked n then s
  else
    let frozen := s.rd (pgTLNK n) R.TLNK_CTL_ADAPT == 2
    let keep := !frozen && s.keepStep n fom
    let old := s.rd (pgTLNK n) R.TLNK_FOM_FOM
    let new := fom
    let l := s.tl n
    let s := s.setTl n { l with eqPrbs := l.prbs, eqStep := if keep then l.eqStep + 1 else l.eqStep }
    let s := (s.wr (pgTLNK n) R.TLNK_FOM_FOM new).wr (pgTLNK n) R.TLNK_FOM_MINFOM (min new (s.rd (pgTLNK n) R.TLNK_FOM_MINFOM))
    let m := s.rd (pgTLNK n) R.TLNK_TRAIN_FOMMIN
    if s.lstate n = 6 ∧ new < m ∧ m ≤ old then s.raise (pgTLNK n) 10 new else s

/-! ### Breaks and healing (R398, R399, R612) -/

/-- Whether a position has sent STATUS within 3 ms. -/
def State.reports (s : State) (n p : Nat) : Bool :=
  decide ((s.tpos n p).statAt ≠ 0) && decide (s.now < (s.tpos n p).statAt + ms 3)

/-- STATUS frames in a row in which a tile has reported unlocked the port on a side: towards the device's own end, or away
from it. -/
def State.unlocks (s : State) (n p : Nat) (own : Bool) : Nat :=
  if own = s.eastEnd then (s.tpos n p).unlockE else (s.tpos n p).unlockW

/-- Whether a break at a hop stands by R398. Positions and hops are counted from the device's own end: hop 0 is its own, hop
`h` lies between the places `h − 1` and `h`, and the last is the other device's. -/
def State.breakAt (s : State) (n h : Nat) : Bool :=
  let k := s.nfit n
  let at_ := fun q => if s.eastEnd then k - 1 - q else q
  let unlocked := (decide (h < k) && decide (2 ≤ s.unlocks n (at_ h) true)) ||
    (decide (0 < h) && decide (2 ≤ s.unlocks n (at_ (h - 1)) false))
  let silent := decide (0 < h) && decide (h < k) && s.reports n (at_ (h - 1)) &&
    (List.range k).all fun q => decide (q < h) || !s.reports n (at_ q)
  decide (h ≤ k) && ((unlocked && (decide (h ≠ k) || s.pairMode)) || silent)

/-- A break is declared: BREAKHOP, flag BREAK and DEGRADED; an active device starts the relay if the far end of the lane
is UP and a twin lane is up (R398, R612). -/
def State.chainBreak (s : State) (n h : Nat) (farUp : Bool) : State :=
  if !s.laneUp n || s.rd (pgTLNK n) R.TLNK_STAT_BREAKHOP == h || !s.breakAt n h then s
  else
    let s := ((s.wr (pgTLNK n) R.TLNK_STAT_BREAKHOP h).raise (pgTLNK n) 6 h).setLstate n 7
    if s.isActive && farUp && s.anyTwin then
      let tw := s.twin
      s.setTwin { tw with relay := tw.relay.filter (· ≠ n) ++ [n] }
    else s

/-- Every relay stops when both twin lanes are down (R614). -/
def State.relayStop (s : State) : State :=
  if s.anyTwin then s
  else
    let lanes := (List.range 40).filter fun n => s.twin.relay.contains n || s.rdb (pgTLNK n) R.TLNK_STAT_HEALED
    let s := s.setTwin { s.twin with relay := [] }
    State.each (fun s n => (s.wr (pgTLNK n) R.TLNK_STAT_HEALED 0).raise pgTWIN 10 n) s lanes

end Sys2Proof.Machine
end

