-- ==== Sys2Proof/Machine/ThermOps.lean ====
section
/-!
DEFINITION. Thermal management (18): readings, faulty sensors, limits, levels and their actions.
-/
namespace Sys2Proof.Machine

/-- A sensor. -/
def State.sensor (s : State) (n : Nat) : ThermSensor := mget {} s.therm.sens n

/-- Replaces a sensor. -/
def State.setSensor (s : State) (n : Nat) (x : ThermSensor) : State :=
  { s with therm := { s.therm with sens := mset {} s.therm.sens n x } }

/-- The group of a sensor: 0 die, 1 DRAM. -/
def groupOf (n : Nat) : Nat := if n < 32 then 0 else 1

/-- The sensors of a group. -/
def groupSensors (g : Nat) : List Nat := if g = 0 then List.range 32 else (List.range 8).map (32 + ·)

/-- The level of a group. -/
def State.level (s : State) (g : Nat) : Nat := s.rd pgTHRM (if g = 0 then R.THRM_STAT_DIELEVEL else R.THRM_STAT_DRAMLEVEL)

/-- Writes the level of a group. -/
def State.setLevel (s : State) (g v : Nat) : State :=
  s.wr pgTHRM (if g = 0 then R.THRM_STAT_DIELEVEL else R.THRM_STAT_DRAMLEVEL) v

/-- The four limits of a group, degC, in the order of their levels. -/
def State.limits (s : State) (g : Nat) : List Nat :=
  if g = 0 then [s.rd pgTHRM R.THRM_DIELIM_THROT, s.rd pgTHRM R.THRM_DIELIM_SLOW, s.rd pgTHRM R.THRM_DIELIM_FAIL,
    s.rd pgTHRM R.THRM_DIELIM_CRIT]
  else [s.rd pgTHRM R.THRM_DRAMLIM_THROT, s.rd pgTHRM R.THRM_DRAMLIM_SLOW, s.rd pgTHRM R.THRM_DRAMLIM_FAIL,
    s.rd pgTHRM R.THRM_DRAMLIM_CRIT]

/-- The rate limit of a group in 1/128 degC/s, if it is enabled. -/
def State.rateLimitOf (s : State) (g : Nat) : Option Int :=
  let v := s.rd pgTHRM (if g = 0 then R.THRM_RATE_DIERATE else R.THRM_RATE_DRAMRATE)
  if v = 0 then none else some ((v * 128 : Nat) : Int)

/-- THRM_RATE.ACT: 1 to 3. -/
def State.rateAct (s : State) : Nat := clampN 1 3 (s.rd pgTHRM R.THRM_RATE_ACT)

/-! ### Readings (R616, R617) -/

/-- The calibration of a sensor: T1 and T2 in 1/128 degC, f1 and f2. The values of the part are not given by the
manual (log entry 33, DESIGN CHOICE). -/
def State.calibration (s : State) (n : Nat) : Int × Int × Int × Int :=
  let v := fun k d => ((mfind s.part.cal (4 * n + k)).map fun (w : BitVec 32) => w.toInt).getD d
  (v 0 0, v 1 12800, v 2 20000, v 3 10000)

/-- The reading of a sample in 1/128 degC, truncated towards minus infinity (R616); none without a calibration. -/
def State.reading (s : State) (n count : Nat) : Option Int :=
  let (t1, t2, f1, f2) := s.calibration n
  if !s.part.calOk || decide (f1 = f2) then none
  else
    let num := (count - f1) * (t2 - t1)
    some (t1 + (if 0 < f2 - f1 then num.fdiv (f2 - f1) else (-num).fdiv (f1 - f2)))

/-! ### Sampling (R619, R620) -/

/-- MARGIN in 1/128 degC; 0 acts as 1. -/
def State.sampMargin (s : State) : Int := (128 * atLeast1 (s.rd pgTHRM R.THRM_SAMPCFG_MARGIN) : Nat)

/-- Whether a reading lies within the margin below a limit of its group (R619). -/
def State.nearLimit (s : State) (n : Nat) (t : Int) : Bool :=
  let ls := s.limits (groupOf n) ++ (if n < 32 then [] else [s.rd pgDRAM R.DRAM_REFCFG_HOTLIM])
  ls.any fun l => let x : Int := (l * 128 : Nat); decide (x - s.sampMargin ≤ t) && decide (t ≤ x)

/-- WIN of THRM_RATE in ms; 0 acts as 1. -/
def State.rateWin (s : State) : Nat := atLeast1 (s.rd pgTHRM R.THRM_RATE_WIN)

/-- The readings that a later rate may need: those newer than WIN, and the newest that is older. -/
def keepHist (limit : Nat) : List (Nat × Int) → List (Nat × Int)
  | [] => []
  | e :: t => if e.1 ≤ limit then [e] else e :: keepHist limit t

/-- The rate of rise of a sensor in 1/128 degC/s (R620); 0 while no reading is old enough. -/
def State.rateOf (s : State) (x : ThermSensor) (t : Int) : Int :=
  match x.hist.find? fun e => decide (e.1 + ms s.rateWin ≤ s.now) with
  | some e => ((t - e.2) * 1000).fdiv s.rateWin
  | none => 0

/-! ### Levels and actions (R618, R621 to R625) -/

/-- The device level: the higher of the two groups. -/
def State.devLevel (s : State) : Nat := max (s.level 0) (s.level 1)

/-- Whether the action of a level is enabled. -/
def State.actEn (s : State) (k : Nat) : Bool := bitOf (s.rd pgTHRM R.THRM_CTL_ACTEN) (k - 1)

/-- The actions that last while the level does: throttling and SPEED_LIMIT (R624). -/
def State.thermHold (s : State) : State :=
  let l := s.devLevel
  let want := decide (1 ≤ l) && s.actEn 1
  let s := { s with therm := { s.therm with throttle := want,
                                            throttleAt := if want = s.therm.throttle then s.therm.throttleAt else s.now } }
  (s.setFire { s.fire with thermal := decide (2 ≤ l) && s.actEn 2 }).setLimitLine

/-- The actions at an entry to a device level (R624). `inStep` tells whether the twin of an active device is in
step. -/
def State.thermEnter (s : State) (old : Nat) (inStep : Bool) : State :=
  let l := s.devLevel
  let s := s.thermHold
  let s :=
    if old < 3 && decide (3 ≤ l) && s.actEn 3 then
      if s.isActive && inStep && s.twin.declared.isNone && sideAllowed s.dev.state 3 .fenced then s.handover
      else s.raise pgTHRM 5
    else s
  if old < 4 && decide (4 ≤ l) && s.actEn 4 then s.enterSide .safe 7 else s

/-- The valid sensors of a group. -/
def State.validSensors (s : State) (g : Nat) : List Nat :=
  (groupSensors g).filter fun n => (s.sensor n).seen && !(s.sensor n).fault

/-- A group rises to a level (R621). -/
def State.raiseLevel (s : State) (g l : Nat) (inStep : Bool) : State :=
  if l ≤ s.level g then s
  else
    let old := s.devLevel
    let s := (s.setLevel g l).raise pgTHRM 0 (g * 8 + l)
    let s := State.each (fun s n => s.setSensor n { s.sensor n with below := 0 }) s (groupSensors g)
    s.thermEnter old inStep

/-- Whether a group counts as at the failover level for want of sensors (R618): fewer than 24 valid die sensors, or a
subchannel without its DRAM sensor. -/
def State.fewSensors (s : State) (g : Nat) : Bool :=
  let bad := ((groupSensors g).filter fun n => (s.sensor n).fault).length
  if g = 0 then decide (8 < bad) else decide (0 < bad)

/-- A group falls by one level once every valid sensor has read below for 16 samples and no rate is above its limit
(R622). -/
def State.fallLevel (s : State) (g : Nat) : State :=
  let l := s.level g
  let vs := s.validSensors g
  let calm := vs.all fun n => decide (16 ≤ (s.sensor n).below) &&
    (match s.rateLimitOf g with | some r => decide ((s.sensor n).rate ≤ r) | none => true)
  if l = 0 ∨ 4 ≤ l ∨ !calm ∨ vs = [] ∨ (l = 3 ∧ s.fewSensors g) then s
  else
    let s := (s.setLevel g (l - 1)).raise pgTHRM 1 (g * 8 + (l - 1))
    (State.each (fun s n => s.setSensor n { s.sensor n with below := 0 }) s (groupSensors g)).thermHold

/-- The hottest valid reading of a group; 0 without one. -/
def State.hottest (s : State) (g : Nat) : Int :=
  match (s.validSensors g).map fun n => (s.sensor n).temp with
  | [] => 0
  | a :: t => t.foldl max a

/-- THRM_MAX, FAST and NFAULT follow the sensors. -/
def State.thermRegs (s : State) : State :=
  let all := List.range 40
  let s := s.wr pgTHRM R.THRM_STAT_NFAULT (all.filter fun n => (s.sensor n).fault).length
  let s := s.wr pgTHRM R.THRM_STAT_FAST (b2n (all.any fun n => (s.sensor n).fast))
  (s.wri pgTHRM R.THRM_MAX_DIE (s.hottest 0)).wri pgTHRM R.THRM_MAX_DRAM (s.hottest 1)

/-- A sample of a sensor finds it faulty (R617, R618). -/
def State.badSample (s : State) (n count : Nat) (cal inStep : Bool) : State :=
  let x := s.sensor n
  let s := s.setSensor n { x with fault := true, good := 0, count := count, tick := s.now }
  let s := if x.fault then s
    else
      let s := if cal then s.raise pgTHRM 3 n else s
      s.raise pgTHRM 2 n
  if s.fewSensors (groupOf n) then s.raiseLevel (groupOf n) 3 inStep else s

/-- A good sample of a sensor that takes part in the limits (R619 to R625). Its readings are kept for the longest window that
THRM_RATE.WIN can name, so that a window written later finds its reading (R620). -/
def State.goodSample (s : State) (n count : Nat) (t : Int) (inStep : Bool) : State :=
  let g := groupOf n
  let x := s.sensor n
  let rate := s.rateOf x t
  let near := s.nearLimit n t
  let out := if near then 0 else x.out + 1
  let lvl := s.level g
  let lim : Int := (128 * nth 0 (s.limits g) (lvl - 1) : Nat)
  let hyst : Int := (128 * atLeast1 (s.rd pgTHRM R.THRM_CTL_HYST) : Nat)
  let below := if lvl ≠ 0 ∧ t < lim - hyst then x.below + 1 else 0
  let y : ThermSensor := {
    x with temp := t, seen := true, rate := rate, count := count, tick := s.now, out := out,
           fast := near || (x.fast && decide (out < 16)), below := below,
           hist := (s.now, t) :: keepHist (s.now - ms 255) x.hist }
  let s := s.setSensor n y
  let abs := ((s.limits g).filter fun l => decide (((128 * l : Nat) : Int) ≤ t)).length
  let byRate := match s.rateLimitOf g with | some r => if r < rate then s.rateAct else 0 | none => 0
  let crit := decide (((128 * nth 0 (s.limits g) 3 : Nat) : Int) ≤ t)
  let s := if crit && !s.rdb pgTHRM R.THRM_STAT_THERMN then (s.wr pgTHRM R.THRM_STAT_THERMN 1).raise pgTHRM 4 n else s
  -- the number of limits reached is the level of the highest, since they rise (R623)
  (s.raiseLevel g (max abs byRate) inStep).fallLevel g

/-- Sensors are sampled from step 5 of LOAD on (R619, R660). -/
def State.sensing (s : State) : Bool :=
  !(s.dev.state == .off || s.dev.state == .reset) && decide (6 ≤ s.rd pgSYS R.SYS_START_STEP)

/-- A sample of a sensor with its count, or without one (R616 to R625). -/
def State.thermalSample (s : State) (n : Nat) (count : Option Nat) (inStep : Bool) : State :=
  if !s.sensing then s
  else
    let r := match count with | some f => s.reading n f | none => none
    let ok := match r with | some t => decide (-5120 ≤ t) && decide (t ≤ 19200) | none => false
    let x := s.sensor n
    let f := count.getD 0
    let cal := count.isSome && r.isNone
    let s :=
      match r with
      | some t =>
        if !ok then s.badSample n f cal inStep
        else if x.fault && decide (x.good + 1 < 16) then
          s.setSensor n { x with good := x.good + 1, temp := t, count := f, tick := s.now }
        else (s.setSensor n { x with fault := false, good := 0 }).goodSample n f t inStep
      | none => s.badSample n f cal inStep
    let s := if 32 ≤ n then s.scTemp (n - 32) (if (s.sensor n).fault then none else some (s.sensor n).temp) else s
    s.thermRegs

/-- The level of THERM_N: low once a valid sensor has reached CRIT (R625). -/
def State.thermN (s : State) : Bool := !s.rdb pgTHRM R.THRM_STAT_THERMN

/-- Whether a value of THRM_DIELIM or THRM_DRAMLIM satisfies R623. -/
def limitsOk (dram : Bool) (v : Nat) : Bool :=
  let b := fun i => bitsOf v (8 * i) 8
  decide (b 0 ≤ b 1) && decide (b 1 ≤ b 2) && decide (b 2 ≤ b 3) && decide (b 3 ≤ if dram then 105 else 125)

end Sys2Proof.Machine
end

