-- ==== Sys2Proof/Machine/Finish.lean ====
section
/-!
DEFINITION. What follows every command: conditions that the rules state for as long as they hold.
-/
namespace Sys2Proof.Machine

/-- FENCED, FROZEN or SAFE: the side states other than HALTED (R25). -/
def State.sideState (s : State) : Bool := s.dev.state == .fenced || s.dev.state == .frozen || s.dev.state == .safe

/-- In FENCED, FROZEN and SAFE the outstanding MEAS commands are discarded (R407). -/
def State.measDrop (s : State) : State :=
  if s.sideState then
    { s with tileHealth := (s.tileHealth.map fun e => (e.1, { e.2 with out := none })).filter fun e => decide (e.2 ≠ {}) }
  else s

/-- What a standby follows of a session (R590): whether it is open, its lane and address, and both numbers. -/
def Session.shared (x : Session) : Bool × Nat × Nat × Nat × Nat := (x.open_, x.lane, x.mac, x.expected, x.nextSeq)

/-- An active device sends each session below `n` whose state has changed since `old` (R584, R590). -/
def State.shareSessions (s old : State) : Nat → State
  | 0 => s
  | n + 1 =>
    let s := s.shareSessions old n
    let x := s.session n
    if s.isActive && decide (x.shared ≠ (old.session n).shared) then
      s.sendDelta (.session (Fin.ofNat 8 n) x.open_ (Fin.ofNat 4 x.lane) (BitVec.ofNat 48 x.mac)
        (BitVec.ofNat 32 x.expected) (BitVec.ofNat 32 x.nextSeq))
    else s

/-- A HELLO on each twin lane on a change of state or role once the pair has formed (R575). -/
def State.helloChange (s old : State) : State :=
  if s.twinPowered && s.twin.paired && !(s.dev.state == old.dev.state && s.dev.role == old.dev.role) then
    s.twinSendBoth (.hello s.hello)
  else s

/-- In every side state but HALTED, SLUICE_OUT is released (R31). -/
def State.sluiceRule (s : State) : State :=
  if s.sideState then s.sluiceLow else s

/-- After each command, `old` being the state before it: the colour loop follows its hold conditions; the flags of
the handshake are set; a CREDIT that a new limit asks for is sent, a change of state or role is told to the twin, changed
sessions go to the standby; the press outputs follow their sources, SLUICE_OUT and the outstanding MEAS commands the device
state (R31, R73, R225, R407, R497, R575, R590, R684). -/
def State.finish (s old : State) : State :=
  ((s.loopHold.raiseAll.credits.helloChange old).shareSessions old 8).settle.sluiceRule.measDrop

/-- The next state of a command that began in `s` and made `e` of it: what follows every command, with the queue as the
step left it (log entry 1). -/
def State.after (e s : State) : State := { e.finish s with pending := s.pending }

/-- A command at a tick: what it does, then what follows every command. -/
def State.does (s : State) (t : Tick) (f : State → State) : Host.Outcome State Fault Refusal :=
  .next ((f (s.atTick t)).after s)

end Sys2Proof.Machine
end

