-- ==== Sys2Proof/Machine/Views.lean ====
section
/-!
DEFINITION. What a read of a register answers: the header registers of R38, registers whose value follows the
state of their block, the data registers of table windows, and what a read changes.
-/
namespace Sys2Proof.Machine

/-! ### Masters and pages -/

/-- The page number of a byte address. -/
def pageNo (addr : Nat) : Nat := addr / 4096

/-- The offset of a byte address in its page. -/
def pageOff (addr : Nat) : Nat := addr % 4096

/-- Whether a master is privileged (R41). -/
def State.privileged (s : State) : Master → Bool
  | .net k => (s.session k.val).priv
  | _ => true

/-- Whether a master is SVC or a NET session. -/
def isHost : Master → Bool
  | .svc => true | .net _ => true | _ => false

/-- Whether an offset lies in a privileged group of its page (R42). -/
def privOffset (k : PageKind) (off : Nat) : Bool := bitOf k.privGroups (off / 0x80)

/-- Whether a page answers: before LINKUP only SYS, PRIV, TIME and THRM do, in OFF
and RESET none (R661). -/
def State.pageAnswers (s : State) (k : PageKind) : Bool :=
  s.dev.state != .off && s.dev.state != .reset &&
    (s.pagesUp || k == .sys || k == .priv || k == .time || k == .thrm)

/-- Whether a register of an absent unit reads as zero and ignores writes: bars 4 to 7 and lanes 20 to 39 on
ET822-4T, and the TWIN page on ET822-8S, whose header still reads (R2, R7). -/
def State.absent (s : State) (k : PageKind) (inst off : Nat) (write : Bool) : Bool :=
  match k with
  | .rast => s.part.number == .et822t4 && decide (4 ≤ inst)
  | .fire => s.part.number == .et822t4 && decide (4 ≤ inst)
  | .hlth => s.part.number == .et822t4 && decide (4 ≤ inst)
  | .tlnk => s.part.number == .et822t4 && decide (20 ≤ inst)
  | .twin => s.part.number == .et822s8 && (write || decide (0x40 ≤ off))
  | _ => false

/-! ### Header registers (R38) -/

/-- The mailbox of a master on a page (R67). -/
def State.mbx (s : State) (pg : Nat) (m : Master) : Mbx := mget {} (s.head pg).mbx (masterCode m)

/-- Replaces the mailbox of a master on a page. -/
def State.setMbx (s : State) (pg : Nat) (m : Master) (x : Mbx) : State :=
  let h := s.head pg
  s.setHead pg { h with mbx := mset {} h.mbx (masterCode m) x }

/-- PG_STAT.ENABLED: PG_CTL.EN where it is writable, MODE of a host lane; elsewhere the block's own state: the timebase counts,
the DRAM is trained, the colour loop's page by its EN, and every other block runs from its page's first answer (R705; log
entry 35). -/
def State.running (s : State) (pg : Nat) (k : PageKind) : Bool :=
  match k with
  | .time => s.time.running
  | .dram => s.rdb pgDRAM R.DRAM_STAT_TRAINED
  | .sc => s.rdb pgDRAM R.DRAM_STAT_TRAINED
  | .hlnk => s.rd pg R.HLNK_CTL_MODE == 1 || s.rd pg R.HLNK_CTL_MODE == 2
  | _ => s.enabled pg

/-- A header register as a master reads it. -/
def State.readHead (s : State) (m : Master) (pg : Nat) (k : PageKind) (off : Nat) : Nat :=
  let h := s.head pg
  let x := s.mbx pg m
  let word := fun i => if x.valid then bitsOf x.data.toNat (32 * i) 32 else 0
  match off with
  | 0x00 => pgId pg
  | 0x04 => k.cap
  | 0x08 => b2n (s.enabled pg)
  | 0x0C => b2n (s.running pg k) + 4 * b2n (s.applyPending pg)
  | 0x10 => h.flags.toNat + h.seq.toNat * 2 ^ 24
  | 0x18 => h.evten.toNat
  | 0x1C => h.cls + 8 * b2n h.held + 32 * b2n (s.applyPending pg) + 64 * b2n h.view + h.appseq.toNat * 2 ^ 16
  | 0x20 => x.item + b2n x.dir * 2 ^ 15
  | 0x24 => b2n x.valid + 2 * b2n x.err + 4 * x.code + x.seq.toNat * 2 ^ 8
  | 0x28 => word 0
  | 0x2C => word 1
  | 0x30 => word 2
  | 0x34 => word 3
  | 0x38 => k.privGroups
  | _ => 0

/-! ### Table windows -/

/-- The entry index that a nozzle address register holds, if its tile and column exist (R300, R302). -/
def nozAddr (w : Nat) : Option Nat :=
  let col := bitsOf w 0 13
  let tile := bitsOf w 15 5
  if tile < 22 ∧ col < 4800 then some (nozIndex tile (bitsOf w 13 2) col) else none

/-- The address after an access with AUTOINC: by column, then row, then tile; after the last entry the first
(R303; log entry 36). -/
def nozAdvance (w : Nat) : Nat :=
  if bitOf w 31 then
    let col := bitsOf w 0 13
    let row := bitsOf w 13 2
    let tile := bitsOf w 15 5
    if col + 1 < 4800 then setBits w 0 13 (col + 1)
    else
      let w := setBits w 0 13 0
      if row < 3 then setBits w 13 2 (row + 1)
      else setBits (setBits w 13 2 0) 15 5 (if tile < 21 then tile + 1 else 0)
  else w

/-- A window address register whose low `w` bits advance with AUTOINC, wrapping. -/
def windowAdvance (w v : Nat) : Nat := if bitOf v 31 then setBits v 0 w (bitsOf v 0 w + 1) else v

/-- The address register of a data register of a table window, with the rule by which it advances. -/
def windowOf (k : PageKind) (off : Nat) : Option (Nat × (Nat → Nat)) :=
  match k, off with
  | .rast, 0x4C => some (0x48, nozAdvance)
  | .rast, 0x384 => some (0x380, nozAdvance)
  | .rastc, 0x48 => some (0x44, windowAdvance 10)
  | .fire, 0x6C => some (0x68, windowAdvance 7)
  | .hlth, 0x80 => some (0x7C, nozAdvance)
  | .cami, 0x104 => some (0x100, windowAdvance 16)
  | _, _ => none

/-- After an access to a data register its address register advances (R303 and the window registers). -/
def State.windowNext (s : State) (k : PageKind) (addr : Nat) : State :=
  match windowOf k (pageOff addr) with
  | some (a, f) =>
    let w := pageNo addr * 4096 + a
    s.setWord w (BitVec.ofNat 32 (f (s.word w).toNat))
  | none => s

/-- The table, port and index that CAM_TBLADDR addresses. -/
def camTableAt (w : Nat) : Nat × Nat × Nat :=
  let t := bitsOf w 16 3
  (bitsOf w 19 1, if t = 7 then 0 else t, bitsOf w 0 16)

/-- Whether the reserved words of the descriptor table are addressed (08, FIRE_TBLDATA). -/
def tblReserved (w : Nat) : Bool := decide (16 ≤ w) && decide (w < 64)

/-- The bits that a word of the descriptor table holds: PRE and GAP, MAIN, or g (08, FIRE_TBLDATA). -/
def tblMask (w : Nat) : Nat :=
  if tblReserved w then 0 else if 64 ≤ w then 0xFFFF else if w % 2 = 0 then 0x3FFF3FFF else 0x3FFF

/-! ### Values that follow the state -/

/-- The bit mask of the sessions below 8 that pass a test. -/
def State.sessMask (s : State) (p : Session → Bool) : Nat :=
  maskOf ((List.range 8).filter fun k => p (s.session k))

/-- Whether a statistics window belongs to the colour loop (R484). -/
def State.loopOwns (s : State) (w : Nat) : Bool := s.loop.on && (s.usedWindows.any fun e => e.1 == w)

/-- The word of a register as it stands, without staging (R34 and the chapters of each page). -/
def State.inForce (s : State) (m : Master) (k : PageKind) (inst addr : Nat) : Nat :=
  let pg := pageNo addr
  let w := (s.word addr).toNat
  match k, pageOff addr with
  | .sys, 0x40 => s.sysCap
  | .sys, 0x48 => s.sysState
  | .priv, 0x40 => masterCode m + 16 * b2n (s.privileged m)
  | .priv, 0x44 => s.sessMask (·.open_) + 256 * s.sessMask (fun x => x.open_ && x.priv)
  | .priv, 0x54 => s.unspilled .audit
  | .hlnk, 0x44 => setBits w 8 18 (sumN ((s.lane inst).fifo.map fun f => f.yrt - f.gone))
  | .chk, 0x40 => setBits w 0 20 s.chkEnabled
  | .pos, 0x48 => uns 32 s.speed
  | .pos, 0x4C => uns 32 s.accel
  | .pos, 0x50 => uns 32 (s.stretch.fdiv 65536)
  | .pos, 0xB0 => s.trigPending.length
  | .rast, 0x4C => match nozAddr (s.rd pg ⟨0x48, 0, 32⟩) with | some i => s.nozzle inst i | none => 0
  | .rast, 0x384 => match nozAddr (s.rd pg ⟨0x380, 0, 32⟩) with | some i => s.nozzle inst i | none => 0
  | .rastc, 0x48 =>
    let i := 4 * s.rd pg R.RAST_THRADDR_WORD
    s.threshold i + s.threshold (i + 1) * 2 ^ 8 + s.threshold (i + 2) * 2 ^ 16 + s.threshold (i + 3) * 2 ^ 24
  | .fire, 0x6C =>
    let n := s.rd pg R.FIRE_TBLADDR_WORD
    if tblReserved n then 0 else s.tblWord inst n
  | .fire, 0x5C => s.rEff inst
  | .hlth, 0x48 => setBits (setBits w 0 1 (b2n (s.scanning inst))) 2 1 (b2n (s.supplyBad inst))
  | .hlth, 0x80 =>
    match nozAddr (s.rd pg ⟨0x7C, 0, 32⟩) with
    | some i => (s.nozH inst i).nf + (s.nozH inst i).base * 2 ^ 16
    | none => 0
  | .cami, 0x104 =>
    let (p, t, i) := camTableAt (s.rd pg ⟨0x100, 0, 32⟩)
    if i < camTableLen t then s.camTable p (!(s.camP p).copy) t i else 0
  | .cami, 0x108 => 4 * b2n (s.camP 0).pend + 8 * b2n (s.camP 1).pend
  | .cami, 0x10C => (s.camLoad 0).cam.loadPrev + (s.camLoad 0).cam.peak * 2 ^ 16
  | .firec, 0x68 => setBits w 3 1 (b2n s.dataOk)
  | .tlnk, 0x44 => setBits (setBits (setBits w 7 1 (b2n s.eastEnd)) 8 1 (b2n s.leadEnd)) 12 3 (s.nfit inst)
  | .twin, 0x40 =>
    setBits (setBits (setBits (setBits w 6 1 (b2n !(s.silent false))) 7 1 (b2n !(s.silent true))) 8 1 (b2n s.twin.sluiceIn))
      9 1 (b2n s.twin.sluiceOut)
  | .cams, off =>
    if 0x100 ≤ off ∧ off % 8 = 0 then setBits w 2 1 (b2n (s.loopOwns ((off - 0x100) / 8))) else w
  | .pio, 0x40 => bits16 s.inLevel + bits16 s.inRaw * 2 ^ 16
  | .pio, 0x44 => setBits w 16 16 (bits16 s.outPin)
  | .pio, 0x48 => bits16 s.outDriven + bits16 (fun n => (s.outLevel n).getD false) * 2 ^ 16
  | .weir, off =>
    if 0x104 ≤ off ∧ (off - 0x104) % 8 = 0 ∧ weirNoBurst ((off - 0x104) / 8) then setBits w 0 24 0 else w
  | _, _ => w
where
  /-- The activities whose BURST reads 0 (R513). -/
  weirNoBurst (a : Nat) : Bool := inRun a 10 4 || a == 20

/-- The register-file address that a register keeps its staging at: the addressed word for FIRE_TBLDATA. -/
def State.stageAddr (s : State) (k : PageKind) (inst addr : Nat) : Nat :=
  if k = .fire ∧ pageOff addr = 0x6C then tblAddr inst (s.rd (pageNo addr) R.FIRE_TBLADDR_WORD) else addr

/-- The staging value of the RWS fields of a register: what was written last and is not yet in force (R79). -/
def State.stagedWord (s : State) (a : Nat) : Nat :=
  match mfind s.staged a with
  | some v => v.toNat
  | none => match mfind s.committed a with
    | some v => v.toNat
    | none => match mfind s.waiting a with
      | some x => x.value.toNat
      | none => (s.word a).toNat

/-- A block register as a master reads it, with PG_APPLY.VIEW choosing staging for RWS fields. -/
def State.readBlock (s : State) (m : Master) (k : PageKind) (inst addr : Nat) : Nat :=
  let v := s.inForce m k inst addr
  if (s.head (pageNo addr)).view then
    let a := s.stageAddr k inst addr
    let mask := if a = addr then rwsMask addr else tblMask (a % 128)
    Nat.land v (2 ^ 32 - 1 - mask) + Nat.land (s.stagedWord a) mask
  else v

/-- The effect of a read: a table window advances, CAM_LOAD.PEAK starts anew. -/
def State.readEffect (s : State) (k : PageKind) (addr : Nat) : State :=
  let s := s.windowNext k addr
  if k = .cami ∧ pageOff addr = 0x10C then
    let s := s.camLoad 0
    { s with cam := { s.cam with peak := 0 } }
  else s

/-- A read of one register word: its STATUS code, its value and the state after it (R35, R42 to R45, R661). -/
def State.accessRead (s : State) (m : Master) (addr : Nat) : Nat × Nat × State :=
  let pg := pageNo addr
  let off := pageOff addr
  match pageKind pg with
  | none => (2, 0, s)
  | some (k, inst) =>
    if !s.pageAnswers k then (2, 0, s)
    else if s.absent k inst off false then (0, 0, s)
    else if m = .twin ∧ k.mirror = false then (0, 0, s)
    else if privOffset k off && !s.privileged m then (0, 0, s)
    else if off < 0x40 then (0, s.readHead m pg k off, s)
    else if (findReg k.regs off).isNone then (0, 0, s)
    else (0, s.readBlock m k inst addr, s.readEffect k addr)

end Sys2Proof.Machine
end

