-- ==== Sys2Proof/Machine/SessOps.lean ====
section
/-!
DEFINITION. Host lanes and YRT sessions (05; 02, Network register sessions): frames from arrival to the YRT commands,
sessions, the handshake, sequence numbers, DATA and READ.
-/
namespace Sys2Proof.Machine

/-! ### Host lanes (R193 to R197, R222, R227) -/

/-- Length of the Ethernet header of a frame: 14 bytes, or 18 with an 802.1Q tag. -/
def ethHeader (f : List Byte) : Nat := if beAt f 12 2 = 0x8100 then 18 else 14

/-- EtherType of a frame, after its tag if it has one. -/
def etherType (f : List Byte) : Nat := beAt f (ethHeader f - 2) 2

/-- The YRT bytes of a frame without FCS: header byte 0 through the CRC, or what there is of them (R222). -/
def yrtBytes (f : List Byte) : Nat :=
  let body := f.drop (ethHeader f)
  min body.length (28 + leAt body 12 2)

/-- HLNK_MAXFRM: below 64 acts as 64, above 9,216 as 9,216. -/
def State.maxFrame (s : State) (n : Nat) : Nat := clampN 64 9216 (s.rd (pgHLNK n) R.HLNK_MAXFRM_BYTES)

/-- Adds YRT bytes to D of a lane. -/
def State.addD (s : State) (n k : Nat) : State := s.setLane n { s.lane n with d := (s.lane n).d + k }

/-- Bytes that an ingest FIFO holds. -/
def State.fifoLevel (s : State) (n : Nat) : Nat := sumN ((s.lane n).fifo.map fun f => f.yrt - f.gone)

/-- A PTP frame of a message type that the assist does not receive is dropped and counted (R124). Sync, Follow_Up,
Delay_Resp and Announce have commands of their own. -/
def State.ptpOther (s : State) (f : List Byte) : State :=
  let kind := byteAt f (ethHeader f) % 16
  if s.enabled pgPTPA && etherType f == 0x88F7 && !(kind == 0 || kind == 8 || kind == 9 || kind == 11) then s.ptpDrop else s

/-- A frame arrives on a lane, with its FCS (R124, R194, R195, R222, R227). PAUSE frames and the PTP messages that the
assist receives have commands of their own and pass here without effect. -/
def State.frameIn (s : State) (n : Nat) (frame : List Byte) : State :=
  if s.rdb (pgHLNK n) R.HLNK_STAT_UP = false then s
  else
    let f := frame.take (frame.length - 4)
    let isYrt := etherType f == s.rd pgYRT R.YRT_CTL_ETYPE
    let whole := if isYrt then frame.length - ethHeader f - 4 else 0
    if frame.length < 64 ∨ s.maxFrame n < frame.length then
      ((s.inc (pgHLNK n) R.HLNK_RXERR_LENGTH).addD n whole).credits
    else if leAt frame (frame.length - 4) 4 ≠ fcs32 f then
      ((s.inc (pgHLNK n) R.HLNK_RXERR_FCS).addD n whole).credits
    else if !isYrt then s.ptpOther f
    else
      let k := yrtBytes f
      let s := s.setLane n { s.lane n with yrtRx := (s.lane n).yrtRx + k }
      if s.enabled pgYRT = false then (s.addD n k).credits
      else if 131072 < s.fifoLevel n + k then
        (((s.inc (pgHLNK n) R.HLNK_OVF).raise (pgHLNK n) 2).addD n k).credits
      else s.setLane n { s.lane n with fifo := (s.lane n).fifo ++ [{ bytes := f, yrt := k }] }

/-- The FIFO drains its oldest frame by as many words as the lane's ingest budget still admits, a token for each 4 bytes:
D advances, and a frame that has left whole waits to be handled (R222, R226, R228, R229). -/
def State.drain (s : State) (n : Nat) : State :=
  let s := s.weirRoll
  let l := s.lane n
  match l.fifo with
  | [] => s
  | f :: rest =>
    let x := s.act (10 + n)
    let want := (f.yrt - f.gone + 3) / 4
    let k := min want x.level
    let bytes := min (f.yrt - f.gone) (4 * k)
    let s := s.setAct (10 + n) { x with level := x.level - k, admitted := x.admitted + k, stalled := x.stalled || decide (k < want) }
    let l := if k = want then { l with fifo := rest, rx := l.rx ++ [f] }
      else { l with fifo := { f with gone := f.gone + bytes } :: rest }
    (s.setLane n l).addD n bytes

/-- Transmission resumes: what the pause held goes out, CREDIT first (R196, R226). -/
def State.unpause (s : State) (n : Nat) : State :=
  let s := s.wr (pgHLNK n) R.HLNK_STAT_PAUSED 0
  let l := s.lane n
  s.setLane n { l with tx := l.tx ++ l.held, held := [] }

/-- A received PAUSE is counted and flagged; with PAUSEEN 1 it stops the lane's transmission for its quanta, 512 bit times
each (R196). -/
def State.pause (s : State) (n quanta : Nat) : State :=
  if !s.rdb (pgHLNK n) R.HLNK_STAT_UP then s
  else
    let s := (s.incWrap (pgHLNK n) R.HLNK_PAUSE).raise (pgHLNK n) 4
    if !s.rdb (pgHLNK n) R.HLNK_CTL_PAUSEEN then s
    else
    let rate := if s.rd (pgHLNK n) R.HLNK_CTL_MODE = 1 then 81920 else 32768
    let s := s.setLane n { s.lane n with pauseEnd := s.now + quanta * rate / 100 }
    if quanta = 0 then s.unpause n else s.wr (pgHLNK n) R.HLNK_STAT_PAUSED 1

/-- The quanta expire (R196). -/
def State.pauseOver (s : State) (n : Nat) : State :=
  if s.rdb (pgHLNK n) R.HLNK_STAT_PAUSED && decide ((s.lane n).pauseEnd ≤ s.now) then s.unpause n else s

/-! ### Sessions (R58 to R60, R200 to R204) -/

/-- Closes a session (R60). Its mailboxes stay as they are for the next session of its number (DESIGN CHOICE, log entry
73). -/
def State.closeSession (s : State) (k : Nat) : State :=
  if (s.session k).open_ then (s.setSession k {}).raise pgYRT 1 k else s

/-- Closes the sessions below `n` that pass a test. -/
def State.closeWhere (s : State) (p : Session → Bool) : Nat → State
  | 0 => s
  | n + 1 =>
    let s := s.closeWhere p n
    if p (s.session n) then s.closeSession n else s

/-- The lane takes down its sessions and what it holds: FIFO, pause and counts start anew as it next comes up
(R60, R222). -/
def State.laneDown (s : State) (n : Nat) : State :=
  if s.rdb (pgHLNK n) R.HLNK_STAT_UP = false then s
  else
    let s := s.closeWhere (fun x => x.open_ && decide (x.lane = n)) 8
    let l := s.lane n
    let s := s.setLane n { mac := l.mac, tx := l.tx, reconfig := l.reconfig }
    (s.wr (pgHLNK n) R.HLNK_STAT (s.rd (pgHLNK n) R.HLNK_STAT / 16 * 16)).raise (pgHLNK n) 1

/-- The FEC in force: 0 none, 1 Clause 74, 2 Clause 108, which acts as 0 at 10GBASE-R; 3 acts as 0. -/
def State.laneFec (s : State) (n : Nat) : Nat :=
  let f := s.rd (pgHLNK n) R.HLNK_CTL_FEC
  if f = 3 ∨ (f = 2 ∧ s.rd (pgHLNK n) R.HLNK_CTL_MODE = 1) then 0 else f

/-- A lane that is on comes up (R193, R197). -/
def State.laneComesUp (s : State) (n : Nat) : State :=
  let m := s.rd (pgHLNK n) R.HLNK_CTL_MODE
  if !s.pagesUp || s.rdb (pgHLNK n) R.HLNK_STAT_UP || !(m == 1 || m == 2) then s
  else
    let s := s.setLane n { s.lane n with d := 0, reconfig := false, yrtRx := 0 }
    let s := (s.wr (pgHLNK n) R.HLNK_STAT_UP 1).wr (pgHLNK n) R.HLNK_STAT_BLOCKLOCK 1
    (s.wr (pgHLNK n) R.HLNK_STAT_FECLOCK (b2n (s.laneFec n != 0))).raise (pgHLNK n) 0

/-- A change of MODE or FEC takes the lane down; HOST_LANE_UP brings it up again (R197). -/
def State.laneReconfig (s : State) (n old : Nat) : State :=
  if old % 16 = s.rd (pgHLNK n) R.HLNK_CTL % 16 then s
  else
    let s := s.laneDown n
    s.setLane n { s.lane n with reconfig := true }

/-- Privileged places held: privileged sessions, and sessions whose handshake is under way (R58). -/
def State.privPlaces (s : State) : Nat :=
  ((List.range 8).filter fun k => (s.session k).priv || (s.session k).proving).length

/-- Whether a privileged open is rejected (R61). -/
def State.privRejected (s : State) : Bool :=
  !s.rdb pgSYS R.SYS_STRAP_NETPRIV || s.priv.key.isNone || s.rdb pgPRIV R.PRIV_AUTHFAIL_HOLD

/-- A failed handshake; the fourth in a row sets HOLD for 10 s (R62, R63). -/
def State.authFail (s : State) : State :=
  let s := s.inc pgPRIV R.PRIV_AUTHFAIL_COUNT
  let n := s.priv.failures + 1
  if 4 ≤ n then
    ({ s with priv := { s.priv with failures := 0, holdEnd := s.now + ms 10000 } } : State).wr pgPRIV R.PRIV_AUTHFAIL_HOLD 1
  else { s with priv := { s.priv with failures := n } }

/-- The end of the hold (R63). -/
def State.holdOver (s : State) : State :=
  if s.rdb pgPRIV R.PRIV_AUTHFAIL_HOLD && decide (s.priv.holdEnd ≤ s.now) then s.wr pgPRIV R.PRIV_AUTHFAIL_HOLD 0 else s

/-! ### YRT frames (R198, R199, R712) -/

/-- A YRT frame as received. -/
structure Yrt where
  mac : Nat
  ok : Bool
  type : Nat
  sess : Nat
  flags : Nat
  seq : Nat
  ack : Nat
  basin : Nat
  offset : Nat
  payload : List Byte
  deriving DecidableEq, Repr

/-- Reads the YRT frame in an Ethernet frame; `ok` tells whether its CRC and VER pass (R198, R199). -/
def parseYrt (f : List Byte) : Yrt :=
  let b := f.drop (ethHeader f)
  let n := leAt b 12 2
  { mac := beAt f 6 6,
    ok := decide (28 + n ≤ b.length) && leAt b (24 + n) 4 == crc32c (b.take (24 + n)) && byteAt b 0 == 1,
    type := byteAt b 1,
    sess := byteAt b 2,
    flags := byteAt b 3,
    seq := leAt b 4 4,
    ack := leAt b 8 4,
    basin := byteAt b 14,
    offset := leAt b 16 8,
    payload := sub b 24 n }

/-- The frame types that the host sends (R198). -/
def hostTypes : List Nat := [0x01, 0x03, 0x05, 0x10, 0x12, 0x13, 0x20, 0x30]

/-- The type that a frame counts as; 0 for one discarded under R199 or R712. -/
def Yrt.kind (y : Yrt) : Nat :=
  if !y.ok || !hostTypes.contains y.type then 0
  else if y.type = 0x01 ∧ y.payload.length ≠ 20 then 0
  else if y.type = 0x03 ∧ y.payload.length ≠ 32 then 0
  else y.type

/-- Handles the oldest drained frame of a lane if it is of a kind. -/
def State.takeYrt (s : State) (n kind : Nat) (f : State → Yrt → State) : State :=
  let l := s.lane n
  match l.rx with
  | [] => s
  | x :: rest =>
    let y := parseYrt x.bytes
    if y.kind = kind then f (s.setLane n { l with rx := rest }) y else s

/-- A discarded frame is counted (R199, R712). -/
def State.yrtInvalid (s : State) : State := s.inc pgYRT R.YRT_RXCNT_CRCERR

/-! ### The handshake (R58, R61 to R63, R200 to R203) -/

/-- Whether the device only listens: a standby with YRT_CTL.LISTEN (R590). -/
def State.listening (s : State) : Bool := s.isStandby && s.rdb pgYRT R.YRT_CTL_LISTEN

/-- Sends the CHALLENGE of a session. -/
def State.challenge (s : State) (k : Nat) : State :=
  let x := s.session k
  s.sendPlain k 0x02 x.chalStatus 0 none (leBytes x.nd.toNat 16 ++ beBytes s.part.serial.toNat 8)

/-- An OPEN (R58, R61, R200 to R202, R714). The nonce of a refusal is a free value too (log entry 4). -/
def State.yrtOpen (s : State) (n : Nat) (y : Yrt) : State :=
  if s.listening then s
  else
    let nh := BitVec.ofNat 128 (leAt y.payload 0 16)
    let mine := fun k => let x := s.session k; x.open_ && decide (x.lane = n ∧ x.mac = y.mac ∧ x.nh = nh)
    match (List.range 8).find? mine with
    | some k => s.challenge k
    | none =>
      let want := bitOf y.flags 2
      let (d, s) := s.draw
      match (List.range 8).find? (fun k => !(s.session k).open_), want && decide (2 ≤ s.privPlaces) with
      | some k, false =>
        let st := if !want then 0 else if s.privRejected then 3 else 1
        let x : Session := { open_ := true, lane := n, mac := y.mac, nh := nh, nd := Config.freeNonce d,
                             evmask := byteAt y.payload 16, chalStatus := st, chalAt := s.now, proving := st == 1,
                             lastRx := s.now, ackMoved := s.now }
        (((s.setSession k x).raise pgYRT 0 k).challenge k).creditCheck n
      | _, _ =>
        let f := s.yrtFrame n y.mac 0x02 0xFF 0 0 0 0 2 0
          (leBytes (Config.freeNonce d).toNat 16 ++ beBytes s.part.serial.toNat 8)
        s.hostSend n (.frame f)

/-- The key as bytes, least significant first (log entry 37). -/
def State.keyBytes (s : State) : List Byte := leBytes ((s.priv.key.getD 0#256).toNat) 32

/-- M_h of a session (handshake step 3). -/
def State.proof (s : State) (k : Nat) : List Byte :=
  let x := s.session k
  hmac256 s.keyBytes (leBytes 0x52 1 ++ leBytes 0x51 1 ++ leBytes x.nd.toNat 16 ++ leBytes x.nh.toNat 16 ++
    leBytes k 1 ++ beBytes s.part.serial.toNat 8)

/-- M_d of a session (handshake step 4). -/
def State.grantProof (s : State) (k : Nat) : List Byte :=
  let x := s.session k
  hmac256 s.keyBytes (leBytes 0x52 1 ++ leBytes 0x53 1 ++ leBytes x.nh.toNat 16 ++ leBytes x.nd.toNat 16 ++
    leBytes k 1 ++ beBytes s.part.serial.toNat 8)

/-- Answers a PROVE with GRANT (R201). -/
def State.grant (s : State) (k status : Nat) (md : List Byte) : State :=
  (s.setSession k { s.session k with grant := some (status, md), proving := false }).sendPlain k 0x04 status 0 none md

/-- A PROVE in a session (R61, R62). A CHALLENGE whose 100 ms have passed has been judged already (log entry 38). -/
def State.yrtProve (s : State) (k : Nat) (y : Yrt) : State :=
  let x := s.session k
  if x.chalStatus ≠ 1 then s
  else match x.grant with
    | some (st, md) => s.sendPlain k 0x04 st 0 none md
    | none =>
      if x.proving && decide (s.now < x.chalAt + ms 100) && y.payload == s.proof k then
        let md := s.grantProof k
        let s := s.setSession k { x with priv := true }
        ({ s with priv := { s.priv with failures := 0 } } : State).grant k 0 md
      else
        (if x.proving then s.authFail else s).grant k 1 (zeros 32)

/-- 100 ms after a CHALLENGE without a PROVE the place is free and the handshake has failed (R58, R62). -/
def State.proveTimeout (s : State) (k : Nat) : State :=
  let x := s.session k
  if x.proving && decide (x.chalAt + ms 100 ≤ s.now) then (s.setSession k { x with proving := false }).authFail else s

/-! ### Sequence numbers (R203 to R212) -/

/-- Whether `q` is ahead of `e` modulo 2^32. -/
def seqAhead (q e : Nat) : Bool := let d := (q + 2 ^ 32 - e % 2 ^ 32) % 2 ^ 32; decide (0 < d ∧ d < 2 ^ 31)

/-- A frame with FLAGS.RETX set, the ACKSEQ of now and its CRC and FCS made anew (R209, R211). -/
def retxBytes (f : List Byte) (ack : Nat) : List Byte :=
  let b := sub f 14 (f.length - 22)
  let b := setNth b 3 (BitVec.ofNat 8 (Nat.lor (byteAt b 3) 1))
  let b := b.take 8 ++ leBytes ack 4 ++ b.drop 12
  withFcs (f.take 14 ++ b ++ leBytes (crc32c b) 4)

/-- Sends a kept frame again and counts it. -/
def State.resend (s : State) (k : Nat) (e : Kept) : State :=
  let x := s.session k
  let s := (s.inc pgYRT R.YRT_RETXCNT_RETX).setSession k { x with ackDue := none }
  s.hostSend x.lane (.frame (retxBytes e.frame x.expected))

/-- The host's ACKSEQ passes kept frames: they are released and waiting frames sent (R210). -/
def State.takeAck (s : State) (k a : Nat) : State :=
  let x := s.session k
  if seqAhead a x.ackSeq && !seqAhead a x.nextSeq then
    (s.setSession k { x with
      ackSeq := a, kept := x.kept.filter (fun e => !seqAhead a e.seq), ackMoved := s.now }).pump k x.queue.length
  else s

/-- A frame that names a session: its lane, address and number are checked; its ACKSEQ counts (R204, R210). Answers the
session. -/
def State.inSession (s : State) (n : Nat) (y : Yrt) : Option Nat × State :=
  let x := s.session y.sess
  if y.sess < 8 ∧ x.open_ = true ∧ x.lane = n ∧ x.mac = y.mac then
    (some y.sess, (s.setSession y.sess { x with lastRx := s.now }).takeAck y.sess y.ack)
  else (none, s.inc pgYRT R.YRT_REFCNT_NOSESS)

/-- Sends a NAK with a reason (R206, R208, R714). -/
def State.nak (s : State) (k reason seq : Nat) : State :=
  (s.inc pgYRT R.YRT_GAPCNT_NAKTX).sendPlain k 0x12 0 reason (some seq) []

/-- Sends a gap NAK; the next one waits for NAKTMO (R206). -/
def State.gapNak (s : State) (k : Nat) : State :=
  let s := s.nak k 1 (s.session k).expected
  s.setSession k { s.session k with gapNakAt := some s.now, gapOpen := true }

/-- The expected number advances; the first advance that no frame has carried starts ACKINT (R205, R211). -/
def State.advance (s : State) (k : Nat) : State :=
  let x := s.session k
  s.setSession k { x with
    expected := (x.expected + 1) % 2 ^ 32, gapOpen := false,
    ackDue := some (x.ackDue.getD (s.now + us (atLeast1 (s.rd pgYRT R.YRT_TIMERS_ACKINT)))) }

/-- The interval of gap NAKs in ticks. -/
def State.nakTmo (s : State) : Nat := us (atLeast1 (s.rd pgYRT R.YRT_TIMERS_NAKTMO))

/-- A frame at a listening standby counts in NOSESS if its session is not open or not its own (R204). -/
def State.strange (s : State) (n : Nat) (y : Yrt) : State :=
  let x := s.session y.sess
  if y.sess < 8 ∧ x.open_ = true ∧ x.lane = n ∧ x.mac = y.mac then s else s.inc pgYRT R.YRT_REFCNT_NOSESS

/-- A sequenced frame of a kind in its session: in sequence it is handled, ahead it is discarded with a gap NAK, behind
it is a duplicate (R205 to R207). -/
def State.sequenced (s : State) (n : Nat) (y : Yrt) (f : State → Nat → Yrt → State) : State :=
  if s.listening then s.strange n y
  else match s.inSession n y with
    | (none, s) => s
    | (some k, s) =>
      let x := s.session k
      if y.seq = x.expected then f s k y
      else if seqAhead y.seq x.expected then
        let s := s.inc pgYRT R.YRT_GAPCNT_GAP
        let free := match x.gapNakAt with | some a => decide (a + s.nakTmo ≤ s.now) | none => true
        if free then s.gapNak k else s.setSession k { s.session k with gapOpen := true }
      else
        let s := s.inc pgYRT R.YRT_RXCNT_DUP
        match x.kept.find? (fun e => e.req == some y.seq) with
        | some e => if y.type = 0x20 then s.resend k e else s.sendPlain k 0x13 0 0 none []
        | none => s.sendPlain k 0x13 0 0 none []

/-- An unsequenced frame in its session. -/
def State.unsequenced (s : State) (n : Nat) (y : Yrt) (f : State → Nat → Yrt → State) : State :=
  if s.listening then s.strange n y
  else match s.inSession n y with
    | (none, s) => s
    | (some k, s) => f s k y

/-- The gap NAK is repeated while the expected frame has not arrived (R206). -/
def State.gapRepeat (s : State) (k : Nat) : State :=
  let x := s.session k
  match x.gapNakAt with
  | some a =>
    if x.open_ && x.gapOpen && decide (a + s.nakTmo ≤ s.now) then s.gapNak k else s
  | none => s

/-- RTO without an advance of ACKSEQ: the oldest frame is sent again, or the session closes (R210). -/
def State.rto (s : State) (k : Nat) : State :=
  let x := s.session k
  match x.kept with
  | [] => s
  | e :: es =>
    if s.now < max x.ackMoved e.sentAt + us (atLeast1 (s.rd pgYRT R.YRT_RTO_RTO)) then s
    else if atLeast1 (s.rd pgYRT R.YRT_TIMERS_RETRYMAX) ≤ e.retx then (s.closeSession k).raise pgYRT 2 k
    else (s.setSession k { x with kept := { e with retx := e.retx + 1, sentAt := s.now } :: es }).resend k e

/-- ACKINT has passed since an advance that no frame has carried (R211). -/
def State.delayedAck (s : State) (k : Nat) : State :=
  let x := s.session k
  match x.ackDue with
  | some d => if x.open_ && decide (d ≤ s.now) then s.sendPlain k 0x13 0 0 none [] else s
  | none => s

/-- PRIV_SESSTMO has passed without a frame (R60). -/
def State.idleClose (s : State) (k : Nat) : State :=
  let x := s.session k
  if x.open_ && decide (x.lastRx + ms (atLeast1 (s.rd pgPRIV R.PRIV_SESSTMO_MS)) ≤ s.now) then s.closeSession k else s

/-- A NAK from the host: every kept frame from its SEQ onwards is sent again, in order (R209). -/
def State.yrtNak (s : State) (k : Nat) (y : Yrt) : State :=
  let s := s.inc pgYRT R.YRT_RETXCNT_NAKRX
  State.each (fun s e => s.resend k e) s ((s.session k).kept.filter fun e => !seqAhead y.seq e.seq)

/-! ### DATA and READ (R208, R219, R590) -/

/-- Puts a complete record behind those complete earlier; at one tick the lower basin goes first (R233). -/
def insertRecord (e : Nat × Nat) : List (Nat × Nat) → List (Nat × Nat)
  | [] => [e]
  | x :: t => if x.1 = e.1 ∧ e.2 < x.2 then e :: x :: t else x :: insertRecord e t

/-- Puts `n` complete records of one basin and tick in their place. -/
def insertRecords (e : Nat × Nat) (l : List (Nat × Nat)) : Nat → List (Nat × Nat)
  | 0 => l
  | n + 1 => insertRecord e (insertRecords e l n)

/-- The command records that bytes from `p` to `q` complete put their basin in the queue of records (R231). -/
def State.queueRecords (s : State) (b p q : Nat) : State :=
  if s.basinUse b = 1 then
    s.setJobs { s.jobs with order := insertRecords (s.now, b) s.jobs.order (q / 64 - p / 64) }
  else s

/-- DATA bytes enter their basin, and P advances. -/
def State.takeData (s : State) (b : Nat) (bs : List Byte) : State :=
  let x := s.basin b
  ((s.basinPut b x.p bs).setBasin b { x with p := x.p + bs.length }).queueRecords b x.p (x.p + bs.length)

/-- Whether DATA is refused in the present device state (R208, reason 6). -/
def State.dataClosed (s : State) : Bool :=
  s.dev.state == .frozen || s.dev.state == .safe || !s.pagesUp || s.dev.state == .linkup

/-- The reason that refuses an in-sequence DATA frame; 0 if it is accepted (R208). -/
def State.dataReason (s : State) (y : Yrt) : Nat :=
  let n := y.payload.length
  if s.dataClosed then 6
  else if n % 8 ≠ 0 ∨ n < 8 ∨ 8192 < n then 5
  else if 32 ≤ y.basin ∨ s.hostBasin y.basin = false then 4
  else if y.offset ≠ (s.basin y.basin).p then 3
  else if s.basinLimit y.basin < y.offset + n then 2
  else 0

/-- An in-sequence DATA frame (R205, R208). -/
def State.yrtData (s : State) (k : Nat) (y : Yrt) : State :=
  let r := s.dataReason y
  if r = 0 then
    ((s.advance k).takeData y.basin y.payload).tap 1 (s.session k).lane y.payload true true none
  else
    let s := s.inc pgYRT R.YRT_REFCNT_DATAREF
    (if r = 2 then s.raise pgYRT 3 k else s).nak k r y.seq

/-- DATA of a followed session at a listening standby: in sequence at P it is accepted; a missed range is fetched from
the active device (R590). -/
def State.listenData (s : State) (n : Nat) (y : Yrt) : State :=
  let x := s.session y.sess
  let b := y.basin
  let p := (s.basin b).p
  let len := y.payload.length
  if !(decide (y.sess < 8) && x.open_ && decide (x.lane = n) && decide (x.mac = y.mac)) then s.strange n y
  else if s.dataClosed ||
      decide (32 ≤ b) || !s.hostBasin b || decide (len % 8 ≠ 0 ∨ len < 8 ∨ 8192 < len) then s
  else if y.offset = p then
    if s.basinLimit b < y.offset + len then s
    else (s.takeData b y.payload).tap 1 n y.payload true true none
  else if p < y.offset then
    s.twinKeep (.fetch (.request (Fin.ofNat 32 b) (BitVec.ofNat 64 p) (y.offset + len - p)))
  else s

/-- A READDATA frame, with what its sending consumes (R219). -/
def State.sendRead (s : State) (k b status off : Nat) (bs : List Byte) (consume : Option (Nat × Nat)) : State :=
  s.sendSeq k { type := 0x31, flags := 0, basin := b, status := status, offset := off, payload := bs, req := none,
                consume := consume }

/-- The READDATA frames of a range, at most 2,048 bytes each, at most `fuel` of them; the last consumes the range if CONSUME
asks for it (R219). -/
def State.sendReads (s : State) (k b off len : Nat) (consume : Bool) : Nat → State
  | 0 => s
  | fuel + 1 =>
    if len = 0 then s
    else
      let n := min len 2048
      let c := if consume && decide (len ≤ 2048) then some (b, off + len) else none
      (s.sendRead k b 0 off (s.basinGet b off n) c).sendReads k b (off + n) (len - n) consume fuel

/-- An in-sequence READ (R219, R713). -/
def State.yrtRead (s : State) (k : Nat) (y : Yrt) : State :=
  let s := s.advance k
  let b := y.basin
  let len := leAt y.payload 0 4
  let x := s.basin b
  if y.payload.length ≠ 4 ∨ 32 ≤ b ∨ s.basinOn b = false ∨ s.basinDev b = false ∨ len = 0 ∨ y.offset < x.c ∨
      x.p < y.offset + len then s.sendRead k b 1 y.offset [] none
  else s.sendReads k b y.offset len (bitOf y.flags 1) (len / 2048 + 1)

/-- An in-sequence CLOSE (R60, R713). -/
def State.yrtClose (s : State) (k : Nat) (_ : Yrt) : State := (s.advance k).closeSession k

end Sys2Proof.Machine
end

