-- ==== Sys2Proof/Machine/Items.lean ====
section
/-!
DEFINITION. The mailbox items of every page: which exist, how they may be selected, what a snapshot captures and
what a write does (R67 to R71, R708, and the item tables of each chapter).
-/
namespace Sys2Proof.Machine

/-! ### Which items exist (the item tables of each page) -/

/-- How an item may be selected. -/
inductive ItemUse where
  | none | readOnly | writeOnly | readWrite
  deriving DecidableEq, Repr

/-- Items that may be read, by a test. -/
def roIf (p : Bool) : ItemUse := if p then .readOnly else .none

/-- The items of a page. -/
def State.itemUse (s : State) (k : PageKind) (i : Nat) : ItemUse :=
  match k with
  | .sys => roIf (decide (i ≤ 1))
  | .priv => if i ≤ 1 then .writeOnly else roIf (i == 4 || decide (0x800 ≤ i))
  | .weir => roIf (decide (i < 24) || inRun i 32 24)
  | .thrm => roIf (decide (i < 40))
  | .hlnk => if i = 0 then .readWrite else roIf (decide (i ≤ 3))
  | .yrt => roIf (decide (i < 8))
  | .basn => if 128 ≤ i then .none else if i % 4 = 1 then .readWrite else roIf (decide (i % 4 ≠ 3))
  | .time =>
    if i = 2 ∨ i = 7 then .readWrite else if i = 3 then .writeOnly
    else roIf (decide (i ≤ 1) || i == 6 || inRun i 8 9)
  | .ptpa => if i = 0 ∧ s.rdb pgPTPA R.PTPA_CTL_LEARN = false then .readWrite else roIf (decide (i ≤ 2))
  | .chk =>
    if i < 80 then (if i % 4 = 3 then .readOnly else .readWrite)
    else if inRun i 0x100 0x100 then .readWrite else roIf (inRun i 0x200 0x100)
  | .cmp => if 64 ≤ i then .none else if i % 8 ≤ 4 then .readWrite else roIf (decide (i % 8 ≤ 6))
  | .dcp => roIf (decide (i < 40))
  | .dram => roIf (decide (i ≤ 2) || inRun i 16 16 || inRun i 0x100 0x100)
  | .pos =>
    if i = 0 then .readWrite
    else roIf (decide (i ≤ 3) || inRun i 8 16 || inRun i 32 2 || inRun i 40 2 || decide (0x800 ≤ i))
  | .rast => roIf (decide (i < 22) || inRun i 32 5)
  | .fire => roIf (decide (i ≤ 4) || inRun i 8 22)
  | .hlth => if inRun i 32 22 then .readWrite else roIf (decide (i < 22))
  | .camp => roIf (decide (i ≤ 1))
  | .cams => if i < 64 then .readWrite else .none
  | .loop => if i = 8 then .readWrite else roIf (decide (i ≤ 9))
  | .twin => roIf (decide (i ≤ 9))
  | .pio => roIf (decide (i < 16))
  | .tlnk => roIf (decide (i ≤ 4) || inRun i 8 5 || inRun i 16 5)
  | _ => .none

/-- Whether an item is privileged (R46). -/
def itemPriv (k : PageKind) (i : Nat) : Bool :=
  match k with
  | .priv => decide (i ≤ 1) || decide (0x800 ≤ i)
  | .dram => i == 1 || i == 2 || inRun i 0x100 0x100
  | .chk => inRun i 64 16 || inRun i 0x100 0x200
  | _ => false

/-! ### Snapshots -/

/-- The words D0 to D3. -/
def words4 (a b c d : Nat) : Nat :=
  a % 2 ^ 32 + b % 2 ^ 32 * 2 ^ 32 + c % 2 ^ 32 * 2 ^ 64 + d % 2 ^ 32 * 2 ^ 96

/-- Two values of 64 bits, D0 to D1 and D2 to D3. -/
def words2 (a b : Nat) : Nat := a % 2 ^ 64 + b % 2 ^ 64 * 2 ^ 64

/-- A capture cell (TIME items 8 to 16): tick, then the count. -/
def CapCell.item (c : CapCell) : Nat := c.tick % 2 ^ 80 + c.count.toNat * 2 ^ 96

/-- An error record (DRAM items 0 and 1). -/
def DramErr.item (e : DramErr) (bits : Nat) : Nat :=
  words4 e.pa (bitsOf e.pa 32 3 + e.port * 16 + e.word * 256 + b2n e.scrub * 2048) (e.syndrome + bits * 2 ^ 16) e.tick

/-- A held entry (DRAM items 0x100 to 0x1FF), its age at the freeze (log entry 44). -/
def State.heldItem (s : State) (i : Nat) : Nat :=
  match mfind s.dram.heldQ i with
  | none => 0
  | some x =>
    let age := min 255 ((s.dram.frzAt - x.admitAt) / 1600)
    let slack := if 2 ≤ x.port ∧ x.port < 10 then uns 16 ((x.slack s.dram.frzAt).fdiv 16) else 0
    words4 x.pa (bitsOf x.pa 32 3 + x.port * 16 + (x.bursts - 1) % 4 * 256 + b2n x.write * 1024 + 2048 +
      b2n x.rmw * 4096 + age * 2 ^ 16) x.admitAt slack

/-- The context of a CHK item: channel and context, if the item shows one. -/
def chkItem (i : Nat) : Nat × Nat :=
  if i < 80 then (i / 4, 0) else (16 + i % 256 / 64, i % 64)

/-- A CHK item. -/
def State.chkItemValue (s : State) (i : Nat) : Nat :=
  let (n, c) := chkItem i
  let x := s.chkCtx n c
  if i < 80 ∧ i % 4 = 0 then s.chkPoly n
  else if i < 80 ∧ i % 4 = 1 then s.chkInit n
  else if (i < 80 ∧ i % 4 = 2) ∨ inRun i 0x100 0x100 then words2 (x.r % 2 ^ s.chkWidth n) (s.chkValue n c)
  else words2 x.res (x.units % 2 ^ 32 + b2n x.mis * 2 ^ 32)

/-- A trigger record of the ring (POS items 0x800 to 0xFFF). -/
def State.trigItem (s : State) (q : Nat) : Nat :=
  match mfind s.pos.trigs q with
  | none => 0
  | some r => uns 64 (to256 r.xp) + r.tick % 2 ^ 48 * 2 ^ 64 + r.seq % 2 ^ 16 * 2 ^ 112

/-- A POS item. -/
def State.posItem (s : State) (i : Nat) : Nat :=
  if i = 0 then uns 128 (to256 (s.x0At s.now))
  else if i = 1 then words2 (uns 64 (to256 (s.x0At s.now))) s.now
  else if i ≤ 3 then uns 128 (s.enc (i - 2)).count
  else if i < 16 then words2 (uns 64 (to256 (s.barX (i - 8)))) s.now
  else if i < 24 then words2 (uns 32 (s.barV (i - 16)) + uns 32 s.accel * 2 ^ 32) s.now
  else if i < 40 then
    let r := (s.enc (i - 32)).record
    words2 (uns 32 r.delta + (b2n r.rezeroed + 2 * b2n r.missing + 4 * b2n r.held) * 2 ^ 32) r.tick
  else if i < 0x800 then
    let w : Ssn := mget {} s.pos.ssns (i - 40)
    words4 w.position (w.position / 2 ^ 32 % 256 + b2n w.err * 256 + b2n w.warn * 512 + w.words.toNat * 2 ^ 16)
      (uns 32 w.bound) w.latch
  else s.trigItem (i - 0x800)

/-- A TIME item. -/
def State.timeItem (s : State) (i : Nat) : Nat :=
  match i with
  | 0 => s.now % 2 ^ 80
  | 1 => netBits (s.netTime s.now)
  | 2 => uns 128 s.time.rate
  | 6 => words2 (uns 64 s.time.integ) (uns 64 s.time.theta)
  | 7 => netBits (s.netTime s.time.selTick)
  | 16 => s.time.pps.item
  | _ => (mget ({} : CapCell) s.time.cells (i - 8)).item

/-- A RAST item. -/
def State.rastItem (s : State) (b i : Nat) : Nat :=
  if i < 22 then
    let k := fun r => uns 12 (s.rowK b i r)
    let f := fun r => uns 16 (s.rowF b i r)
    words4 (k 0 + k 1 * 2 ^ 16) (k 2 + k 3 * 2 ^ 16) (f 0 + f 1 * 2 ^ 16) (f 2 + f 3 * 2 ^ 16)
  else (s.chainCols b (i - 32)).1 + (s.chainCols b (i - 32)).2 * 2 ^ 32

/-- A FIRE item; ℓ_b without a job is a free value (log entry 4). -/
def State.fireItem (s : State) (b i : Nat) : Nat × State :=
  let p := (s.barF b).pace
  let bit := fun f : Fld => bitOf (s.rd (pgFIRE b) f) (i - 8)
  if i = 0 then
    match s.jobs.cur with
    | some j => (uns 128 (s.ell j b), s)
    | none => let (d, s) := s.draw; (uns 128 (sgn 64 ((Config.freeWord d).toNat % 2 ^ 64)), s)
  else if i = 1 then (words2 (p.s % 2 ^ 40) (uns 64 p.l0), s)
  else if i = 2 then (words2 p.p1 (uns 64 p.p2), s)
  else if i = 3 then (uns 32 p.adv + uns 48 p.firelim * 2 ^ 32 + s.lineRate b % 2 ^ 32 * 2 ^ 96, s)
  else if i = 4 then (uns 128 (s.barF b).sigma, s)
  else
    let x := s.tile b (i - 8)
    (words4 (uns 16 x.temp + x.volt * 2 ^ 16)
      (b2n (bit R.FIRE_HOT_TILES) + 2 * b2n (bit R.FIRE_HARD_TILES) + 4 * b2n x.stale) x.skipped x.statAt, s)

/-- The nozzles of a tile whose STATUS is a value. -/
def State.statusCount (s : State) (b t v : Nat) : Nat :=
  (s.noz.filter fun e => decide (e.1 / 422400 = b ∧ e.1 % 422400 / 19200 = t) && nozStatus e.2.toNat == v).length

/-- An HLTH item; the extremes of a tile that has not reported since CLRSUM are free values (log entry 4). -/
def State.hlthItem (s : State) (b i : Nat) : Nat × State :=
  if i < 22 then
    let x := s.tileH b i
    let (d, s) := if x.tRange.isNone || x.vRange.isNone then s.draw else (0, s)
    let w := (Config.freeWord d).toNat
    let t := match x.tRange with | some (a, c) => uns 16 a + uns 16 c * 2 ^ 16 | none => w % 2 ^ 32
    let v := match x.vRange with | some (a, c) => a % 2 ^ 16 + c % 2 ^ 16 * 2 ^ 16 | none => w / 2 ^ 32 % 2 ^ 32
    (words4 t v (s.statusCount b i 1 + s.statusCount b i 2 * 2 ^ 16) x.scanTick, s)
  else
    let x := s.tileH b (i - 32)
    (x.serial % 2 ^ 64 + x.rebaseTick % 2 ^ 32 * 2 ^ 64 + x.scans % 2 ^ 32 * 2 ^ 96, s)

/-- A LOOP item. -/
def State.loopItem (s : State) (i : Nat) : Nat :=
  if i < 8 then
    let x := s.loopBar i
    let target := match s.tMode with | 0 => s.rd pgLOOP (R.LOOP_TGT_TGT i) | 1 => x.target | _ => 0
    words4 (target + s.tMode * 2 ^ 12 + b2n (decide (x.learn ≠ 0)) * 2 ^ 16) x.cycles (x.limit % 2 ^ 16 + x.skipped * 2 ^ 16) x.tick
  else if i = 8 then
    let c := s.loopCell s.loop.sel
    words4 (c.d + c.npx % 4096 * 2 ^ 16) (uns 32 c.acc) (uns 16 c.e + s.cellTarget (s.loop.sel / 16384) s.loop.sel * 2 ^ 16)
      (min 255 c.weak + min 255 c.out * 256)
  else uns 128 (s.loop.h.getD 0)

/-- A TWIN item. -/
def State.twinItem (s : State) (i : Nat) : Nat :=
  let tw := s.twin
  if i < 8 then words2 (mget 0 (if s.isStandby then tw.peerCommitted else tw.ownCommitted) i) (mget 0 tw.fromSlot i)
  else if i = 8 then
    let (slot, a, o) := tw.mismatch
    words4 slot (slot / 2 ^ 32 % 2 ^ 16 + slot / 2 ^ 48 % 8 * 2 ^ 16) a o
  else uns 80 tw.offset + uns 32 tw.theta * 2 ^ 96

/-- A TLNK item. -/
def State.tlnkItem (s : State) (n i : Nat) : Nat :=
  let p := s.tpos n (i % 8)
  if i < 8 then leNat ((p.cap.getD []).take 16)
  else if i < 16 then
    words4 (uns 32 p.dW) (uns 32 p.dE) (uns 16 p.theta + b2n (p.tlost == some true) * 2 ^ 16) p.statAt
  else
    let l := p.link
    words4 (leAt l 0 4) (leAt l 16 4) (byteAt l 13 + byteAt l 29 * 2 ^ 8 + byteAt l 12 * 2 ^ 16 + byteAt l 28 * 2 ^ 24)
      (leAt l 10 2 + leAt l 26 2 * 2 ^ 16)

/-- What a snapshot of an item captures (R68), with the state after it. -/
def State.itemRead (s : State) (k : PageKind) (inst i : Nat) : Nat × State :=
  match k with
  | .sys => (if i = 0 then s.part.serial.toNat else words4 (nth 0 s.dev.times 0) (nth 0 s.dev.times 1) (nth 0 s.dev.times 2) 0, s)
  | .priv =>
    if i = 4 then (words4 s.priv.pairId s.priv.barMap s.priv.epoch 0, s)
    else
      let e := (mfind (s.ring .audit).slots ((i - 0x800) / 2)).getD []
      (leAt e (16 * (i % 2)) 16, s)
  | .weir =>
    let x := s.act (i % 32)
    (if i < 32 then words2 x.stall x.admitted else words4 x.level x.bank (b2n (s.actThrottled (i % 32))) 0, s)
  | .thrm =>
    let x := s.sensor i
    (words4 (uns 16 x.temp + b2n x.fault * 2 ^ 16 + b2n x.fast * 2 ^ 17) (uns 32 x.rate) x.count x.tick, s)
  | .hlnk =>
    let l := s.lane inst
    (match i with | 0 => s.laneMac inst | 1 => s.portLimit inst % 2 ^ 64 | 2 => (s.act (10 + inst)).stall % 2 ^ 64 | _ => l.yrtRx % 2 ^ 64, s)
  | .yrt =>
    let x := s.session i
    (words4 x.mac (x.mac / 2 ^ 32 % 2 ^ 16 + x.lane * 2 ^ 16 + b2n x.priv * 2 ^ 18) x.expected x.nextSeq, s)
  | .basn =>
    let b := i / 4
    (match i % 4 with
      | 0 => (s.basin b).p % 2 ^ 64
      | 1 => (s.basin b).c % 2 ^ 64
      | _ => s.basinLimit b % 2 ^ 64, s)
  | .time => (s.timeItem i, if inRun i 8 8 then s.capRead (i - 8) else s)
  | .ptpa =>
    let p := s.ptp.port.getD 0
    (match i with
      | 0 => p / 2 ^ 16 % 2 ^ 64 + p % 2 ^ 16 * 2 ^ 64
      | 1 => s.ptp.grandmaster % 2 ^ 64
      | _ => words2 (uns 64 s.ptp.theta) (uns 64 ((s.ptpDelay.getD 0).fdiv 4096)), s)
  | .chk => (s.chkItemValue i, s)
  | .cmp =>
    let x := s.cmp (i / 8)
    (match i % 8 with
      | 0 => x.src | 1 => x.srcLen | 2 => x.dst | 3 => x.cap | 4 => x.area | 5 => x.icount | _ => x.ocount, s)
  | .dcp =>
    let x := s.dcp i
    (x.next % 2 ^ 48 + x.band % 2 ^ 32 * 2 ^ 64 + x.consumed % 2 ^ 32 * 2 ^ 96, s)
  | .dram =>
    if i = 0 then (s.dram.corr.item s.dram.corr.bits, s)
    else if i = 1 then (s.dram.froze.item 3, s)
    else if i = 2 then (words4 s.dram.parity.1 s.dram.parity.2.1 0 s.dram.parity.2.2, s)
    else if i < 0x100 then
      let p : DramPort := mget {} s.dram.ports (i - 16)
      (p.done + p.late * 2 ^ 64 + min p.wait (2 ^ 32 - 1) * 2 ^ 96,
       s.setDram { s.dram with ports := mset {} s.dram.ports (i - 16) { p with wait := 0 } })
    else (s.heldItem (i - 0x100), s)
  | .pos => (s.posItem i, s)
  | .rast => (s.rastItem inst i, s)
  | .fire => s.fireItem inst i
  | .hlth => s.hlthItem inst i
  | .camp =>
    let c := s.camP inst
    (if i = 0 then words2 (c.frames % 2 ^ 32 + (c.frameExp % 2 ^ 24 + b2n c.frameMode * 2 ^ 24) * 2 ^ 32) c.frameFirst
     else uns 128 (s.camX inst), s)
  | .cams => let x := s.camWin i; (uns 64 x.s + x.len % 2 ^ 32 * 2 ^ 64 + x.rep % 2 ^ 32 * 2 ^ 96, s)
  | .loop => (s.loopItem i, s)
  | .twin => (s.twinItem i, s)
  | .pio =>
    let x := s.pin i
    (x.tick % 2 ^ 80 + b2n (s.inLevel i) * 2 ^ 80 + x.count.toNat * 2 ^ 96, s)
  | .tlnk => (s.tlnkItem inst i, s)
  | _ => (0, s)

/-! ### Writes -/

/-- A write of TIME item 2 sets the rate, clamped to the limit (R104, R115). -/
def State.hostRate (s : State) (v : Int) : State :=
  let r := s.rateClamp v
  let s := s.setRate r
  if r = v then s else s.raiseI pgTIME 6 v

/-- A write of TIME item 3 steps network time and enters SLEW (R113). -/
def State.hostStep (s : State) (v : Int) : State :=
  ((s.stepTime v).raiseI pgTIME 0 (v.fdiv 4096)).wr pgTIME R.TIME_STAT_TSTATE 2

/-- Whether CHK registers and items of a channel are refused while the device reserves it (R568, R569). -/
def State.chkRefused (s : State) (n : Nat) : Bool := s.chkReserved n

/-- The effect of a DIR 1 write of an item; no state where the write is refused with ERRCODE 2, and the state that the
refusal leaves beside the refusal itself. -/
def State.itemWrite (s : State) (k : PageKind) (inst i v : Nat) : Bool × State :=
  let lo := v % 2 ^ 64
  match k with
  | .priv =>
    let key := s.priv.stagedKey.toNat
    let key := setBits key (128 * i) 128 v
    (true, { s with priv := { s.priv with stagedKey := BitVec.ofNat 256 key } })
  | .hlnk => (true, s.setLane inst { s.lane inst with mac := some (v % 2 ^ 48) })
  | .basn =>
    let b := i / 4
    let x := s.basin b
    if s.basinOn b && s.basinDev b && decide (x.c ≤ lo ∧ lo ≤ x.p) then (true, s.consume b lo) else (false, s)
  | .time =>
    if i = 2 then
      if s.rdb pgTIME R.TIME_CTL_MODE then (false, s) else (true, s.hostRate (sgn 48 v))
    else if i = 3 then
      if s.rdb pgTIME R.TIME_CTL_MODE = false ∧ s.tstate = 1 then (true, s.hostStep (sgn 128 v))
      else (false, s.raise pgTIME 1)
    else (true, s.setTime { s.time with selTick := v % 2 ^ 80 })
  | .ptpa => (true, (s.setPtp { s.ptp with written := some (v % 2 ^ 64 * 2 ^ 16 + v / 2 ^ 64 % 2 ^ 16) }).itemPort)
  | .chk =>
    let (n, c) := chkItem i
    if s.chkRefused n then (false, s)
    else if i < 80 ∧ i % 4 ≤ 1 then
      if s.rdb pgCHK (R.CHK_CFG_EN n) then (false, s)
      else (true, if i % 4 = 0 then s.setChkPoly n lo else s.setChkInit n lo)
    else (true, s.chkRewrite n c lo)
  | .cmp =>
    let n := i / 8
    let x := s.cmp n
    (true, s.setCmp n (match i % 8 with
      | 0 => { x with src := lo }
      | 1 => { x with srcLen := lo }
      | 2 => { x with dst := lo }
      | 3 => { x with cap := lo }
      | _ => { x with area := lo }))
  | .pos => if s.inJob then (false, s) else (true, s.setX0 (sgn 64 lo * 256))
  | .hlth => (true, s.setTileH inst (i - 32) { s.tileH inst (i - 32) with serial := lo })
  | .cams =>
    if s.loopOwns i then (false, s)
    else (true, s.setCamWin i { s := sgn 64 lo, len := v / 2 ^ 64 % 2 ^ 32, rep := v / 2 ^ 96 % 2 ^ 32 })
  | .loop => (true, s.setLoop { s.loop with sel := cellKey (v % 8) (v / 2 ^ 32 % 4096) (v / 2 ^ 64 % 4) })
  | _ => (true, s)

end Sys2Proof.Machine
end

