-- ==== Sys2Proof/Machine/PowerOps.lean ====
section
/-!
DEFINITION. Power, reset and start-up (20), the limited-change settings (02) and the adaptive VCORE loop (20).
-/
namespace Sys2Proof.Machine

/-! ### Reset (R25, R634, R636, R659) -/

/-- The state as a reset leaves it: every field at its reset value, but the part, SYS_RSTCNT, the levels at the pins and
their keepers, the model's free counter and its queue (R659; log entry 5). -/
def State.cleared (s : State) : State :=
  let ins := s.pio.ins.foldl (fun m e => mset {} m e.1 { raw := e.2.raw, level := e.2.raw }) []
  let f := ({
    part := s.part,
    dev := { vio33 := s.dev.vio33, pwrgood := s.dev.pwrgood, resetN := s.dev.resetN },
    pio := { ins := ins, pins := s.pio.pins },
    free := s.free,
    pending := s.pending } : State)
  f.wr pgSYS R.SYS_RSTCNT (s.rd pgSYS R.SYS_RSTCNT)

/-- PWRGOOD falls: OFF, where SYS_RSTCNT is cleared (R25, R659, R676). -/
def State.powerOff (s : State) : State :=
  let s := s.cleared.wr pgSYS R.SYS_RSTCNT 0
  { s with dev := { s.dev with state := .off, pwrgood := false } }

/-- LOAD starts: RESET_N and PWRGOOD are high (R25). -/
def State.startLoad (s : State) : State :=
  if s.dev.state = .reset ∧ s.dev.pwrgood = true ∧ s.dev.resetN = true then s.goto .load else s

/-- PWRGOOD rises: from OFF to RESET, and on to LOAD with RESET_N high (R25, R659). -/
def State.powerUp (s : State) : State :=
  if s.dev.state ≠ .off then s
  else
    let s := s.cleared.wr pgSYS R.SYS_RSTCNT 0x10000
    ({ s with dev := { s.dev with state := .reset, pwrgood := true } } : State).startLoad

/-- RESET_N falls: RESET from any state but OFF, counted (R25, R659). -/
def State.resetLow (s : State) : State :=
  let s := { s with dev := { s.dev with resetN := false } }
  if s.dev.state = .off then s
  else
    let n := (s.rd pgSYS R.SYS_RSTCNT_PIN + 1) % 65536
    let s := s.cleared
    ({ s with dev := { s.dev with state := .reset } } : State).wr pgSYS R.SYS_RSTCNT n

/-- RESET_N rises (R25, R676). -/
def State.resetHigh (s : State) : State :=
  ({ s with dev := { s.dev with resetN := true } } : State).startLoad

/-- VIO33 rises: every press-output keeper takes the low level (R636). -/
def State.vio33Up (s : State) : State :=
  { s with dev := { s.dev with vio33 := true }, pio := { s.pio with pins := 0#16 } }

/-! ### Limited-change settings (R87 to R93) -/

/-- The digest of an OTP record: the first 32 bits of the SHA-256 of its other fields (02, Limited-change settings; the
layout hashed is log entry 39). -/
def otpDigest (tick master setting value : Nat) : Nat :=
  beNat ((sha256 (leBytes tick 10 ++ leBytes master 1 ++ leBytes setting 1 ++
    (if setting = 2 then zeros 4 ++ leBytes value 32 else leBytes value 4))).take 4)

/-- The changes that a setting allows (R87). -/
def otpAllowed (setting : Nat) : Nat := nth 0 [16, 32, 32, 8] setting

/-- The field of PRIV_OTPLEFT of a setting. -/
def otpLeftFld (setting : Nat) : Fld := ⟨0x50, 8 * setting, 8⟩

/-- The records of a setting, oldest first. -/
def State.otpRecords (s : State) (setting : Nat) : List OtpRecord :=
  s.part.records.filter fun r => r.setting == setting

/-- The last committed record of a setting (R93). -/
def State.otpLast (s : State) (setting : Nat) : Option OtpRecord :=
  ((s.otpRecords setting).filter (·.committed)).getLast?

/-- The setting of the first committed record whose digest does not match (R93). -/
def State.otpBad (s : State) : Option Nat :=
  (s.part.records.find? fun r =>
    r.committed && r.digest != otpDigest r.tick r.master r.setting r.value).map (·.setting)

/-- The values in force and the changes left as LOAD finds them (R88, R93). PAIR_ID is 0 on a part without a record of it
(DESIGN CHOICE, log entry 76). -/
def State.otpLoad (s : State) : State :=
  let p := { s.priv with
    pairId := ((s.otpLast 0).map (·.value)).getD 0,
    barMap := ((s.otpLast 1).map (·.value)).getD 0x76543210,
    key := (s.otpLast 2).map (fun r => BitVec.ofNat 256 r.value),
    epoch := ((s.otpRecords 3).filter (·.committed)).length }
  State.each (fun s n => s.wr pgPRIV (otpLeftFld n) (otpAllowed n - (s.otpRecords n).length)) { s with priv := p }
    (List.range 4)

/-- Whether two entries of a BAR_MAP value other than 0xF are equal; 0x8 to 0xE act as 0xF (R88). -/
def barMapBad (v : Nat) : Bool :=
  (List.range 8).any fun a => (List.range 8).any fun b =>
    decide (a < b) && decide (bitsOf v (4 * a) 4 < 8) && bitsOf v (4 * a) 4 == bitsOf v (4 * b) 4

/-- The value that a change of a setting would record, and whether it equals the value in force (R89, R90). -/
def State.otpStaged (s : State) (setting : Nat) : Nat × Bool :=
  match setting with
  | 0 => (s.rd pgPRIV R.PRIV_PAIRSTG, s.rd pgPRIV R.PRIV_PAIRSTG == s.priv.pairId)
  | 1 => (s.rd pgPRIV R.PRIV_BARSTG, s.rd pgPRIV R.PRIV_BARSTG == s.priv.barMap)
  | 2 => (s.priv.stagedKey.toNat, s.priv.key == some s.priv.stagedKey)
  | _ => (0, false)

/-- Marks the last record as committed. -/
def commitLast : List OtpRecord → List OtpRecord
  | [] => []
  | [r] => [{ r with committed := true }]
  | r :: rs => r :: commitLast rs

/-- A value takes effect (R65, R88, R93). After a rollover the entries count from 0 again, in the slots of their new
numbers (R96). -/
def State.otpApply (s : State) (setting v : Nat) : State :=
  match setting with
  | 0 => { s with priv := { s.priv with pairId := v } }
  | 1 => { s with priv := { s.priv with barMap := v } }
  | 2 =>
    let s := { s with priv := { s.priv with key := some (BitVec.ofNat 256 v) } }
    State.each (fun s k => if (s.session k).priv then s.setSession k { s.session k with priv := false } else s) s
      (List.range 8)
  | _ =>
    (({ s with priv := { s.priv with epoch := s.priv.epoch + 1 } } : State).wr pgPRIV R.PRIV_AUDITSEQ 0).setRing .audit
      { s.ring .audit with next := 0 }

/-- The record and its commit mark are written: the value applies (R92, R93). A completion at the very tick of the GO is
that of a record before it (R86). -/
def State.otpDone (s : State) : State :=
  match s.priv.otp with
  | none => s
  | some w =>
    if s.now ≤ w.start then s
    else
    let s := { s with
      part := { s.part with records := commitLast s.part.records },
      priv := { s.priv with otp := none } }
    ((s.otpApply w.setting w.value).wr pgPRIV R.PRIV_OTPSTAT_BUSY 0).wr pgPRIV R.PRIV_OTPSTAT_DONE 1

/-- The command that a word of the queue is, if it is OTP_RECORD_DONE of a tick. -/
def otpDoneAt (t : Nat) : Instr → Bool
  | .otpRecordDone x => decide (x.toNat = t)
  | _ => false

/-- A GO written in the window in which the device completes the record before it is accepted as a new command: a completion
of this tick that still waits comes first (R86). Its own turn then finds nothing to complete. -/
def State.otpSettle (s : State) : State := if s.pending.any (otpDoneAt s.now) then s.otpDone else s

/-- PRIV_OTPCMD.GO with SETTING: the STATUS of the write and the state (R88 to R92). A reserved SETTING is refused with
0x08 (log entry 40). A GO refused while BUSY leaves DONE and FAIL as they were (DESIGN CHOICE, log entry 74). -/
def State.otpGo (old : State) (m : Master) (setting : Nat) : Nat × State :=
  let s := old.otpSettle
  if s.rdb pgPRIV R.PRIV_OTPSTAT_BUSY then (3, s)
  else
    let (v, same) := s.otpStaged setting
    let clear := fun fail : Nat => (s.wr pgPRIV R.PRIV_OTPSTAT_DONE 0).wr pgPRIV R.PRIV_OTPSTAT_FAIL fail
    if 4 ≤ setting then (8, clear 1)
    else if same then (0, clear 0)
    else if (setting = 1 ∧ barMapBad v) ∨ s.rd pgPRIV (otpLeftFld setting) = 0 then (3, clear 1)
    else
      let s := (clear 0).wr pgPRIV R.PRIV_OTPSTAT_BUSY 1
      let r : OtpRecord := { tick := s.now, master := masterCode m, setting := setting, value := v, committed := false,
                             digest := otpDigest s.now (masterCode m) setting v }
      let s := s.wr pgPRIV (otpLeftFld setting) (s.rd pgPRIV (otpLeftFld setting) - 1)
      (5, { s with
        part := { s.part with records := s.part.records ++ [r] },
        priv := { s.priv with otp := some { setting := setting, value := v, master := masterCode m, start := s.now } } })

/-! ### PMBus and the VCORE loop (R669 to R675) -/

/-- The VOUT_COMMAND code of a voltage in mV: round(V × 2^−N), halves upward (R670). -/
def voutCode (n : Int) (mv : Nat) : Nat :=
  if n ≤ 0 then (2 * mv * 2 ^ n.natAbs + 1000) / 2000 else (2 * mv + 1000 * 2 ^ n.natAbs) / (2000 * 2 ^ n.natAbs)

/-- Records a transaction of the device, sent again after each failure (R669, R673). -/
def State.pmbSend (s : State) (command data times : Nat) : State :=
  { s with avs := { s.avs with sent := s.avs.sent ++ List.replicate times {
    address := s.rd pgSYS R.SYS_PMBCFG_ADDR, pec := s.rdb pgSYS R.SYS_PMBCFG_PEC, command := command, data := data } } }

/-- A PMBus transaction with its failed attempts, of which `pec` failed their PEC: each failure is counted, the fourth
sets PMBFAULT and stops the loop (R673). Answers whether it went through. -/
def State.pmb (s : State) (command data failures pec : Nat) : Bool × State :=
  let p := min pec failures
  let s := if failures = 0 then s
    else (s.addTo pgSYS R.SYS_PMBCNT_NACK (failures - p)).addTo pgSYS R.SYS_PMBCNT_PECERR p
  if 4 ≤ failures then
    let s := (s.pmbSend command data 4).raise pgSYS 2 command
    (false, { s with avs := { s.avs with stopped := true } })
  else (true, s.pmbSend command data (failures + 1))

/-- Writes VOUT_COMMAND for a voltage, which becomes the target; nothing while the regulator is locked out (R670). -/
def State.writeVout (s : State) (mv failures pec : Nat) : Bool × State :=
  match s.avs.lockedOut, s.avs.exponent with
  | false, some n =>
    let (ok, s) := s.pmb 0x21 (voutCode n mv) failures pec
    (ok, if ok then s.wr pgSYS R.SYS_VCORE_TARGET mv else s)
  | _, _ => (false, s)

/-- The loop starts or starts anew (R666, R673). -/
def State.avsStart (s : State) : State :=
  { s with avs := { s.avs with stopped := false, calm := 0, intervalAt := s.now, smin := s.rd pgWEIR R.WEIR_SPEED } }

/-- Whether a queued command is a write of SYS_AVSOVR with FIX 1 at the present tick, by a master that may write it. -/
def State.fixComes (s : State) : Instr → Bool
  | .avsOverrideWrite t m v _ _ => decide (t.toNat = s.now) && s.privileged m && bitOf v.toNat 31
  | _ => false

/-- Whether the override is in force; a FIX written while a loop write is due comes first (R675, R676). -/
def State.vcoreFixed (s : State) : Bool := s.rdb pgSYS R.SYS_AVSOVR_FIX || s.pending.any s.fixComes

/-- The end of an interval of the VCORE loop (R671, R672). The failures are those of the first transaction. -/
def State.avsInterval (s : State) (vout iout failures pec : Nat) : State :=
  if s.avs.stopped || s.avs.lockedOut || !s.pagesUp || s.dev.state == .safe || !s.rdb pgSYS R.SYS_AVSCFG_EN ||
      s.vcoreFixed ||
      decide (s.now < s.avs.intervalAt + ms (atLeast1 (s.rd pgSYS R.SYS_AVSCFG_INT))) then s
  else
    let v := s.rd pgSYS R.SYS_VCORE_TARGET
    let step := atLeast1 (s.rd pgSYS R.SYS_AVSCFG_STEP)
    let lo := s.rd pgSYS R.SYS_AVSCFG_LOMARG
    let hi := max (lo + 1) (s.rd pgSYS R.SYS_AVSCFG_HIMARG)
    let smin := s.avs.smin
    let slow := decide (smin < 256 + lo)
    let fast := decide (256 + hi < smin)
    let calm := if slow then 0 else if fast then s.avs.calm + 1 else 0
    let fall := fast && decide (8 ≤ calm)
    let v1 := if slow then min (v + step) 900 else if fall then max (v - step) 700 else v
    let s := if slow && v1 == 900 then s.raise pgSYS 1 (s.rd pgWEIR R.WEIR_SPEED) else s
    let s := { s with avs := { s.avs with calm := if fall then 0 else calm, intervalAt := s.now,
                                          smin := s.rd pgWEIR R.WEIR_SPEED } }
    let (ok, s) := if v1 = v then s.pmb 0x8B 0 failures pec else s.writeVout v1 failures pec
    if !ok then s
    else
      let s := if v1 = v then s else s.pmbSend 0x8B 0 1
      ((s.pmbSend 0x8C 0 1).wr pgSYS R.SYS_VCORE_VOUT vout).wr pgSYS R.SYS_IOUT_IOUT iout

/-- PMB_ALERT_N falls: STATUS_WORD is read, then CLEAR_FAULTS sent (R674). -/
def State.pmbAlert (s : State) (status failures pec : Nat) : State :=
  if !s.pagesUp then s
  else
    let (ok, s) := s.pmb 0x79 0 failures pec
    if !ok then s
    else
      let s := s.raise pgSYS 3 status
      if s.avs.lockedOut then s else s.pmbSend 0x03 0 1

/-- SYS_AVSOVR as it stands takes effect: with FIX 1 the fixed voltage is written, 700 to 900 mV; in SAFE VCORE stays at its
last value (R672, R675). -/
def State.avsOverride (s : State) (failures pec : Nat) : State :=
  if s.rdb pgSYS R.SYS_AVSOVR_FIX && s.pagesUp && s.dev.state != .safe then
    (s.writeVout (clampN 700 900 (s.rd pgSYS R.SYS_AVSOVR_MV)) failures pec).2
  else s

/-- At entry to LINKUP the loop starts: VOUT_MODE is read; a mode other than linear locks the regulator out
(R666, R670). -/
def State.avsBegin (s : State) (voutMode : Option (BitVec 8)) : State :=
  match voutMode with
  | none => (s.avsStart.pmb 0x20 0 4 0).2
  | some v =>
    let s := s.avsStart.pmbSend 0x20 0 1
    if bitsOf v.toNat 5 3 ≠ 0 then
      let s := s.raise pgSYS 2 0x20
      { s with avs := { s.avs with lockedOut := true } }
    else ({ s with avs := { s.avs with exponent := some (sgn 5 (bitsOf v.toNat 0 5)) } } : State).avsOverride 0 0

/-! ### LOAD and BUILD (R660 to R668) -/

/-- SYS_START.STEP. -/
def State.startStep (s : State) : Nat := s.rd pgSYS R.SYS_START_STEP

/-- The next step is in progress. -/
def State.toStep (s : State) (n : Nat) : State := s.wr pgSYS R.SYS_START_STEP n

/-- A step fails: FAIL, STEP and DETAIL are written and the device enters SAFE with cause 0x9 (R668). -/
def State.startFail (s : State) (step detail : Nat) : State :=
  (((s.toStep step).wr pgSYS R.SYS_START_FAIL 1).wr pgSYS R.SYS_START_DETAIL detail).enterSide .safe 9

/-- Microseconds since RESET_N rose (SYS item 1). -/
def State.sinceReset (s : State) : Nat := s.dev.releasedAt + s.now / 16000

/-- Records a time of SYS item 1. -/
def State.markTime (s : State) (i : Nat) : State :=
  { s with dev := { s.dev with times := setNth s.dev.times i s.sinceReset } }

/-- The majority of three samples, bit by bit (R638). -/
def majority (a b c : BitVec 6) : Nat := ((a &&& b) ||| (a &&& c) ||| (b &&& c)).toNat

/-- Whether a frequency lies within 100 ppm of a nominal one (R98). -/
def near100ppm (hz nominal : Nat) : Bool := decide ((hz : Int) - nominal ≤ nominal / 10000) &&
  decide ((nominal : Int) - hz ≤ nominal / 10000)

/-- Whether a camera rail lies within 10 % of what its strap selects (R640). -/
def railOk (vsel : Bool) (mv : Nat) : Bool :=
  let n := if vsel then 3300 else 1800
  decide (9 * n ≤ 10 * mv) && decide (10 * mv ≤ 11 * n)

/-- A step of LOAD completes with what it found (R98, R99, R638 to R640, R660). -/
def State.loadStep (s : State) (r : Sys2Proof.LoadResult) : State :=
  if s.dev.state ≠ .load then s
  else match r with
    | .straps a b c =>
      if s.startStep = 1 then
        let v := majority a b c
        ((s.wr pgSYS R.SYS_STRAP (v + 256)).wr pgSYS R.SYS_START_EXTBUILD (b2n (v % 4 == 1))).toStep 2
      else s
    | .tref hz =>
      if s.startStep = 2 then
        if s.rd pgSYS R.SYS_STRAP_BOOT_MODE = 2 then s.startFail 2 1
        else if near100ppm hz 10000000 then s.toStep 3
        else if near100ppm hz 25000000 then (s.wr pgTIME R.TIME_STAT_TREF25 1).toStep 3
        else s.startFail 2 0
      else s
    | .locked ok us =>
      if s.startStep = 3 then
        if ok then
          ({ s with counter := 0#80, dev := { s.dev with releasedAt := us }, time := { s.time with running := true } } : State).toStep 4
        else s.startFail 3 0
      else s
    | .otp ok =>
      if s.startStep = 4 then
        match s.otpBad with
        | some n => s.startFail 4 n
        | none => if ok && s.part.calOk then s.otpLoad.toStep 5 else s.startFail 4 0xF
      else s
    | .sensors => if s.startStep = 5 then s.toStep 6 else s
    | .camera a b =>
      if s.startStep = 6 then
        if !railOk (s.rdb pgSYS R.SYS_STRAP_CAMA_VSEL) a then s.startFail 6 0
        else if !railOk (s.rdb pgSYS R.SYS_STRAP_CAMB_VSEL) b then s.startFail 6 1
        else (((s.goto .build).toStep 7).markTime 0).trainBegin
      else s

/-- LINKUP is entered: the VCORE loop, the enabled tile lanes and, in a pair, the twin lanes start (R581, R666, R703). -/
def State.enterLinkup (s : State) (voutMode : Option (BitVec 8)) : State :=
  let s := (((s.goto .linkup).toStep 12).markTime 1).setTwin { s.twin with pairedId := s.priv.pairId }
  let s := s.setTwinState (if s.pairMode then 1 else 0)
  State.each State.laneStart (s.avsBegin voutMode) (List.range 40)

/-- A step of BUILD completes with what it found (R504, R662 to R665). -/
def State.buildStep (s : State) (r : Sys2Proof.BuildResult) : State :=
  if s.dev.state ≠ .build then s
  else
    let n := s.startStep
    match r with
    | .calibrated fail =>
      if n = 7 then
        match fail with
        | some k => s.startFail 7 k.val
        | none => s.toStep 8
      else s
    | .sram group bad corrected =>
      if !(n == 8 || n == 9) || s.dev.sramOk then s
      else if bad || decide (64 < corrected) then s.startFail 8 group.val
      else ({ s with dev := { s.dev with sramOk := true } } : State).toStep (if s.dev.dramOk then 10 else 9)
    | .dram fail margins =>
      if !(n == 8 || n == 9) || s.dev.dramOk then s
      else match fail with
        | some k => s.startFail 9 k.val
        | none =>
          let s := s.trained (margins.take 8)
          ({ s with dev := { s.dev with dramOk := true } } : State).toStep (if s.dev.sramOk then 10 else n)
    | .fabric answers speed =>
      if n = 10 then
        let s := s.wr pgWEIR R.WEIR_SPEED speed.toNat
        if !answers then s.startFail 10 1
        else if speed.toNat < 256 then s.startFail 10 2
        else if s.part.f1 < 46080 ∨ s.part.fd1 < 35750 then s.startFail 10 3
        else s.toStep 11
      else s
    | .initialised v => if n = 11 then s.enterLinkup v else s

/-- Whether every host lane that is on is up (R25, R197). -/
def State.hostLanesUp (s : State) : Bool :=
  (List.range 4).all fun n => !s.running (pgHLNK n) .hlnk || s.rdb (pgHLNK n) R.HLNK_STAT_UP

/-- READY is entered from LINKUP once the host lanes are up, and in a pair the twin lanes are up and the pair has formed;
a device that is to be active waits for SLUICE_IN low (R25, R582, R583, R604, R666). -/
def State.enterReady (s : State) : State :=
  if s.dev.state ≠ .linkup || !s.hostLanesUp then s
  else
    let done := fun s : State => (s.toStep 13).markTime 2
    if !s.pairMode then (done ((s.change .ready .solo s.dev.cause).setTwinState 0)).tryStart
    else if !(s.twinUp 0 && s.twinUp 1 && s.twin.paired) then s
    else if s.pairRole = .active then
      if s.twin.sluiceIn then s else (done ((s.becomeActive .ready).setTwinState 3)).sendAlign
    else done ((s.change .ready .standby s.dev.cause).setTwinState 2)

end Sys2Proof.Machine
end

