-- ==== Sys2Proof/Machine/BlockReset.lean ====
section
/-!
DEFINITION. The block reset of PG_CTL.RST (R39, R40, R704). What LOAD and BUILD left in a block is its state at the end
of BUILD: straps, training results, lane locks and pin levels stay (log entry 45).
-/
namespace Sys2Proof.Machine

/-- Returns the register words of a page to their reset values, but those at the given offsets. -/
def State.eraseRegs (s : State) (pg : Nat) (keep : List Nat) : State :=
  { s with regs := mfilter (fun a => !decide (pageOf a = pg) || keep.contains (a % 4096)) s.regs }

/-- The header of a page after a block reset: SEQ and the remembered numbers stay (R704). -/
def Hdr.blockReset (h : Hdr) : Hdr := { seq := h.seq, rem := h.rem }

/-- Clears the staging, the waiting values and the committed set of a page (R85). -/
def State.clearShadow (s : State) (pg : Nat) : State :=
  { s with staged := mfilter (fun a => !decide (pageOf a = pg)) s.staged,
           waiting := mfilter (fun a => !decide (pageOf a = pg)) s.waiting,
           committed := mfilter (fun a => !decide (pageOf a = pg)) s.committed }

/-- Whether a block reset is refused (R39, R40, and R704 for the ring table window). -/
def State.resetRefused (s : State) (m : Master) (k : PageKind) : Bool :=
  (decide (k.privGroups ≠ 0) && !s.privileged m) ||
  (s.inJob && (match k with
    | .pos => true | .time => true | .dfl => true | .cmp => true | .dcp => true | .basn => true | .dram => true
    | .sc => true | .weir => true | .rast => true | .rastc => true | .fire => true | .firec => true | .tlnk => true
    | _ => false)) ||
  (k == .basnw && (s.jobs.cur.isSome || s.jobs.queued.isSome))

/-- SYS: the VCORE loop starts anew; straps and start-up progress stay. -/
def State.resetSys (s : State) : State :=
  let por := s.rd pgSYS R.SYS_RSTCNT_LASTPOR
  ((s.eraseRegs pgSYS [0x44, 0x4C]).wr pgSYS R.SYS_RSTCNT (por * 2 ^ 16)).avsStart

/-- PRIV: the audit log, sessions, the hold and the OTP records stay (R704). -/
def State.resetPriv (s : State) : State :=
  let hold := s.rd pgPRIV R.PRIV_AUTHFAIL_HOLD
  let busy := s.rd pgPRIV R.PRIV_OTPSTAT_BUSY
  let s := (s.eraseRegs pgPRIV [0x50, 0x58]).wr pgPRIV R.PRIV_AUTHFAIL_HOLD hold
  let s := s.wr pgPRIV R.PRIV_OTPSTAT_BUSY busy
  { s with priv := { s.priv with stagedKey := 0#256 } }

/-- WEIR: counts and totals stay; the reset settings wait for the next period start (R704, R717). -/
def State.resetWeir (s : State) : State :=
  let throt := s.rd pgWEIR R.WEIR_STAT_THROT
  let keep := [0x40, 0x48, 0x4C, 0x50, 0x54, 0x58] ++ (List.range 48).map (0x100 + 4 * ·)
  let s := (s.eraseRegs pgWEIR keep).wr pgWEIR R.WEIR_STAT_THROT throt
  s.setWeir { s.weir with resetDue := true, overSet := false, overNow := false, slow := 0 }

/-- A host lane: its FIFO, counts and address; a change of MODE or FEC takes it down and up again (R197, R704). -/
def State.resetLane (s : State) (n : Nat) : State :=
  let old := s.rd (pgHLNK n) R.HLNK_CTL
  let s := s.eraseRegs (pgHLNK n) [0x44]
  let s := (s.wr (pgHLNK n) R.HLNK_STAT_PAUSED 0).setLane n { tx := (s.lane n).tx, reconfig := (s.lane n).reconfig }
  s.laneReconfig n old

/-- TIME: the counter, the anchor, the rate and the integrator stay; FREE, and the cells clear (R704). -/
def State.resetTime (s : State) : State :=
  let st := s.rd pgTIME R.TIME_STAT
  let s := (s.eraseRegs pgTIME []).wr pgTIME R.TIME_STAT (st % 32 / 4 * 4)
  let x := s.time
  s.setTime { running := x.running, anchorC := x.anchorC, anchorA := x.anchorA, rate := x.rate, integ := x.integ, ppsRef := s.now }

/-- A subchannel: queue and counts; its training stays. -/
def State.resetSc (s : State) (n : Nat) : State :=
  let st := s.scState n
  let s := s.eraseRegs (pgSC n) [0x4C]
  let s := s.setSc n { centres := (s.sc n).centres, intEnd := s.now + ns 3900 }
  let s := s.setScState n st
  (s.setDegraded n false).setHot n false |>.setRecov n false

/-- DRAM: as at the end of BUILD, which leaves it trained and not frozen; the subchannels have pages of their own. -/
def State.resetDram (s : State) : State :=
  let s := (s.eraseRegs pgDRAM []).wr pgDRAM R.DRAM_STAT_TRAINED 1
  s.setDram { scs := s.dram.scs }

/-- POS: counts, coordinates and triggers; the input levels stay. -/
def State.resetPos (s : State) : State :=
  let ins := s.pos.ins.foldl (fun m e => mset {} m e.1 { level := e.2.level }) []
  (s.eraseRegs pgPOS []).setPos { ins := ins }

/-- RAST of a bar: geometry, planes held and the nozzle table (R301). -/
def State.resetRast (s : State) (b : Nat) : State :=
  let s := (s.eraseRegs (pgRAST b) []).setBarRast b {}
  { s with noz := mfilter (fun a => !decide (a / 422400 = b)) s.noz }

/-- FIRE of a bar: descriptors, pace and tiles. -/
def State.resetFire (s : State) (b : Nat) : State :=
  let s := (s.eraseRegs (pgFIRE b) []).setBarF b {}
  { s with tiles := mfilter (fun a => !decide (a / 22 = b)) s.tiles }

/-- FIRE common: the stop sequence, marks and defect ring. -/
def State.resetFirec (s : State) : State :=
  let s := ((s.eraseRegs pgFIREC []).setRing .defect {}).setFire { thermal := s.fire.thermal }
  ({ s with lines := {} } : State).setLimitLine

/-- HLTH of a bar: histories, summaries and ring. -/
def State.resetHlth (s : State) (b : Nat) : State :=
  let s := (s.eraseRegs (pgHLTH b) []).setRing (.health (Fin.ofNat 8 b)) {}
  { s with nozHealth := mfilter (fun a => !decide (a / 422400 = b)) s.nozHealth,
           tileHealth := mfilter (fun a => !decide (a / 22 = b)) s.tileHealth }

/-- CAM image pipeline: tables, swaps and load. -/
def State.resetCami (s : State) : State :=
  let s := s.eraseRegs pgCAMI []
  let s := (s.setCamP 0 { s.camP 0 with copy := false, pend := false }).setCamP 1 { s.camP 1 with copy := false, pend := false }
  { s with cam := { s.cam with tables := [], last := 1, loadWin := 0, loadNow := 0, loadPrev := 0, peak := 0 } }

/-- LOOP: off, with its windows free. -/
def State.resetLoop (s : State) : State :=
  let s := s.loopEnd
  ((s.eraseRegs pgLOOP []).setRing .loop {}).setLoop {}

/-- TWIN: the pair forms anew; lane locks and the pins stay, and SLUICE_OUT is released. -/
def State.resetTwin (s : State) : State :=
  let st := s.rd pgTWIN R.TWIN_STAT
  let x := s.twin
  let s := (s.eraseRegs pgTWIN []).setTwin { sluiceIn := x.sluiceIn, sluiceInAt := x.sluiceInAt, pairedId := x.pairedId, tx := x.tx }
  let s := (s.wr pgTWIN R.TWIN_STAT_LANE0 (bitsOf st 4 1)).wr pgTWIN R.TWIN_STAT_LANE1 (bitsOf st 5 1)
  if s.pairMode then s.setTwinState 1 else s

/-- PIO: filters and counts; the pins and their keepers stay. -/
def State.resetPio (s : State) : State :=
  let ins := s.pio.ins.foldl (fun m e => mset {} m e.1 { raw := e.2.raw, level := e.2.level }) []
  { s.eraseRegs pgPIO [] with pio := { s.pio with ins := ins } }

/-- The block behind a page returns to its reset state (R704). -/
def State.resetBlock (s : State) (k : PageKind) (inst : Nat) : State :=
  match k with
  | .sys => s.resetSys
  | .priv => s.resetPriv
  | .weir => s.resetWeir
  | .thrm => ({ s.eraseRegs pgTHRM [] with therm := {} } : State).thermHold
  | .hlnk => s.resetLane inst
  | .yrt => { s.eraseRegs pgYRT [] with sess := [] }
  | .basn => ((s.eraseRegs pgBASN []).setJobs { s.jobs with queued := none }).jobRegs
  | .basnw => s.eraseRegs pgBASNW []
  | .time => s.resetTime
  | .ptpa => (s.eraseRegs pgPTPA []).setPtp {}
  | .chk => { s.eraseRegs pgCHK [] with chk := {} }
  | .dfl => s.eraseRegs pgDFL []
  | .cmp => { s.eraseRegs pgCMP [] with cmps := [] }
  | .dcp => (s.eraseRegs pgDCP []).setJobs { s.jobs with dcps := [] }
  | .dram => s.resetDram
  | .sc => s.resetSc inst
  | .pos => s.resetPos
  | .rast => s.resetRast inst
  | .rastc => { s.eraseRegs pgRASTC [] with thr := [] }
  | .fire => s.resetFire inst
  | .firec => s.resetFirec
  | .hlth => s.resetHlth inst
  | .camp => (s.eraseRegs (pgCAMP inst) []).camDisable inst
  | .cami => s.resetCami
  | .cams => { s.eraseRegs pgCAMS [] with cam := { s.cam with wins := [] } }
  | .loop => s.resetLoop
  | .twin => s.resetTwin
  | .pio => s.resetPio
  | .tlnk => (s.eraseRegs (pgTLNK inst) []).laneOff inst

/-- A block reset in one handshake (R704): it sets no flag, and the header stands in its reset state throughout. -/
def State.blockReset (s : State) (pg : Nat) (k : PageKind) (inst : Nat) : State :=
  let h := (s.head pg).blockReset
  { (((s.setHead pg h).resetBlock k inst).clearShadow pg).setHead pg h with raised := s.raised }

end Sys2Proof.Machine
end

