-- ==== Sys2Proof/Machine/Stage.lean ====
section
/-!
DEFINITION. Writes of register fields: plain fields, and shadow storage with its commits (R79 to R84, R706).
-/
namespace Sys2Proof.Machine

/-- Stores the bits of a mask in a register. -/
def State.putPlain (s : State) (addr mask : Nat) (v : Word) : State :=
  s.setWord addr (BitVec.ofNat 32 (Nat.land (s.word addr).toNat (2 ^ 32 - 1 - mask) + Nat.land v.toNat mask))

/-- Whether the camera port whose frames a register of a page waits for is disabled; for a committed set of the
pipeline page (no address) whether both are (R79). -/
def State.portIdle (s : State) (pg : Nat) (addr : Option Nat) : Bool :=
  let off := fun p => !s.enabled (pgCAMP p)
  if pg = pgCAMP 0 then off 0 else if pg = pgCAMP 1 then off 1
  else match addr with
    | some a => if inContext 0 a then off 0 else off 1
    | none => off 0 && off 1

/-- Whether the source of a class's boundary is not running, so that a value applies at its write or commit (R79;
log entry 47). -/
def State.sourceIdle (s : State) (pg : Nat) (cls : ApplyClass) (addr : Option Nat) : Bool :=
  match cls with
  | .imm => true
  | .period => false
  | .frame => s.portIdle pg addr
  | .line => s.dev.state == .ready
  | .band => s.dev.state == .ready
  | .job => s.dev.state == .ready

/-- An application on a page: APPSEQ advances and APPLIED is set (R84); the position unit follows its settings.
`old` is the state before. -/
def State.applied (s old : State) (pg : Nat) : State :=
  (if pg = pgPOS then s.posApplied old else s).countApply pg

/-- A write of the RWS fields of a register: staged in held mode, else waiting for the boundary of its listed class,
or applied at once where the source is not running (R79 to R82). -/
def State.putShadow (s : State) (pg a : Nat) (cls : ApplyClass) (v : Word) : State :=
  if cls = .imm then s.applyWord a v
  else if (s.head pg).held then { s with staged := mput s.staged a v }
  else if s.sourceIdle pg cls (some a) then
    (({ s with waiting := merase s.waiting a } : State).applyWord a v).applied s pg
  else { s with waiting := mput s.waiting a { cls := cls, value := v } }

/-- The committed set of a page applies. -/
def State.applyCommitted (s : State) (pg : Nat) : State :=
  let t : State := { s with committed := s.committed.filter (!onPage pg ·) }
  let h := t.head pg
  ((t.setHead pg { h with awaiting := none }).applyWords (s.committed.filter (onPage pg))).applied s pg

/-- PG_APPLY.COMMIT: staging moves to the committed set, or merges into the set that awaits its boundary (R81, R83).
In automatic mode it has no effect (log entry 46). -/
def State.commit (s : State) (pg : Nat) (cls : ApplyClass) : State :=
  let h := s.head pg
  if !h.held then s
  else
    let c := h.awaiting.getD cls
    let merge := fun m : NMap Word => (s.staged.filter (onPage pg)).foldl (fun m e => mput m e.1 e.2) m
    let late := if h.awaiting.isNone then none
      else match s.lateCommit pg with
        | some l => some { l with set := merge l.set }
        | none => some { tick := s.now, before := s.committed.filter (onPage pg), set := merge [] }
    let s : State := { s with staged := s.staged.filter (!onPage pg ·), committed := merge s.committed }
    let s := s.setHead pg { h with awaiting := some c, late := late }
    if s.sourceIdle pg c none then s.applyCommitted pg else s

/-- PG_APPLY.DISCARD: staging returns to the values in force (02, PG_APPLY). -/
def State.discard (s : State) (pg : Nat) : State := { s with staged := s.staged.filter (!onPage pg ·) }

/-- A register write in its own page: RW and CNT fields at once, a count with what the hardware has added in the same
window, RWS fields by their class (R33, R79, R86). -/
def State.putReg (s : State) (pg addr : Nat) (d : RegDef) (v : Word) : State :=
  let s := (s.putPlain addr (d.rw + d.cnt) (s.withHits addr v)).noteWrite addr
  if d.rws = 0 then s else s.putShadow pg addr d.cls v

end Sys2Proof.Machine
end

