-- ==== Sys2Proof/Machine/Hooks.lean ====
section
/-!
DEFINITION. What a write of a block register does, page by page: the fields it stores, the commands it carries and the
rules under which the block refuses it. Answers the STATUS code (0 and 5 accept), whether an accepted write enters the
audit log (R90), and the state.
-/
namespace Sys2Proof.Machine

/-- What the outside supplies to a write besides its value: failed attempts of the PMBus transaction it starts, with
those that failed their PEC (R673), and whether the twin is in step (R611; free where not given, log entry 49). -/
structure WriteEnv where
  failures : Nat := 0
  pec : Nat := 0
  inStep : Option Bool := none
  deriving DecidableEq, Repr

/-- An accepted write. -/
def wrote (s : State) : Nat × Bool × State := (0, true, s)

/-- A refused write with its STATUS code. -/
def denied (s : State) (code : Nat := 8) : Nat × Bool × State := (code, true, s)

/-- A write that stores the register, then acts. -/
def State.putThen (s : State) (addr : Nat) (d : RegDef) (v : Word) (f : State → State) : Nat × Bool × State :=
  wrote (f (s.putReg (pageNo addr) addr d v))

/-- SYS (20): TRANSEQ, the loop's enable and the override (R673, R675). -/
def State.writeSys (s : State) (env : WriteEnv) (addr : Nat) (d : RegDef) (v : Word) : Nat × Bool × State :=
  if d.off = R.SYS_STATE.off then
    wrote { s with dev := { s.dev with transeq := BitVec.ofNat 8 (bitsOf (s.withHits addr v).toNat 16 8) } }
  else if d.off = R.SYS_AVSCFG.off then
    let was := s.rdb pgSYS R.SYS_AVSCFG_EN
    s.putThen addr d v fun s => if !was && bitOf v.toNat 0 then s.avsStart else s
  else if d.off = R.SYS_AVSOVR.off then s.putThen addr d v (·.avsOverride env.failures env.pec)
  else s.putThen addr d v id

/-- PRIV (02): OTP changes, audit spilling and session close (R60, R89 to R92, R710). -/
def State.writePriv (s : State) (m : Master) (addr : Nat) (d : RegDef) (v : Word) : Nat × Bool × State :=
  if d.off = R.PRIV_OTPCMD.off ∧ bitOf v.toNat 4 = true then
    let (code, t) := s.otpGo m (v.toNat % 16)
    if code = 0 ∨ code = 5 then (code, code == 5, t.putPlain addr 0xF v) else (code, true, t)
  else if d.off = R.PRIV_AUDITCTL.off then s.putThen addr d v (·.spillSync .audit)
  else if d.off = R.PRIV_SESSCLOSE.off then
    s.putThen addr d v fun s => if bitOf v.toNat 3 then s.closeSession (v.toNat % 8) else s
  else s.putThen addr d v id

/-- WEIR (14): the lock, activities without a burst, and the floor override (R513, R516, R517). -/
def State.writeWeir (s : State) (m : Master) (addr : Nat) (d : RegDef) (i : Nat) (v : Word) : Nat × Bool × State :=
  let locked := d.off == R.WEIR_CTL.off || d.off == R.WEIR_THROT.off || decide (0x100 ≤ d.off)
  if locked && s.rdb pgWEIR R.WEIR_LOCK_LOCK && !s.privileged m then denied s
  else if d.off = 0x104 ∧ (inRun i 10 4 = true ∨ i = 20) then wrote s
  else if d.off = R.WEIR_FLOOROVR.off then s.putThen addr d v State.weirUnguar
  else s.putThen addr d v id

/-- THRM (18): limits in order, and actions that follow the level (R623, R624). -/
def State.writeThrm (s : State) (addr : Nat) (d : RegDef) (v : Word) : Nat × Bool × State :=
  if d.off = R.THRM_DIELIM.off ∧ limitsOk false v.toNat = false then denied s
  else if d.off = R.THRM_DRAMLIM.off ∧ limitsOk true v.toNat = false then denied s
  else if d.off = R.THRM_CTL.off then s.putThen addr d v State.thermHold
  else s.putThen addr d v id

/-- BASN_CMD: HALT, RESUME and ABORT of the running job (R236). -/
def State.basnCmd (s : State) (v : Nat) : State :=
  let s := if bitOf v 0 then s.haltJob 1 else s
  let s := if bitOf v 1 then s.resumeJob else s
  if bitOf v 2 then s.abortJob else s

/-- Whether a running or queued job names a basin (R215). -/
def State.basinNamed (s : State) (b : Nat) : Bool :=
  let f := fun j : Option Job => match j with | some j => j.basin == b | none => false
  f s.jobs.cur || f s.jobs.queued

/-- Whether a basin as a BASN_RCFG value configures it may be enabled (R213, R215). -/
def State.basinFits (s : State) (b v : Nat) : Bool :=
  let size := 2 ^ clampN 12 32 (bitsOf v 4 6)
  let base := s.basinBase b
  decide (base % size = 0) && decide (base + size ≤ 2 ^ 35) &&
  (s.reservedRegions.all fun r => !overlaps r (base, size)) &&
  ((List.range 32).all fun k => k == b || !s.basinOn k || !overlaps (s.basinBase k, s.basinSize k) (base, size))

/-- The ring table window (05): enabling, disabling and moving basins (R214, R215); DEVPROD follows USE. -/
def State.writeBasnw (s : State) (addr : Nat) (d : RegDef) (b : Nat) (v : Word) : Nat × Bool × State :=
  let was := s.basinOn b
  if d.off = 0x40 then
    if was && bitsOf v.toNat 0 23 != s.rd pgBASNW (R.BASN_RBASE_BASE b) then denied s else s.putThen addr d v id
  else if d.off = 0x44 then
    let on := bitOf v.toNat 0
    let old := s.rd pgBASNW (R.BASN_RCFG b)
    if was && (bitsOf old 1 2 != bitsOf v.toNat 1 2 || bitsOf old 4 6 != bitsOf v.toNat 4 6) then denied s
    else if was && !on && s.basinNamed b then denied s
    else if !was && on && !s.basinFits b v.toNat then denied s
    else s.putThen addr d v fun s =>
      let s := s.wr pgBASNW (R.BASN_RCFG_DEVPROD b) (b2n (bitOf v.toNat 2))
      let s := if was = on then s else s.basinAnew b
      if !was && on then State.each (fun s n => let l := s.lane n; s.setLane n { l with creditL := merase l.creditL b }) (s.setBasin b {}) (List.range 4)
      else s
  else s.putThen addr d v id

/-- TIME (03): the commands of TIME_CTL, after the samples of its handshake, and PPS_OUT (R109 to R112, R136). A write
whose ARM is refused changes MODE (R112) and, with it, SRC and AUTOREARM (DESIGN CHOICE, log entry 82). -/
def State.writeTime (s : State) (addr : Nat) (d : RegDef) (v : Word) : Nat × Bool × State :=
  if d.off = R.TIME_CTL.off then
    let s := s.samplesFirst
    let old := s.rd pgTIME R.TIME_CTL
    let (refused, s) := (s.putReg pgTIME addr d v).timeCtl old v.toNat
    if refused then denied s else wrote s
  else if d.off = R.TIME_PPSCTL.off then
    let was := s.rdb pgTIME R.TIME_PPSCTL_OUTEN
    s.putThen addr d v fun s =>
      if bitOf v.toNat 0 then (if was then s else s.setTime { s.time with ppsNext := some s.nextSecond })
      else s.setTime { s.time with ppsOut := false, ppsNext := none }
  else s.putThen addr d v id

/-- CHK (16): configuration of a channel (R562, R568 to R571). -/
def State.writeChk (s : State) (addr : Nat) (d : RegDef) (n : Nat) (v : Word) : Nat × Bool × State :=
  if d.off = 0x100 then
    if s.chkReserved n || s.chkLocked n v.toNat then denied s else wrote (s.chkConfig n v.toNat)
  else if d.off = 0x104 then
    if s.chkReserved n || s.rdb pgCHK (R.CHK_CFG_EN n) then denied s else s.putThen addr d v id
  else s.putThen addr d v id

/-- One command of DFL_CMPCTL: 0 START, 1 RESUME, 2 ABORT, 3 SAVE, 4 RESTORE. -/
def State.cmpCommand (s : State) (n cmd : Nat) : State :=
  match cmd with
  | 0 => s.cmpStart n
  | 1 => s.cmpResume n
  | 2 => s.cmpAbort n
  | 3 => s.cmpSave n
  | _ => s.cmpRestore n

/-- The commands of a write in ascending order of their bits, up to the first that the state does not accept; `ok`
tells whether all were accepted (R270; log entry 48). -/
def State.cmpCommands (s : State) (n v : Nat) : List Nat → Bool × State
  | [] => (true, s)
  | c :: cs =>
    if bitOf v (12 + c) then
      if s.cmpAccepts n c then (s.cmpCommand n c).cmpCommands n v cs else (false, s.cmpRefuse n)
    else s.cmpCommands n v cs

/-- Compressor channels (06): commands act on the fields of the same write; a command that is not accepted refuses the
write and sets ERRCODE 4 (R270). -/
def State.writeCmp (s : State) (addr : Nat) (d : RegDef) (n : Nat) (v : Word) : Nat × Bool × State :=
  if d.off = 0x40 then
    let old := s.word addr
    let (ok, s) := (s.putReg pgCMP addr d v).cmpCommands n v.toNat [0, 1, 2, 3, 4]
    if ok then wrote s else denied (s.setWord addr old)
  else s.putThen addr d v id

/-- DRAM (15): masks, the reserved region and the freeze release (R529, R530, R557). -/
def State.writeDram (s : State) (addr : Nat) (d : RegDef) (v : Word) : Nat × Bool × State :=
  let map := inRun d.off R.DRAM_MAPSC0.off 28
  let free := (s.dev.state == .linkup || s.dev.state == .ready) && !((List.range 32).any s.basinOn)
  if (map || d.off == R.DRAM_RSV.off) && !free then denied s
  else if map && !maskOk ((d.off - R.DRAM_MAPSC0.off) / 4) v.toNat then denied s
  else if d.off = R.DRAM_FRZCTL.off then
    s.putThen addr d v fun s => if bitOf v.toNat 0 then s.freezeRelease else s
  else s.putThen addr d v id

/-- The clear commands of POS_CTL and what its enables start (R152, R154, R169, R177, R186). -/
def State.posCtl (s old : State) (v : Nat) : State :=
  let s := if bitOf v 8 then s.clearEnc 0 else s
  let s := if bitOf v 9 then s.clearEnc 1 else s
  let s := if bitOf v 10 then s.clearHall else s
  let s := if bitOf v 11 then s.clearSsn 0 else s
  let s := if bitOf v 12 then s.clearSsn 1 else s
  (State.each State.ssnIdle s [0, 1]).posEnables (old.encOn 0) (old.encOn 1) (old.edgeOn 6)

/-- RAST of a bar (07): nozzle table writes (R302, R303, R493). -/
def State.writeRast (s : State) (addr : Nat) (d : RegDef) (b : Nat) (v : Word) : Nat × Bool × State :=
  if d.off = R.RAST_NTDATA.off then
    match nozAddr (s.rd (pgRAST b) R.RAST_NTADDR) with
    | none => denied s
    | some i =>
      let old := s.nozzleNext b i % 256
      let s := s.hostNozWrite b i (v.toNat % 65536)
      wrote (if old = v.toNat % 256 then s else s.setBase b i (sgn 8 v.toNat))
  else s.putThen addr d v id

/-- The four threshold entries of a word; an entry equal to its reset value is not listed. -/
def State.putThreshold (s : State) (w v : Nat) : State :=
  { s with thr := (List.range 4).foldl (fun m k =>
      let x := bitsOf v (8 * k) 8
      if x = thrReset (4 * w + k) then merase m (4 * w + k) else mput m (4 * w + k) x) s.thr }

/-- RAST common (07): threshold writes (R280). -/
def State.writeRastc (s : State) (addr : Nat) (d : RegDef) (v : Word) : Nat × Bool × State :=
  if d.off = R.RAST_THRDATA.off then
    if s.inJob then denied s else wrote (s.putThreshold (s.rd pgRASTC R.RAST_THRADDR_WORD) v.toNat)
  else s.putThen addr d v id

/-- FIRE of a bar (08): descriptor table words are shadowed one by one. -/
def State.writeFire (s : State) (addr : Nat) (d : RegDef) (b : Nat) (v : Word) : Nat × Bool × State :=
  if d.off = R.FIRE_TBLDATA.off then
    let w := s.rd (pgFIRE b) R.FIRE_TBLADDR_WORD
    if tblReserved w then wrote s else wrote (s.putShadow (pgFIRE b) (tblAddr b w) .job (BitVec.ofNat 32 (Nat.land v.toNat (tblMask w))))
  else s.putThen addr d v id

/-- FIRE common (08, 11): REARM and the spilling of defect records (R439, R710). -/
def State.writeFirec (s : State) (addr : Nat) (d : RegDef) (v : Word) : Nat × Bool × State :=
  if d.off = R.FIRE_DEFCTL.off then s.putThen addr d v (·.spillSync .defect)
  else if d.off = R.FIRE_SBCMD.off then s.putThen addr d v fun s => if bitOf v.toNat 0 then s.sbRearm else s
  else s.putThen addr d v id

/-- HLTH of a bar (10): commands, baselines and the spilling of health records (R416, R418, R427, R710). -/
def State.writeHlth (s : State) (addr : Nat) (d : RegDef) (b : Nat) (v : Word) : Nat × Bool × State :=
  if d.off = R.HLTH_CMD.off then
    s.putThen addr d v fun s =>
      let s := if bitOf v.toNat 6 then s.resultsFirst.hlthRebase b else s
      if bitOf v.toNat 7 then s.hlthClrsum b else s
  else if d.off = R.HLTH_LOGCTL.off then s.putThen addr d v (·.spillSync (.health (Fin.ofNat 8 b)))
  else if d.off = R.HLTH_NDATA.off then
    match nozAddr (s.rd (pgHLTH b) R.HLTH_NADDR) with
    | none => denied s
    | some i =>
      let s := s.resultsFirst
      wrote (State.driftJudge b (s.setNozH b i { s.nozH b i with base := bitsOf v.toNat 16 16 }) i)
  else if d.off = R.HLTH_DRIFT.off then
    s.putThen addr d v fun s => State.each (State.driftJudge b) s (s.readEntries b 0 422400)
  else if d.off = R.HLTH_VWIN.off then
    s.putThen addr d v fun s => State.each (State.supplyJudge b) s (List.range (s.fitted b))
  else s.putThen addr d v id

/-- CAM image pipeline (12): tables and their swap (R465). -/
def State.writeCami (s : State) (addr : Nat) (d : RegDef) (v : Word) : Nat × Bool × State :=
  if d.off = R.CAM_TBLDATA.off then
    let (p, t, i) := camTableAt (s.rd pgCAMI R.CAM_TBLADDR)
    wrote (if i < camTableLen t then s.setCamTable p t i (v.toNat % 65536) else s)
  else if d.off = R.CAM_TBLSWAP.off then
    s.putThen addr d v fun s =>
      let s := if bitOf v.toNat 0 then s.askSwap 0 else s
      if bitOf v.toNat 1 then s.askSwap 1 else s
  else s.putThen addr d v id

/-- CAM statistics (12, 13): windows of the colour loop are refused (R484); a window written anew starts anew. -/
def State.writeCams (s : State) (addr : Nat) (d : RegDef) (w : Nat) (v : Word) : Nat × Bool × State :=
  if 0x100 ≤ d.off then
    if s.loopOwns w then denied s
    else s.putThen addr d v fun s => s.setCamWin w { s.camWin w with open_ := [], closed := 0 }
  else s.putThen addr d v id

/-- LOOP (13): RELEARN, RESETINT and REBASE, and the spilling of loop records (R489, R493, R710). -/
def State.writeLoop (s : State) (addr : Nat) (d : RegDef) (v : Word) : Nat × Bool × State :=
  if d.off = R.LOOP_CMD.off then
    s.putThen addr d v fun s =>
      let s := if v.toNat % 16 < 2 then s else s.cyclesFirst
      let s := if bitOf v.toNat 1 then s.loopRelearn else s
      let s := if bitOf v.toNat 2 then s.loopResetInt else s
      if bitOf v.toNat 3 then s.rebase else s
  else if d.off = R.LOOP_LOGCTL.off then s.putThen addr d v (·.spillSync .loop)
  else s.putThen addr d v id

/-- In LINKUP the setting of SOLO decides whether the device waits for its twin (R581, R582). -/
def State.soloChange (s : State) : State :=
  if s.dev.state = .linkup then
    if s.pairMode then (if s.twinState = 0 then s.setTwinState 1 else s) else s.setTwinState 0
  else s

/-- TWIN (17): the handover, ALIGN and SOLO (R581, R589, R611). A write by the twin keeps the device's own SOLO
(R584). -/
def State.writeTwin (s : State) (env : WriteEnv) (m : Master) (addr : Nat) (d : RegDef) (v : Word) : Nat × Bool × State :=
  if d.off = R.TWIN_CMD.off then
    let v := v.toNat
    let (step, s) := match env.inStep with
      | some b => (b, s)
      | none => if bitOf v 0 then let (n, s) := s.draw; ((Config.freeWord n).getLsbD 0, s) else (false, s)
    if bitOf v 0 && !(s.liveActive && step) then denied s
    else
      let s := if bitOf v 0 then s.handover else s
      wrote (if bitOf v 1 then s.sendAlign else s)
  else if d.off = R.TWIN_CFG.off then
    let own := s.rd pgTWIN R.TWIN_CFG_SOLO
    let v := if m = .twin then BitVec.ofNat 32 (setBits v.toNat 0 1 own) else v
    s.putThen addr d v State.soloChange
  else s.putThen addr d v id

/-- TLNK (09): BRINGUP restarts the lane, or is refused during a job (R353). -/
def State.writeTlnk (s : State) (addr : Nat) (d : RegDef) (n : Nat) (v : Word) : Nat × Bool × State :=
  if d.off = R.TLNK_CTL.off ∧ bitOf v.toNat 3 = true then
    if s.inJob then denied s else s.putThen addr d v (·.bringUp n)
  else s.putThen addr d v id

/-- A write of a block register of a page that answers; `i` is the index in an array of registers. -/
def State.writeBlock (s : State) (env : WriteEnv) (m : Master) (k : PageKind) (inst addr : Nat) (d : RegDef) (i : Nat)
    (v : Word) : Nat × Bool × State :=
  match k with
  | .sys => s.writeSys env addr d v
  | .priv => s.writePriv m addr d v
  | .weir => s.writeWeir m addr d i v
  | .thrm => s.writeThrm addr d v
  | .hlnk =>
    let old := s.rd (pgHLNK inst) R.HLNK_CTL
    s.putThen addr d v fun s => if d.off = R.HLNK_CTL.off then s.laneReconfig inst old else s
  | .basn => s.putThen addr d v fun s => if d.off = R.BASN_CMD.off then s.basnCmd v.toNat else s
  | .basnw => s.writeBasnw addr d i v
  | .time => s.writeTime addr d v
  | .ptpa =>
    let was := s.rdb pgPTPA R.PTPA_CTL_LEARN
    s.putThen addr d v (·.learnChange was)
  | .chk => s.writeChk addr d i v
  | .cmp => s.writeCmp addr d i v
  | .dram => s.writeDram addr d v
  | .pos => s.putThen addr d v fun t => if d.off = R.POS_CTL.off then t.posCtl s v.toNat else t
  | .rast => s.writeRast addr d inst v
  | .rastc => s.writeRastc addr d v
  | .fire => s.writeFire addr d inst v
  | .firec => s.writeFirec addr d v
  | .hlth => s.writeHlth addr d inst v
  | .camp => s.putThen addr d v fun s => if d.off = R.CAM_SWTRIG.off ∧ bitOf v.toNat 0 = true then s.softTrigger inst else s
  | .cami => s.writeCami addr d v
  | .cams => s.writeCams addr d i v
  | .loop => s.writeLoop addr d v
  | .yrt =>
    let was := s.rdb pgYRT R.YRT_CTL_LISTEN
    s.putThen addr d v (·.listenStart was)
  | .twin => s.writeTwin env m addr d v
  | .pio => s.putThen addr d v State.tryStart
  | .tlnk => s.writeTlnk addr d inst v
  | _ => s.putThen addr d v id

end Sys2Proof.Machine
end

