-- ==== Sys2Proof/Machine/Operands.lean ====
section
/-!
DEFINITION. Operand forms of the register commands (02): the address of a header or block register of a page, the
words of PG_CTL, PG_APPLY and PG_MBXSEL, and a value with a command bit.
-/
namespace Sys2Proof.Machine

/-- The address of the register that holds a field of a page (R36). -/
def fieldAddr (pg : Nat) (f : Fld) : Nat := pg * 4096 + f.off

/-- A value that carries a command bit besides. -/
def withBit (v : Word) (f : Fld) : Word := v ||| BitVec.ofNat 32 (2 ^ f.lo)

/-- A value with a one-bit field at 0. -/
def withoutBit (v : Word) (f : Fld) : Word := v &&& ~~~(BitVec.ofNat 32 (2 ^ f.lo))

/-- PG_CTL with RST (R39, R704). -/
def ctlReset : Word := 2#32

/-- PG_CTL with EN as given (R705). -/
def ctlEnable (en : Bool) : Word := if en then 1#32 else 0#32

/-- PG_APPLY with COMMIT (R81). -/
def applyCommit (v : Word) : Word := withBit v ⟨0x1C, 4, 1⟩

/-- PG_APPLY with DISCARD (R707). -/
def applyDiscard (v : Word) : Word := withBit v ⟨0x1C, 7, 1⟩

/-- PG_MBXSEL: item and direction (R68, R71). -/
def selWord (item : Nat) (dir : Bool) : Word := BitVec.ofNat 32 (item + if dir then 2 ^ 15 else 0)

end Sys2Proof.Machine
end

