-- ==== Sys2Proof/Machine/Access.lean ====
section
/-!
DEFINITION. A write of one register word by a master: the checks of masters and privilege, the header registers, the
mailbox, the audit log and the mirror of the twin (02, 17).
-/
namespace Sys2Proof.Machine

/-! ### Header writes (R38 to R40, R74, R707) -/

/-- A write of PG_CTL.EN where it is writable (R191, R705, R711). PTPA_TMO.SYNC and PTPA_TMO.ANN run from the enable of the
assist (DESIGN CHOICE, log entry 79). -/
def State.writeEn (s : State) (pg : Nat) (k : PageKind) (inst : Nat) (en : Bool) : Nat × Bool × State :=
  let was := s.enabled pg
  let t := s.setHead pg { s.head pg with en := en }
  match k with
  | .pos =>
    if !en && s.inJob then denied s
    else wrote ((State.each State.ssnIdle t [0, 1]).posEnables (s.encOn 0) (s.encOn 1) (s.edgeOn 6))
  | .loop => wrote (if was && !en then t.loopEnd else t)
  | .camp => wrote (if en && !was then t.camEnable inst else if was && !en then t.camDisable inst else t)
  | .tlnk => wrote (if en && !was then t.bringUp inst else if was && !en then t.laneOff inst else t)
  | .ptpa => wrote (if en && !was then t.setPtp { t.ptp with syncRef := some s.now, annRef := some s.now } else t)
  | _ => wrote t

/-- A write of PG_CTL: a block reset, or EN (R39, R40, R704, R705). -/
def State.writeCtl (s : State) (m : Master) (pg : Nat) (k : PageKind) (inst v : Nat) : Nat × Bool × State :=
  if bitOf v 1 then if s.resetRefused m k then denied s 3 else wrote (s.blockReset pg k inst)
  else if k.enWritable then s.writeEn pg k inst (bitOf v 0)
  else wrote s

/-- A write of PG_EVTCLR clears the masked flags whose remembered number is not newer than SEQ (R74). -/
def State.clearEvents (s : State) (pg v : Nat) : State :=
  s.setHead pg ((s.head pg).clear v)

/-- A write of PG_APPLY: refused as a whole for a class that the page does not accept; else its fields, then COMMIT,
then DISCARD (R81, R707). APPSEQ takes the written value (R86). Where PG_CAP.SHADOW is 0 the writable fields, as PG_MBXSEL and
PG_MBXD on a page without items, store and read back all the same (DESIGN CHOICE, log entry 72). -/
def State.writeApply (s : State) (pg : Nat) (k : PageKind) (v : Nat) : Nat × Bool × State :=
  let n := bitsOf v 0 3
  match ApplyClass.ofCode n with
  | none => denied s
  | some c =>
    if bitOf k.cap (8 + n) = false then denied s
    else
      let s := s.setHead pg { s.head pg with
        cls := n, held := bitOf v 3, view := bitOf v 6,
        appseq := BitVec.ofNat 8 (bitsOf (s.withHits (headAddr pg 0x1C) (BitVec.ofNat 32 v)).toNat 16 8) }
      let s := if bitOf v 4 then s.commit pg c else s
      wrote (if bitOf v 7 then s.discard pg else s)

/-! ### The mailbox (R46, R67 to R71, R708) -/

/-- A selection that fails: VALID reads 0 and SEQ stays; with ERRCODE 2 PG_MBXSEL keeps its value (R708). -/
def Mbx.failed (x : Mbx) (code item : Nat) (dir : Bool) : Mbx :=
  if code = 2 then { x with valid := false, err := true, code := 2 }
  else { x with item := item, dir := dir, valid := false, err := true, code := code }

/-- A selection that completes: VALID, and SEQ advances (R68, R71). -/
def Mbx.done (x : Mbx) (item : Nat) (dir : Bool) (data : BitVec 128) : Mbx :=
  { item := item, dir := dir, valid := true, err := false, code := 0, seq := x.seq + 1#8, data := data }

/-- What a mailbox keeps after an accepted write of an item: nothing of one that only takes writes, as the session key
(R66). -/
def State.mbxShown (s : State) (k : PageKind) (item : Nat) (x : Mbx) : BitVec 128 :=
  if s.itemUse k item = .writeOnly then 0#128 else x.data

/-- A write of PG_MBXSEL. An accepted write of a privileged item enters the audit log (log entry 41). -/
def State.writeSel (s : State) (m : Master) (pg : Nat) (k : PageKind) (inst v : Nat) : Nat × Bool × State :=
  let i := bitsOf v 0 12
  let dir := bitOf v 15
  let x := s.mbx pg m
  let fail := fun code => (0, false, s.setMbx pg m (x.failed code i dir))
  if itemPriv k i && !s.privileged m then denied (s.setMbx pg m (x.failed 2 i dir)) 7
  else match s.itemUse k i, dir with
    | .none, _ => fail 1
    | .readOnly, true => fail 3
    | .writeOnly, false => fail 1
    | _, false =>
      let (n, s) := s.itemRead k inst i
      (0, false, s.setMbx pg m (x.done i dir (BitVec.ofNat 128 n)))
    | _, true =>
      let shown := s.mbxShown k i x
      let (ok, s) := s.itemWrite k inst i x.data.toNat
      if ok then (0, itemPriv k i, s.setMbx pg m (x.done i dir shown))
      else denied (s.setMbx pg m (x.failed 2 i dir))

/-- A write of PG_MBXD0 to PG_MBXD3. -/
def State.writeData (s : State) (m : Master) (pg i v : Nat) : State :=
  let x := s.mbx pg m
  s.setMbx pg m { x with data := BitVec.ofNat 128 (setBits x.data.toNat (32 * i) 32 v) }

/-- A write of a header register; read-only and reserved ones ignore it (R34, R38). -/
def State.writeHead (s : State) (m : Master) (pg : Nat) (k : PageKind) (inst off v : Nat) : Nat × Bool × State :=
  match off with
  | 0x08 => s.writeCtl m pg k inst v
  | 0x14 => wrote (s.clearEvents pg v)
  | 0x18 => wrote (s.setHead pg { s.head pg with evten := BitVec.ofNat 32 (v % 2 ^ 29) })
  | 0x1C => s.writeApply pg k v
  | 0x20 => s.writeSel m pg k inst v
  | 0x28 => wrote (s.writeData m pg 0 v)
  | 0x2C => wrote (s.writeData m pg 1 v)
  | 0x30 => wrote (s.writeData m pg 2 v)
  | 0x34 => wrote (s.writeData m pg 3 v)
  | _ => wrote s

/-! ### One word -/

/-- Whether an entry for this master would find the audit ring full under FULLPOL 1 (R97). -/
def State.auditFull (s : State) (m : Master) : Bool :=
  (match m with | .net _ => true | _ => false) && s.rdb pgPRIV R.PRIV_AUDITCTL_FULLPOL &&
    decide (1024 ≤ s.unspilled .audit)

/-- The value in force that an audit entry records: the register word, or PG_MBXSEL for an item (R95). -/
def State.oldValue (s : State) (m : Master) (k : PageKind) (inst addr : Nat) : Nat :=
  if pageOff addr < 0x40 then s.readHead m (pageNo addr) k (pageOff addr) else s.inForce m k inst addr

/-- An accepted write of a mirror page by the host goes to the standby, but for TWIN_CMD (R584). -/
def State.mirrorWrite (s : State) (m : Master) (k : PageKind) (addr v : Nat) (active : Bool) : State :=
  if isHost m && active && k.mirror && !(k == .twin && pageOff addr == R.TWIN_CMD.off) then
    s.sendDelta (.mirror (BitVec.ofNat 24 addr) (BitVec.ofNat 32 v))
  else s

/-- A write that passes the checks of the master: what it does, its audit entry and its mirror (R44, R94, R97,
R584). -/
def State.performWrite (s : State) (env : WriteEnv) (m : Master) (k : PageKind) (inst addr : Nat) (v : Word) : Nat × State :=
  let off := pageOff addr
  let pg := pageNo addr
  let (code, log, t) :=
    if off < 0x40 then s.writeHead m pg k inst off v.toNat
    else match findReg k.regs off with
      | none => (0, false, s)
      | some (d, i) =>
        let (c, l, t) := s.writeBlock env m k inst addr d i v
        (c, l, if c = 0 ∨ c = 5 then t.windowNext k addr else t)
  let entry := log && (privOffset k off || off == 0x20) && m != .engine
  if code ≠ 0 ∧ code ≠ 5 then (code, t.refuse m addr v.toNat code)
  else if entry && s.auditFull m then
    let s := if off = 0x20 then s.setMbx pg m ((s.mbx pg m).failed 2 0 false) else s
    (8, s.refuse m addr v.toNat 8)
  else
    let t := if entry then t.audit m addr v.toNat (s.oldValue m k inst addr) 0 else t
    (code, t.mirrorWrite m k addr v.toNat s.isActive)

/-- A write of one register word: its STATUS code and the state after it (R34, R35, R42 to R44, R585, R661). -/
def State.accessWrite (s : State) (env : WriteEnv) (m : Master) (addr : Nat) (v : Word) : Nat × State :=
  let off := pageOff addr
  match pageKind (pageNo addr) with
  | none => (2, s)
  | some (k, inst) =>
    if addr % 4 ≠ 0 then (9, s)
    else if !s.pageAnswers k then (2, s)
    else if s.absent k inst off true then (0, s)
    else if m = .twin ∧ k.mirror = false then (7, s.refuse m addr v.toNat 7)
    else if privOffset k off && !s.privileged m then (7, s.refuse m addr v.toNat 7)
    else if isHost m && k.mirror && s.isStandby then (7, s.refuse m addr v.toNat 7)
    else s.performWrite env m k inst addr v

/-- The state after a register write. -/
def State.regWrite (s : State) (m : Master) (addr : Nat) (v : Word) (env : WriteEnv := {}) : State :=
  (s.accessWrite env m addr v).2

/-- A write of a register of a page. -/
def State.regCmd (s : State) (m : Master) (pg : Nat) (f : Fld) (v : Word) (env : WriteEnv := {}) : State :=
  s.regWrite m (fieldAddr pg f) v env

/-- A mailbox write of a value: the data words, then PG_MBXSEL with DIR 1 (R71). -/
def State.mbxWrite (s : State) (m : Master) (pg item value : Nat) : State :=
  let s := (List.range 4).foldl (fun s i =>
    s.regWrite m (headAddr pg (0x28 + 4 * i)) (BitVec.ofNat 32 (bitsOf value (32 * i) 32))) s
  s.regWrite m (headAddr pg 0x20) (selWord item true)

end Sys2Proof.Machine
end

