-- ==== Sys2Proof/Machine/CameraCmds.lean ====
section
/-!
DEFINITION. The meanings of the commands of cameras and the colour loop (12, 13).
-/
namespace Sys2Proof.Machine

/-- CAM_LINE_COMPLETE (R448). A camera line ends at LV; it is stored with its trigger, discarded for its length, or
dropped for space. -/
def execCamLineComplete (t : Tick) (port : Fin 2) (cycles : List CamCycle) (s : State) : Host.Outcome State Fault
    Refusal :=
  s.does t (·.lineComplete port.val cycles)

/-- CAM_FRAME_START (R450). A camera frame starts; its number advances and FRAME-class settings and table swaps apply.
-/
def execCamFrameStart (t : Tick) (port : Fin 2) (s : State) : Host.Outcome State Fault Refusal :=
  s.does t (·.frameStart port.val)

/-- CAM_FRAME_END (R449). FV becomes inactive in FRMODE 0; the frame ends, the port goes IDLE, and the next trigger
becomes the first trigger of a frame. -/
def execCamFrameEnd (t : Tick) (port : Fin 2) (s : State) : Host.Outcome State Fault Refusal :=
  s.does t (·.frameEnd port.val)

/-- CAM_PCLK_LOSS (R451). No PCLK edge for 10 µs ends the frame and clears PCLKOK. -/
def execCamPclkLoss (t : Tick) (port : Fin 2) (s : State) : Host.Outcome State Fault Refusal :=
  s.does t (·.pclkLoss port.val)

/-- CAM_PCLK_RETURN (R451). CAMx_PCLK edges resume after a loss; PCLKOK is set again and the next frame takes the next
number. -/
def execCamPclkReturn (t : Tick) (port : Fin 2) (s : State) : Host.Outcome State Fault Refusal :=
  s.does t (·.pclkReturn port.val)

/-- CAM_TRIGGER (R453). A position or time trigger falls due and is issued or skipped. -/
def execCamTrigger (t : Tick) (port : Fin 2) (s : State) : Host.Outcome State Fault Refusal :=
  s.does t (·.camTrigger port.val)

/-- CAM_SOFTWARE_TRIGGER (R454). CAM_SWTRIG.GO issues one trigger in TMODE 3. -/
def execCamSoftwareTrigger (t : Tick) (m : Master) (port : Fin 2) (v : Word) (s : State) : Host.Outcome State Fault
    Refusal :=
  s.does t (·.regCmd m (pgCAMP port.val) R.CAM_SWTRIG (withBit v R.CAM_SWTRIG_GO))

/-- CAM_TRIGGER_PULSE_END (R455). The trigger pulse width EXP × 10 ns expires. -/
def execCamTriggerPulseEnd (t : Tick) (port : Fin 2) (s : State) : Host.Outcome State Fault Refusal :=
  s.does t (·.pulseOver port.val)

/-- PIPELINE_LINE (R461). The image pipeline takes the next stored line, processes it and taps it. -/
def execPipelineLine (t : Tick) (s : State) : Host.Outcome State Fault Refusal :=
  s.does t (·.pipelineLine)

/-- CAM_TABLE_SWAP (R465). CAM_TBLSWAP.SWAPA or SWAPB requests the inactive tables to become active at the next frame
start. -/
def execCamTableSwap (t : Tick) (m : Master) (v : Word) (s : State) : Host.Outcome State Fault Refusal :=
  s.does t (·.regCmd m pgCAMI R.CAM_TBLSWAP v)

/-- LOOP_CYCLE (R490). A correction cycle of a bar integrates the error into trims once its strip records are
delivered. -/
def execLoopCycle (t : Tick) (bar : Fin 8) (s : State) : Host.Outcome State Fault Refusal :=
  s.does t (·.loopCycle bar.val)

/-- LOOP_RELEARN (R489). LOOP_CMD.RELEARN restarts learning. -/
def execLoopRelearn (t : Tick) (m : Master) (v : Word) (s : State) : Host.Outcome State Fault Refusal :=
  s.does t (·.regCmd m pgLOOP R.LOOP_CMD (withBit v R.LOOP_CMD_RELEARN))

/-- LOOP_RESETINT (R493). LOOP_CMD.RESETINT sets every acc to 0. -/
def execLoopResetint (t : Tick) (m : Master) (v : Word) (s : State) : Host.Outcome State Fault Refusal :=
  s.does t (·.regCmd m pgLOOP R.LOOP_CMD (withBit v R.LOOP_CMD_RESETINT))

/-- LOOP_REBASE (R493). LOOP_CMD.REBASE sets each nozzle's base to its current TRIM. -/
def execLoopRebase (t : Tick) (m : Master) (v : Word) (s : State) : Host.Outcome State Fault Refusal :=
  s.does t (·.regCmd m pgLOOP R.LOOP_CMD (withBit v R.LOOP_CMD_REBASE))

end Sys2Proof.Machine
end

