-- ==== Sys2Proof/Machine/CodecCmds.lean ====
section
/-!
DEFINITION. The meanings of the commands of decompressor and compressor channels (06).
-/
namespace Sys2Proof.Machine

/-- DECODE_LINE (R252). A decompressor channel decodes and delivers a line once pacing and landing allow. -/
def execDecodeLine (t : Tick) (ch : Fin 40) (s : State) : Host.Outcome State Fault Refusal :=
  s.does t (·.decodeLine ch.val)

/-- LINE_DUE (R253). A line becomes due; if it was not delivered it is late data and the stop sequence starts. -/
def execLineDue (t : Tick) (ch : Fin 40) (s : State) : Host.Outcome State Fault Refusal :=
  s.does t (·.lineDue ch.val)

/-- CMP_START (R271). Compressor START checks its arguments and enters RUN, or ERROR. -/
def execCmpStart (t : Tick) (m : Master) (ch : Fin 8) (v : Word) (s : State) : Host.Outcome State Fault Refusal :=
  s.does t (·.regCmd m pgCMP (R.DFL_CMPCTL ch.val) (withBit v (R.DFL_CMPCTL_START ch.val)))

/-- CMP_RESUME (R265). Compressor RESUME continues a STOPPED stream into the new destination. -/
def execCmpResume (t : Tick) (m : Master) (ch : Fin 8) (v : Word) (s : State) : Host.Outcome State Fault Refusal :=
  s.does t (·.regCmd m pgCMP (R.DFL_CMPCTL ch.val) (withBit v (R.DFL_CMPCTL_RESUME ch.val)))

/-- CMP_ABORT (R270). Compressor ABORT discards the unwritten block and enters IDLE. -/
def execCmpAbort (t : Tick) (m : Master) (ch : Fin 8) (v : Word) (s : State) : Host.Outcome State Fault Refusal :=
  s.does t (·.regCmd m pgCMP (R.DFL_CMPCTL ch.val) (withBit v (R.DFL_CMPCTL_ABORT ch.val)))

/-- CMP_SAVE (R272). Compressor SAVE starts writing the window and state record to the save area. -/
def execCmpSave (t : Tick) (m : Master) (ch : Fin 8) (v : Word) (s : State) : Host.Outcome State Fault Refusal :=
  s.does t (·.regCmd m pgCMP (R.DFL_CMPCTL ch.val) (withBit v (R.DFL_CMPCTL_SAVE ch.val)))

/-- CMP_RESTORE (R272). Compressor RESTORE starts checking a save area and rebuilding the history. -/
def execCmpRestore (t : Tick) (m : Master) (ch : Fin 8) (v : Word) (s : State) : Host.Outcome State Fault Refusal :=
  s.does t (·.regCmd m pgCMP (R.DFL_CMPCTL ch.val) (withBit v (R.DFL_CMPCTL_RESTORE ch.val)))

/-- CMP_SAVE_DONE (R272). SAVE completes and the channel returns to its previous state. -/
def execCmpSaveDone (t : Tick) (ch : Fin 8) (s : State) : Host.Outcome State Fault Refusal :=
  s.does t (·.cmpSaveDone ch.val)

/-- CMP_RESTORE_DONE (R272). RESTORE completes into STOPPED or DONE, or fails its CRC. -/
def execCmpRestoreDone (t : Tick) (ch : Fin 8) (s : State) : Host.Outcome State Fault Refusal :=
  s.does t (·.cmpRestoreDone ch.val)

/-- CMP_BLOCK_DONE (R264). A compressor block is formed and written, or does not fit and the channel enters STOPPED.
-/
def execCmpBlockDone (t : Tick) (ch : Fin 8) (s : State) : Host.Outcome State Fault Refusal :=
  s.does t (·.cmpBlock ch.val)

end Sys2Proof.Machine
end

