-- ==== Sys2Proof/Machine/HealthCmds.lean ====
section
/-!
DEFINITION. The meanings of the commands of print-head health (10).
-/
namespace Sys2Proof.Machine

/-- MEAS_ISSUE (R402). The next resistance MEAS command is issued to a tile after INT µs. -/
def execMeasIssue (t : Tick) (bar : Fin 8) (tile : Fin 22) (s : State) : Host.Outcome State Fault Refusal :=
  s.does t (·.measIssue bar.val tile.val)

/-- MEAS_RESULT (R405). A MEAS result is processed into class, drift and status, or retried. -/
def execMeasResult (t : Tick) (lane : Fin 40) (frame : List Byte) (s : State) : Host.Outcome State Fault Refusal :=
  s.does t (·.once (.measResult t lane frame) (·.measFrame lane.val frame))

/-- MEAS_TIMEOUT (R405). No result arrives within TMO ms; the loss is counted and the command retried. -/
def execMeasTimeout (t : Tick) (bar : Fin 8) (tile : Fin 22) (s : State) : Host.Outcome State Fault Refusal :=
  s.does t (·.measTimeout bar.val tile.val)

/-- HLTH_REBASE (R416). HLTH_CMD.REBASE sets the baselines to n_f. -/
def execHlthRebase (t : Tick) (m : Master) (bar : Fin 8) (v : Word) (s : State) : Host.Outcome State Fault Refusal :=
  s.does t (·.regCmd m (pgHLTH bar.val) R.HLTH_CMD (withBit v R.HLTH_CMD_REBASE))

/-- HLTH_CLRSUM (R418). HLTH_CMD.CLRSUM clears the temperature and supply extremes. -/
def execHlthClrsum (t : Tick) (m : Master) (bar : Fin 8) (v : Word) (s : State) : Host.Outcome State Fault Refusal :=
  s.does t (·.regCmd m (pgHLTH bar.val) R.HLTH_CMD (withBit v R.HLTH_CMD_CLRSUM))

/-- WARMUP_CHECK (R423). ℓ_b first reaches W and the tiles' temperatures are checked against TREADY. -/
def execWarmupCheck (t : Tick) (bar : Fin 8) (s : State) : Host.Outcome State Fault Refusal :=
  s.does t (·.warmupCheck bar.val)

end Sys2Proof.Machine
end

