-- ==== Sys2Proof/Machine/PressOps.lean ====
section
/-!
DEFINITION. Press inputs (21): filtering of transitions and the input functions.
-/
namespace Sys2Proof.Machine

/-- An accepted stop-request edge: HALTED with cause 2 from PRINTING, one entry together with a host HALT of the same
tick (R680, R686). -/
def State.stopRequest (s : State) (i : Nat) : State :=
  let s := ({ s with pio := { s.pio with stopAt := some s.now } } : State).haltJob 2
  let s := if s.dev.state = .halted ∧ s.jobs.haltAt = some s.now then { s with dev := { s.dev with cause := 2 } } else s
  s.raise pgPIO 2 i

/-- The functions that an accepted edge of an input feeds (R680, R681): `active` is its new level after inversion,
`tick` the captured tick. -/
def State.inputFunctions (s : State) (i tick : Nat) (active : Bool) : State :=
  let maps := fun (en src : Fld) => s.rdb pgPIO en && decide (s.rd pgPIO src = i)
  let stop := maps R.PIO_IMAP_STOPEN R.PIO_IMAP_STOPIN
  let trig := maps R.PIO_IMAP_TRIGEN R.PIO_IMAP_TRIG
  let web := maps R.PIO_IMAP_WEBEN R.PIO_IMAP_WEBRDY
  let s := if stop && active then s.stopRequest i else s
  let s := if trig && active then s.triggerEdge tick else s
  if !web then s
  else if active then (s.raise pgPIO 4).tryStart
  else s.raise pgPIO 3

/-- A transition becomes an accepted edge with its captured tick (R678, R680). -/
def State.acceptPio (s : State) (i tick : Nat) (level : Bool) : State :=
  let x := s.pin i
  let s := s.setPin i { x with level := level, hold := none, tick := tick, count := x.count + 1#32 }
  let active := s.inLevel i
  let s := if s.rdb pgPIO (R.PIO_ICFG_EVEDGE i) then s.raise pgPIO 0 (2 * i + b2n active) else s
  s.inputFunctions i tick active

/-- The hold of a transition ends (R678). -/
def State.pioHoldEnd (s : State) (i : Nat) : State :=
  match (s.pin i).hold with
  | some h => if h.endTick ≤ s.now then s.acceptPio i h.tick h.level else s
  | none => s

/-- A transition of a press input is captured: held for its filter time, accepted at once without a filter, or a
return that discards the transition held (R678). -/
def State.pioTransition (s : State) (i : Nat) (level : Bool) : State :=
  let s := s.pioHoldEnd i
  let x := s.pin i
  if level = x.raw then s
  else
    let s := s.setPin i { x with raw := level, hold := none }
    match x.hold with
    | some _ => (s.inc pgPIO R.PIO_GLITCH).raise pgPIO 1 i
    | none =>
      let filt := s.rd pgPIO (R.PIO_ICFG_FILT i) * 1600
      if filt = 0 then s.acceptPio i s.now level
      else s.setPin i { s.pin i with hold := some { tick := s.now, endTick := s.now + filt, level := level } }

/-- A press input changes at its pin. Before LINKUP no edge is accepted and the accepted level follows the pin. -/
def State.pioSeen (s : State) (i : Nat) (level : Bool) : State :=
  if s.pagesUp then s.pioTransition i level
  else s.setPin i { s.pin i with raw := level, level := level, hold := none }

end Sys2Proof.Machine
end

