-- ==== Sys2Proof/Machine/JobCmds.lean ====
section
/-!
DEFINITION. The meanings of the commands of command records, jobs and basins (05).
-/
namespace Sys2Proof.Machine

/-- COMMAND_RECORD_WAIT (R715). Command records waiting in their basins are taken once the device enters READY,
PRINTING or HALTED. -/
def execCommandRecordWait (t : Tick) (s : State) : Host.Outcome State Fault Refusal :=
  s.does t fun s => s.takeAll s.jobs.order.length

/-- JOB_RECORD (R232). A JOB record is accepted as running or queued, waits for a free place, or is refused with a
reason. -/
def execJobRecord (t : Tick) (s : State) : Host.Outcome State Fault Refusal :=
  s.does t (·.takeIf (· == 1))

/-- HALT_RECORD (R236). A HALT record halts the running job it names. -/
def execHaltRecord (t : Tick) (s : State) : Host.Outcome State Fault Refusal :=
  s.does t (·.takeIf (· == 2))

/-- RESUME_RECORD (R236). A RESUME record resumes the halted job it names. -/
def execResumeRecord (t : Tick) (s : State) : Host.Outcome State Fault Refusal :=
  s.does t (·.takeIf (· == 3))

/-- ABORT_RECORD (R236). An ABORT record aborts the running job or removes the queued job. -/
def execAbortRecord (t : Tick) (s : State) : Host.Outcome State Fault Refusal :=
  s.does t (·.takeIf (· == 4))

/-- END_RECORD (R236). An END record sets the end of an unbounded live job or of a product-trigger job. -/
def execEndRecord (t : Tick) (s : State) : Host.Outcome State Fault Refusal :=
  s.does t (·.takeIf fun p => p == 0 || 5 ≤ p)

/-- HOST_HALT (R236). BASN_CMD.HALT halts the running job and the device enters HALTED. -/
def execHostHalt (t : Tick) (m : Master) (v : Word) (s : State) : Host.Outcome State Fault Refusal :=
  s.does t (·.regCmd m pgBASN R.BASN_CMD (withBit v R.BASN_CMD_HALT))

/-- HOST_RESUME (R236). BASN_CMD.RESUME returns a halted job to PRINTING. -/
def execHostResume (t : Tick) (m : Master) (v : Word) (s : State) : Host.Outcome State Fault Refusal :=
  s.does t (·.regCmd m pgBASN R.BASN_CMD (withBit v R.BASN_CMD_RESUME))

/-- HOST_ABORT (R236). BASN_CMD.ABORT aborts the running job. -/
def execHostAbort (t : Tick) (m : Master) (v : Word) (s : State) : Host.Outcome State Fault Refusal :=
  s.does t (·.regCmd m pgBASN R.BASN_CMD (withBit v R.BASN_CMD_ABORT))

/-- JOB_START (R235). A job takes the running place at a JOB boundary, unless web-ready holds it. -/
def execJobStart (t : Tick) (s : State) : Host.Outcome State Fault Refusal :=
  s.does t (·.tryStart)

/-- JOB_END (R235). The running job ends when its last line is fired or skipped, or at ABORT. -/
def execJobEnd (t : Tick) (s : State) : Host.Outcome State Fault Refusal :=
  s.does t (·.jobOver)

/-- BASIN_ENABLE (R215). A BASN_RCFG write sets EN and enables the basin with P and C at 0, or is refused. -/
def execBasinEnable (t : Tick) (m : Master) (b : Fin 32) (v : Word) (s : State) : Host.Outcome State Fault Refusal :=
  s.does t (·.regCmd m pgBASNW (R.BASN_RCFG b.val) (withBit v (R.BASN_RCFG_EN b.val)))

/-- BASIN_DISABLE (R215). A BASN_RCFG write clears EN, unless a job names the basin. -/
def execBasinDisable (t : Tick) (m : Master) (b : Fin 32) (v : Word) (s : State) : Host.Outcome State Fault Refusal :=
  s.does t (·.regCmd m pgBASNW (R.BASN_RCFG b.val) (withoutBit v (R.BASN_RCFG_EN b.val)))

/-- BASIN_CONSUME (R217). A DIR 1 write of BASN item 4b + 1 advances C of a device-produced basin, or is refused. -/
def execBasinConsume (t : Tick) (m : Master) (b : Fin 32) (value : BitVec 128) (s : State) : Host.Outcome State Fault
    Refusal :=
  s.does t (·.mbxWrite m pgBASN (4 * b.val + 1) value.toNat)

/-- BAND_LAND (R249). A band lands in its basin and is checked; a band that fails is marked bad or replaces a bad one.
-/
def execBandLand (t : Tick) (queued : Bool) (s : State) : Host.Outcome State Fault Refusal :=
  s.does t (·.bandLand queued)

end Sys2Proof.Machine
end

