-- ==== Sys2Proof/Machine/MemoryCmds.lean ====
section
/-!
DEFINITION. The meanings of the commands of the Weir, DRAM, SRAM and check-value units (14, 15, 16).
-/
namespace Sys2Proof.Machine

/-- WEIR_PERIOD_START (R509). A budget period starts: budgets are checked and applied, banks and levels refilled,
spare computed. -/
def execWeirPeriodStart (t : Tick) (speed : BitVec 16) (s : State) : Host.Outcome State Fault Refusal :=
  s.does t (·.weirStart speed.toNat)

/-- WEIR_ADMIT (R510). A waiting word is admitted on a level, bank and spare token, or keeps waiting. -/
def execWeirAdmit (t : Tick) (act : Fin 24) (txn : Option DramReq) (s : State) : Host.Outcome State Fault Refusal :=
  s.does t (·.admitWord act.val txn)

/-- WEIR_FLOOR_OVERRIDE (R516). A privileged write of WEIR_FLOOROVR replaces F1 from the next period start. -/
def execWeirFloorOverride (t : Tick) (m : Master) (v : Word) (s : State) : Host.Outcome State Fault Refusal :=
  s.does t (·.regCmd m pgWEIR R.WEIR_FLOOROVR v)

/-- DRAM_COMMAND_SLOT (R537). A subchannel issues the highest-ranked ready work at a command slot. -/
def execDramCommandSlot (t : Tick) (sc : Fin 8) (wr : List Nat) (rd : List Nat) (s : State) : Host.Outcome State Fault
    Refusal :=
  s.does t (·.commandSlot sc.val wr rd)

/-- DRAM_READ_DATA (R551). Read data is checked by ECC, corrected and recorded, or the controller freezes. -/
def execDramReadData (t : Tick) (sc : Fin 8) (ecc : ReadEcc) (s : State) : Host.Outcome State Fault Refusal :=
  s.does t (·.readData sc.val ecc)

/-- CA_PARITY_ERROR (R554). A command/address parity error from the PHY or a die freezes the controller. -/
def execCaParityError (t : Tick) (sc : Fin 8) (code : Word) (s : State) : Host.Outcome State Fault Refusal :=
  s.does t (·.parityError sc.val code.toNat)

/-- REFRESH_INTERVAL_END (R540). A refresh interval ends and the subchannel's debt rises, forcing a refresh at
DEBTMAX. -/
def execRefreshIntervalEnd (t : Tick) (sc : Fin 8) (s : State) : Host.Outcome State Fault Refusal :=
  s.does t (·.refreshEnd sc.val)

/-- RETRAIN_STEP_DONE (R547). A retraining step ends; it passes and moves the setting, or fails and may degrade the
subchannel. -/
def execRetrainStepDone (t : Tick) (sc : Fin 8) (ok : Bool) (rd : BitVec 8) (wr : BitVec 8) (vref : BitVec 8) (centre
    : BitVec 8) (s : State) : Host.Outcome State Fault Refusal :=
  s.does t (·.retrainDone sc.val ok rd.toNat wr.toNat vref.toNat centre.toNat)

/-- SCRUB_READ (R552). A scrub interval elapses and one 256-byte block is read, and written back if corrected. -/
def execScrubRead (t : Tick) (sc : Fin 8) (s : State) : Host.Outcome State Fault Refusal :=
  s.does t (·.scrubRead sc.val)

/-- PAGE_IDLE_PRECHARGE (R533). A bank idle for IDLE ns is precharged. -/
def execPageIdlePrecharge (t : Tick) (sc : Fin 8) (bank : Fin 16) (s : State) : Host.Outcome State Fault Refusal :=
  s.does t (·.idlePrecharge sc.val bank.val)

/-- FREEZE_RELEASE (R557). DRAM_FRZCTL.RELEASE retrains every subchannel and discards queues and job basins. -/
def execFreezeRelease (t : Tick) (m : Master) (v : Word) (s : State) : Host.Outcome State Fault Refusal :=
  s.does t (·.regCmd m pgDRAM R.DRAM_FRZCTL (withBit v R.DRAM_FRZCTL_RELEASE))

/-- FREEZE_RELEASE_DONE (R557). Release training completes; the device enters READY, or stays FROZEN on failure. -/
def execFreezeReleaseDone (t : Tick) (fail : Option (Fin 8)) (margins : List (BitVec 32)) (s : State) : Host.Outcome
    State Fault Refusal :=
  s.does t (·.releaseDone (fail.map Fin.val) margins)

/-- SRAM_SCRUB (R21). SRAM scrubbing finds an error; an uncorrectable one masks the nozzle entry or is fatal. -/
def execSramScrub (t : Tick) (site : SramSite) (uncorrectable : Bool) (s : State) : Host.Outcome State Fault Refusal
    :=
  s.does t (·.sramScrub site uncorrectable)

/-- CHK_TAP_BYTE (R559). A tap byte updates a running CRC value, completes a unit and compares it with the expected
value. -/
def execChkTapByte (t : Tick) (src : BitVec 8) (inst : BitVec 8) (byte : Byte) (first : Bool) (last : Bool) (expected
    : Option (BitVec 32)) (s : State) : Host.Outcome State Fault Refusal :=
  s.does t (·.tap src.toNat inst.toNat [byte] first last (expected.map BitVec.toNat))

/-- CHK_PRESET (R562). CHK_CFGn.PRESET loads a CRC model. -/
def execChkPreset (t : Tick) (m : Master) (n : Fin 20) (v : Word) (s : State) : Host.Outcome State Fault Refusal :=
  s.does t (·.regCmd m pgCHK (R.CHK_CFG n.val) v)

/-- CHK_ENABLE (R571). A change of CHK_CFGn.EN to 1 starts the channel, keeping or loading its running values. -/
def execChkEnable (t : Tick) (m : Master) (n : Fin 20) (v : Word) (s : State) : Host.Outcome State Fault Refusal :=
  s.does t (·.regCmd m pgCHK (R.CHK_CFG n.val) (withBit v (R.CHK_CFG_EN n.val)))

/-- CHK_VALUE_WRITE (R573). A DIR 1 write of a running value replaces it. -/
def execChkValueWrite (t : Tick) (m : Master) (item : BitVec 12) (value : BitVec 128) (s : State) : Host.Outcome State
    Fault Refusal :=
  s.does t (·.mbxWrite m pgCHK item.toNat value.toNat)

end Sys2Proof.Machine
end

