-- ==== Sys2Proof/Machine/PosCmds.lean ====
section
/-!
DEFINITION. The meanings of the commands of position unit (04).
-/
namespace Sys2Proof.Machine

/-- POS_EDGE_CAPTURE (R144). An edge on an encoder or Hall input is captured and held pending, or cancels a pending
opposite edge. -/
def execPosEdgeCapture (t : Tick) (input : Fin 9) (level : Bool) (s : State) : Host.Outcome State Fault Refusal :=
  s.does t (·.edgeSeen input.val level)

/-- EDGE_HOLD_EXPIRY (R145). A pending edge completes its MINSP hold and is accepted at its captured tick, with every other
edge whose hold ends, in the order of R147. -/
def execEdgeHoldExpiry (t : Tick) (_input : Fin 9) (s : State) : Host.Outcome State Fault Refusal :=
  s.does t (·.edgeAccept)

/-- STANDSTILL_TIMEOUT (R164). STANDTMO passes since the last counting edge and the speed decays. -/
def execStandstillTimeout (t : Tick) (s : State) : Host.Outcome State Fault Refusal :=
  s.does t (·.edgesFirst.standTimeout)

/-- STANDSTILL_DECLARE (R165). The speed bound falls below STANDV and standstill is declared. -/
def execStandstillDeclare (t : Tick) (s : State) : Host.Outcome State Fault Refusal :=
  s.does t (·.standNow)

/-- STRETCH_WINDOW (R182). A stretch window of WIN mm completes and its sample updates the stretch target. -/
def execStretchWindow (t : Tick) (s : State) : Host.Outcome State Fault Refusal :=
  s.does t (·.edgesFirst.stretchWindow)

/-- SSN_REQUEST (R173). A serial sensor request is issued at the start of each PERIOD window. -/
def execSsnRequest (t : Tick) (sensor : Fin 2) (s : State) : Host.Outcome State Fault Refusal :=
  s.does t (·.ssnRequest sensor.val)

/-- SSN_WORD_RECEIVE (R176). A serial sensor word completes and is judged as used, recorded with an error, or
discarded. -/
def execSsnWordReceive (t : Tick) (sensor : Fin 2) (w : SsnWord) (s : State) : Host.Outcome State Fault Refusal :=
  s.does t (·.edgesFirst.ssnWord sensor.val w)

/-- SSN_WORD_TIMEOUT (R176). TMO passes without a start bit or data high again; the word is discarded. -/
def execSsnWordTimeout (t : Tick) (sensor : Fin 2) (s : State) : Host.Outcome State Fault Refusal :=
  s.does t (·.edgesFirst.ssnTimeout sensor.val)

/-- CLEAR_ENCODER_FAULT (R152). POS_CTL.CLRFLTn clears the encoder fault and restarts its counts. -/
def execClearEncoderFault (t : Tick) (m : Master) (enc : Fin 2) (s : State) : Host.Outcome State Fault Refusal :=
  s.does t fun s => s.regCmd m pgPOS R.POS_CTL
    (withBit (s.word (fieldAddr pgPOS R.POS_CTL)) (if enc = 0 then R.POS_CTL_CLRFLT0 else R.POS_CTL_CLRFLT1))

/-- CLEAR_HALL_FAULT (R169). POS_CTL.CLRHALL clears the Hall fault. -/
def execClearHallFault (t : Tick) (m : Master) (s : State) : Host.Outcome State Fault Refusal :=
  s.does t fun s => s.regCmd m pgPOS R.POS_CTL (withBit (s.word (fieldAddr pgPOS R.POS_CTL)) R.POS_CTL_CLRHALL)

/-- CLEAR_SSN_FAULT (R177). POS_CTL.CLRSSNn clears the serial sensor fault. -/
def execClearSsnFault (t : Tick) (m : Master) (sensor : Fin 2) (s : State) : Host.Outcome State Fault Refusal :=
  s.does t fun s => s.regCmd m pgPOS R.POS_CTL
    (withBit (s.word (fieldAddr pgPOS R.POS_CTL)) (if sensor = 0 then R.POS_CTL_CLRSSN0 else R.POS_CTL_CLRSSN1))

/-- POS_ENABLE_WRITE (R711). A write of the POS PG_CTL.EN starts or stops counting, or is refused during a job. -/
def execPosEnableWrite (t : Tick) (m : Master) (en : Bool) (s : State) : Host.Outcome State Fault Refusal :=
  s.does t (·.regWrite m (headAddr pgPOS 0x08) (ctlEnable en))

/-- POS_X0_WRITE (R180). A DIR 1 write of POS item 0 moves the X0 offset, or is refused during a job. -/
def execPosX0Write (t : Tick) (m : Master) (x0 : BitVec 64) (s : State) : Host.Outcome State Fault Refusal :=
  s.does t (·.mbxWrite m pgPOS 0 x0.toNat)

end Sys2Proof.Machine
end

