-- ==== Sys2Proof/Machine/PowerCmds.lean ====
section
/-!
DEFINITION. The meanings of the commands of supply, reset and start-up commands (01, 20).
-/
namespace Sys2Proof.Machine

/-- PWRGOOD_RISE (R25). PWRGOOD goes high and the device moves from OFF to RESET. -/
def execPwrgoodRise (t : Tick) (s : State) : Host.Outcome State Fault Refusal :=
  s.does t (·.powerUp)

/-- PWRGOOD_FALL (R25). PWRGOOD goes low and the device enters OFF from any state. -/
def execPwrgoodFall (t : Tick) (s : State) : Host.Outcome State Fault Refusal :=
  s.does t (·.powerOff)

/-- RESET_N_FALL (R25). RESET_N goes low and the device enters RESET from any state except OFF. -/
def execResetNFall (t : Tick) (s : State) : Host.Outcome State Fault Refusal :=
  s.does t (·.resetLow)

/-- RESET_N_RISE (R25). RESET_N rises with PWRGOOD high and the device enters LOAD. -/
def execResetNRise (t : Tick) (s : State) : Host.Outcome State Fault Refusal :=
  s.does t (·.resetHigh)

/-- LOAD_STEP_COMPLETE (R660). A LOAD step completes: straps, TREF selection, PLL lock, OTP read, sensors or camera
bank check; after the last step the device enters BUILD. -/
def execLoadStepComplete (t : Tick) (r : LoadResult) (s : State) : Host.Outcome State Fault Refusal :=
  s.does t (·.loadStep r)

/-- BUILD_STEP_COMPLETE (R662). A BUILD step completes: calibration and PLLs, SRAM test, DRAM training, fabric self-
check or initialisation; after step 11 the device enters LINKUP. -/
def execBuildStepComplete (t : Tick) (r : BuildResult) (s : State) : Host.Outcome State Fault Refusal :=
  s.does t (·.buildStep r)

/-- ENTER_READY (R666). When the host lanes are up, the twin lanes are up where configured and the role is decided,
the device enters READY. -/
def execEnterReady (t : Tick) (s : State) : Host.Outcome State Fault Refusal :=
  s.does t (·.enterReady)

/-- VIO33_RISE (R636). VIO33 rises and every press-output keeper takes the low level. -/
def execVio33Rise (t : Tick) (s : State) : Host.Outcome State Fault Refusal :=
  s.does t (·.vio33Up)

end Sys2Proof.Machine
end

