-- ==== Sys2Proof/Machine/PressCmds.lean ====
section
/-!
DEFINITION. The meanings of the commands of thermal management, VCORE and press inputs (18, 20, 21).
-/
namespace Sys2Proof.Machine

/-- THERMAL_SAMPLE (R621). A sensor sample is converted and checked against limits and rate, raising the level and its
actions. -/
def execThermalSample (t : Tick) (sensor : Fin 40) (count : Option (BitVec 16)) (peerInStep : Bool) (s : State) :
    Host.Outcome State Fault Refusal :=
  s.does t (·.thermalSample sensor.val (count.map BitVec.toNat) peerInStep)

/-- THERMAL_LIMIT_WRITE (R623). A write of THRM_DIELIM or THRM_DRAMLIM is checked for order and maximum. -/
def execThermalLimitWrite (t : Tick) (m : Master) (dram : Bool) (v : Word) (s : State) : Host.Outcome State Fault
    Refusal :=
  s.does t (·.regCmd m pgTHRM (if dram then R.THRM_DRAMLIM else R.THRM_DIELIM) v)

/-- AVS_INTERVAL (R671). At each INT interval the VCORE loop raises, lowers or keeps the target and reads back VOUT
and IOUT. -/
def execAvsInterval (t : Tick) (mvOut : BitVec 10) (iOut : BitVec 16) (failures : Fin 5) (pecFails : Fin 5) (s :
    State) : Host.Outcome State Fault Refusal :=
  s.does t (·.avsInterval mvOut.toNat iOut.toNat failures.val pecFails.val)

/-- PMB_ALERT (R674). PMB_ALERT_N falls; STATUS_WORD is read and CLEAR_FAULTS sent. -/
def execPmbAlert (t : Tick) (statusWord : BitVec 16) (failures : Fin 5) (pecFails : Fin 5) (s : State) : Host.Outcome
    State Fault Refusal :=
  s.does t (·.pmbAlert statusWord.toNat failures.val pecFails.val)

/-- AVS_OVERRIDE_WRITE (R675). A write of SYS_AVSOVR fixes VCORE and stops the loop, or releases the fixed value. -/
def execAvsOverrideWrite (t : Tick) (m : Master) (v : Word) (failures : Fin 5) (pecFails : Fin 5) (s : State) :
    Host.Outcome State Fault Refusal :=
  s.does t (·.regCmd m pgSYS R.SYS_AVSOVR v { failures := failures.val, pec := pecFails.val })

/-- AVS_ENABLE (R673). Writing SYS_AVSCFG.EN from 0 to 1 restarts the loop. -/
def execAvsEnable (t : Tick) (m : Master) (v : Word) (s : State) : Host.Outcome State Fault Refusal :=
  s.does t (·.regCmd m pgSYS R.SYS_AVSCFG (withBit v R.SYS_AVSCFG_EN))

/-- PIO_INPUT_TRANSITION (R678). A press input transition is captured and held, or cancels a held transition as a
glitch. -/
def execPioInputTransition (t : Tick) (input : Fin 16) (level : Bool) (s : State) : Host.Outcome State Fault Refusal
    :=
  s.does t (·.edgesFirst.pioSeen input.val level)

/-- PIO_EDGE_ACCEPT (R678). The FILT hold ends and the edge is accepted and passed to the input functions. -/
def execPioEdgeAccept (t : Tick) (input : Fin 16) (s : State) : Host.Outcome State Fault Refusal :=
  s.does t (·.edgesFirst.pioHoldEnd input.val)

end Sys2Proof.Machine
end

