-- ==== Sys2Proof/Machine/PrintCmds.lean ====
section
/-!
DEFINITION. The meanings of the commands of raster path, fire scheduling, stop and back-up (07, 08, 11).
-/
namespace Sys2Proof.Machine

/-- MAP_BAR_LINE (R294). The raster path maps one bar line into planes and side entries, reading the nozzle table as
it stands. -/
def execMapBarLine (t : Tick) (bar : Fin 8) (s : State) : Host.Outcome State Fault Refusal :=
  s.does t (·.mapBarLine bar.val)

/-- NOZZLE_TABLE_WRITE (R302). A RAST_NTDATA write replaces bits [15:0] of the addressed entry and mirrors it to the
twin. -/
def execNozzleTableWrite (t : Tick) (m : Master) (bar : Fin 8) (v : Word) (s : State) : Host.Outcome State Fault
    Refusal :=
  s.does t (·.regCmd m (pgRAST bar.val) R.RAST_NTDATA v)

/-- THRESHOLD_TABLE_WRITE (R280). A RAST_THRDATA write sets four threshold entries, or is refused during a job. -/
def execThresholdTableWrite (t : Tick) (m : Master) (v : Word) (s : State) : Host.Outcome State Fault Refusal :=
  s.does t (·.regCmd m pgRASTC R.RAST_THRDATA v)

/-- FIRE_FRAME_SEND (R309). The FIRE frames of a slot are sent once the bar's lead allows it and the slot's nozzle
lines are complete. -/
def execFireFrameSend (t : Tick) (bar : Fin 8) (s : State) : Host.Outcome State Fault Refusal :=
  s.does t (·.fireFrameSend bar.val)

/-- PACE_FRAME_LAUNCH (R313). A PACE frame with map, ADV, FIRELIM and NOMAP is built and launched on every lane on the
grid. -/
def execPaceFrameLaunch (t : Tick) (s : State) : Host.Outcome State Fault Refusal :=
  s.does t (·.paceLaunch)

/-- TEMP_STALE (R336). No temperature report arrives for STALE ms; TEMPSTALE is set and SPEED_LIMIT asserted. -/
def execTempStale (t : Tick) (bar : Fin 8) (tile : Fin 22) (s : State) : Host.Outcome State Fault Refusal :=
  s.does t (·.tempStale bar.val tile.val)

/-- INSPECTION_MARK_START (R344). X0 reaches a pending defect's inspection point and the mark output is asserted. -/
def execInspectionMarkStart (t : Tick) (s : State) : Host.Outcome State Fault Refusal :=
  s.does t (·.markStart)

/-- INSPECTION_MARK_END (R344). The inspection mark width expires and the output is deasserted. -/
def execInspectionMarkEnd (t : Tick) (s : State) : Host.Outcome State Fault Refusal :=
  s.does t (·.markOver)

/-- SB_BACKED (R433). Every waiting bar passes the back-up distance; REV_PERMIT is released and the sequence enters
WAITING. -/
def execSbBacked (t : Tick) (s : State) : Host.Outcome State Fault Refusal :=
  s.does t (·.sbBacked)

/-- SB_RETURNING (R435). With standstill, data, no hard stop and PRINTING, STOP_REQ is released and the sequence
enters RETURNING. -/
def execSbReturning (t : Tick) (s : State) : Host.Outcome State Fault Refusal :=
  s.does t (·.sbReturning)

/-- SB_RETRY (R438). A bar passes σ_b − ARMGAP without re-arming; the sequence returns to STOPPING or enters FAILED.
-/
def execSbRetry (t : Tick) (bar : Fin 8) (s : State) : Host.Outcome State Fault Refusal :=
  s.does t (·.sbRetry bar.val)

/-- SB_REARM_CMD (R439). FIRE_SBCMD.REARM leaves FAILED and re-enters STOPPING. -/
def execSbRearmCmd (t : Tick) (m : Master) (v : Word) (s : State) : Host.Outcome State Fault Refusal :=
  s.does t (·.regCmd m pgFIREC R.FIRE_SBCMD (withBit v R.FIRE_SBCMD_REARM))

end Sys2Proof.Machine
end

