-- ==== Sys2Proof/Machine/SvcOps.lean ====
section
/-!
DEFINITION. Requests of several words: the service port (R48 to R57, R709) and YRT REGREQ (R59, R713).
-/
namespace Sys2Proof.Machine

/-- The check of a request as a whole, in the order of R709; 0 if it passes. -/
def requestCheck (op addr len : Nat) : Nat :=
  if op ≠ 0x02 ∧ op ≠ 0x03 then 0x06
  else if addr % 4 ≠ 0 ∨ 63 < len then 0x09
  else if 4096 < addr % 4096 + 4 * (len + 1) then 0x04
  else 0

/-- The STATUS of a request after a word: the code of the first word that failed; 0x05, which accepts a word, only while none
has (R55). -/
def firstFail (st code : Nat) : Nat := if st = 0 ∨ (st = 5 ∧ code ≠ 0) then code else st

/-- Reads `n` consecutive words; a word that fails reads 0 (R55, R709). Answers STATUS, the words and the state. -/
def State.readWords (s : State) (m : Master) (addr st : Nat) : Nat → Nat × List Nat × State
  | 0 => (st, [], s)
  | n + 1 =>
    let (c, v, s) := s.accessRead m addr
    let (st, vs, s) := s.readWords m (addr + 4) (firstFail st c) n
    (st, (if c = 0 then v else 0) :: vs, s)

/-- Writes consecutive words; a word that fails is skipped (R55). -/
def State.writeWords (s : State) (m : Master) (addr st : Nat) : List Nat → Nat × State
  | [] => (st, s)
  | v :: vs =>
    let (c, s) := s.accessWrite {} m addr (BitVec.ofNat 32 v)
    s.writeWords m (addr + 4) (firstFail st c) vs

/-- Performs a request that has passed the CRC check: STATUS, the words read, the state (R51, R55, R709). -/
def State.request (s : State) (m : Master) (op addr len : Nat) (words : List Nat) : Nat × List Nat × State :=
  let c := requestCheck op addr len
  if c ≠ 0 then (c, [], s)
  else if op = 0x03 then s.readWords m addr 0 (len + 1)
  else
    let (st, s) := s.writeWords m addr 0 words
    (st, [], s)

/-! ### The service port -/

/-- The length of a request in bytes, with its CRC, as OP and LEN give it (R49, R709). -/
def svcLength (req : List Byte) : Nat := 7 + (if byteAt req 0 = 0x02 then 4 * (byteAt req 4 + 1) else 0)

/-- Whether the service port answers: the device is neither in OFF nor in RESET. -/
def State.svcAlive (s : State) : Bool := s.dev.state != .off && s.dev.state != .reset

/-- The response: sync, STATUS, the words and a CRC-16 (R52). -/
def svcResponse (st : Nat) (words : List Nat) : List Byte :=
  let body := beBytes st 1 ++ words.flatMap fun w => beBytes w 4
  beBytes 0xA5 1 ++ body ++ beBytes (crc16 body) 2

/-- SVC_CS_N rises before the last CRC bit: nothing is performed, and ABORT is counted (R57). -/
def State.svcCut (s : State) : State := s.inc pgSYS R.SYS_SVCERR_ABORT

/-- The words of a write request. -/
def svcWords (req : List Byte) (n : Nat) : List Nat := (List.range n).map fun i => beAt req (5 + 4 * i) 4

/-- A request on the service port, whole or cut short (R49 to R57, R709). -/
def State.svcRequest (s : State) (req : List Byte) : State :=
  if !s.svcAlive then s
  else if req.length < svcLength req then s.svcCut
  else
    let n := svcLength req
    let op := byteAt req 0
    if beAt req (n - 2) 2 ≠ crc16 (req.take (n - 2)) then
      { s.inc pgSYS R.SYS_SVCERR_CRCERR with svc := svcResponse 0x01 [] }
    else
      let (st, words, s) := s.request .svc op (beAt req 1 3) (byteAt req 4) (svcWords req (byteAt req 4 + 1))
      { s with svc := svcResponse st words }

/-- A request of one OP on the service port; a request that spells another OP is another command. -/
def State.svcOp (s : State) (p : Nat → Bool) (req : List Byte) : State :=
  if p (byteAt req 0) then s.svcRequest req else s

/-- SVC_CS_N rises after `nbits` bits of a request (R57). -/
def State.svcAbort (s : State) (req : List Byte) (nbits : Nat) : State :=
  let whole := decide (8 * svcLength req ≤ nbits) && decide (5 ≤ nbits / 8)
  if !s.svcAlive || whole then s else s.svcCut

/-! ### REGREQ (R59, R713) -/

/-- Whether a REGREQ payload fits its fields (R713). -/
def regreqFits (p : List Byte) : Bool :=
  let op := byteAt p 0
  let len := byteAt p 4
  if p.length < 8 then false
  else if op = 0x03 then p.length == 8
  else if op = 0x02 then p.length == 8 + 4 * (len + 1)
  else true

/-- Sends the REGRESP of a REGREQ in its session, if the access has left the session open. -/
def State.regresp (s : State) (k seq st : Nat) (words : List Nat) : State :=
  if (s.session k).open_ then
    s.sendSeq k { type := 0x21, flags := 0, basin := 0, status := st, offset := 0,
                  payload := words.flatMap fun w => leBytes w 4, req := some seq }
  else s

/-- An in-sequence REGREQ performs its access and is answered (R59, R205, R713). -/
def State.yrtRegreq (s : State) (k : Nat) (y : Yrt) : State :=
  let s := s.advance k
  let p := y.payload
  if !regreqFits p then s.regresp k y.seq 0x09 []
  else
    let n := byteAt p 4
    let (st, words, s) := s.request (.net (Fin.ofNat 8 k)) (byteAt p 0) (leAt p 1 3) n
      ((List.range (n + 1)).map fun i => leAt p (8 + 4 * i) 4)
    s.regresp k y.seq st words

end Sys2Proof.Machine
end

