-- ==== Sys2Proof/Machine/RegisterCmds.lean ====
section
/-!
DEFINITION. The meanings of the commands of register, mailbox and service-port commands (02).
-/
namespace Sys2Proof.Machine

/-- REGISTER_WRITE (R33). A whole-word write to a register that has no row of its own, resolved under the access-type
and privilege rules. -/
def execRegisterWrite (t : Tick) (m : Master) (addr : BitVec 24) (v : Word) (s : State) : Host.Outcome State Fault
    Refusal :=
  s.does t (·.regWrite m addr.toNat v)

/-- AUDIT_SPILL_COPY (R710). An unspilled ring entry is copied to its spill basin once space exists there. -/
def execAuditSpillCopy (t : Tick) (ring : SpillRing) (s : State) : Host.Outcome State Fault Refusal :=
  s.does t (·.spillOne ring)

/-- BLOCK_RESET (R704). PG_CTL.RST returns the page and its block to their reset state, with the stated exceptions. -/
def execBlockReset (t : Tick) (m : Master) (page : BitVec 12) (s : State) : Host.Outcome State Fault Refusal :=
  s.does t (·.regWrite m (headAddr page.toNat 0x08) ctlReset)

/-- EVENT_CLEAR (R74). A PG_EVTCLR write clears the masked flags whose remembered sequence is not newer than SEQ. -/
def execEventClear (t : Tick) (m : Master) (page : BitVec 12) (v : Word) (s : State) : Host.Outcome State Fault
    Refusal :=
  s.does t (·.regWrite m (headAddr page.toNat 0x14) v)

/-- APPLY_COMMIT (R81). PG_APPLY.COMMIT moves staging to the committed set, or merges it into a set already waiting.
-/
def execApplyCommit (t : Tick) (m : Master) (page : BitVec 12) (v : Word) (s : State) : Host.Outcome State Fault
    Refusal :=
  s.does t (·.regWrite m (headAddr page.toNat 0x1C) (applyCommit v))

/-- APPLY_DISCARD (R707). PG_APPLY.DISCARD returns staging to the values in force. -/
def execApplyDiscard (t : Tick) (m : Master) (page : BitVec 12) (v : Word) (s : State) : Host.Outcome State Fault
    Refusal :=
  s.does t (·.regWrite m (headAddr page.toNat 0x1C) (applyDiscard v))

/-- MAILBOX_SNAPSHOT (R68). A PG_MBXSEL write with DIR 0 captures the item and sets VALID. -/
def execMailboxSnapshot (t : Tick) (m : Master) (page : BitVec 12) (item : BitVec 12) (s : State) : Host.Outcome State
    Fault Refusal :=
  s.does t (·.regWrite m (headAddr page.toNat 0x20) (selWord item.toNat false))

/-- MAILBOX_WRITE (R71). A PG_MBXSEL write with DIR 1 writes the data words to the item at its apply class. -/
def execMailboxWrite (t : Tick) (m : Master) (page : BitVec 12) (item : BitVec 12) (s : State) : Host.Outcome State
    Fault Refusal :=
  s.does t (·.regWrite m (headAddr page.toNat 0x20) (selWord item.toNat true))

/-- SVC_READ (R55). A service-port read request (OP 0x03) is checked and answered with sync, STATUS, the words and a
CRC. -/
def execSvcRead (t : Tick) (req : List Byte) (s : State) : Host.Outcome State Fault Refusal :=
  s.does t (·.svcOp (· == 3) req)

/-- SVC_WRITE (R55). A service-port write request (OP 0x02) is checked and its words are performed in order. -/
def execSvcWrite (t : Tick) (req : List Byte) (s : State) : Host.Outcome State Fault Refusal :=
  s.does t (·.svcOp (· == 2) req)

/-- SVC_UNKNOWN_OP (R709). A service-port request with an unknown OP is answered with STATUS 0x06 and nothing is
performed. -/
def execSvcUnknownOp (t : Tick) (req : List Byte) (s : State) : Host.Outcome State Fault Refusal :=
  s.does t (·.svcOp (fun p => p != 2 && p != 3) req)

/-- SVC_ABORT (R57). SVC_CS_N rises before the last request CRC bit; nothing is performed and ABORT is counted. -/
def execSvcAbort (t : Tick) (req : List Byte) (nbits : Nat) (s : State) : Host.Outcome State Fault Refusal :=
  s.does t (·.svcAbort req nbits)

/-- OTP_CHANGE_GO (R89). PRIV_OTPCMD.GO starts a limited-change setting change, which is accepted, refused, or started
as an OTP record. -/
def execOtpChangeGo (t : Tick) (m : Master) (setting : BitVec 4) (s : State) : Host.Outcome State Fault Refusal :=
  s.does t (·.regCmd m pgPRIV R.PRIV_OTPCMD (withBit (setting.setWidth 32) R.PRIV_OTPCMD_GO))

/-- OTP_RECORD_DONE (R92). An OTP record and its commit mark are written; the value applies and BUSY clears. -/
def execOtpRecordDone (t : Tick) (s : State) : Host.Outcome State Fault Refusal :=
  s.does t (·.otpDone)

/-- SESSION_CLOSE_CMD (R60). PRIV_SESSCLOSE.CLOSE closes the named session. -/
def execSessionCloseCmd (t : Tick) (m : Master) (sess : Fin 8) (s : State) : Host.Outcome State Fault Refusal :=
  s.does t (·.regCmd m pgPRIV R.PRIV_SESSCLOSE (withBit (BitVec.ofNat 32 sess.val) R.PRIV_SESSCLOSE_CLOSE))

end Sys2Proof.Machine
end

