-- ==== Sys2Proof/Machine/SessionCmds.lean ====
section
/-!
DEFINITION. The meanings of the commands of host lanes and YRT sessions (02, 05).
-/
namespace Sys2Proof.Machine

/-- HOST_FRAME_RECEIVE (R194). An Ethernet frame arrives on a host lane; its length and FCS are checked and it is
classified, dropped at a full FIFO, or passed on. -/
def execHostFrameReceive (t : Tick) (lane : Fin 4) (frame : List Byte) (s : State) : Host.Outcome State Fault Refusal
    :=
  s.does t (·.frameIn lane.val frame)

/-- PAUSE_RECEIVE (R196). A received PAUSE stops transmission on the lane for the quanta requested. -/
def execPauseReceive (t : Tick) (lane : Fin 4) (quanta : BitVec 16) (s : State) : Host.Outcome State Fault Refusal :=
  s.does t (·.pause lane.val quanta.toNat)

/-- PAUSE_END (R196). The pause quanta expire and transmission on the lane resumes. -/
def execPauseEnd (t : Tick) (lane : Fin 4) (s : State) : Host.Outcome State Fault Refusal :=
  s.does t (·.pauseOver lane.val)

/-- HOST_LANE_UP (R193). A host lane comes up. -/
def execHostLaneUp (t : Tick) (lane : Fin 4) (s : State) : Host.Outcome State Fault Refusal :=
  s.does t (·.laneComesUp lane.val)

/-- HOST_LANE_DOWN (R60). A host lane goes down and its sessions close. -/
def execHostLaneDown (t : Tick) (lane : Fin 4) (s : State) : Host.Outcome State Fault Refusal :=
  s.does t (·.laneDown lane.val)

/-- HOST_LANE_RECONFIG (R197). A change of HLNK_CTL.MODE or FEC takes the lane down and up again. -/
def execHostLaneReconfig (t : Tick) (m : Master) (lane : Fin 4) (v : Word) (s : State) : Host.Outcome State Fault
    Refusal :=
  s.does t (·.regCmd m (pgHLNK lane.val) R.HLNK_CTL v)

/-- INGEST_DRAIN (R228). The ingest FIFO drains into DRAM within its budget, and D advances. -/
def execIngestDrain (t : Tick) (lane : Fin 4) (s : State) : Host.Outcome State Fault Refusal :=
  s.does t (·.drain lane.val)

/-- CREDIT_PERIODIC (R225). A CREDIT is sent at the end of each CREDINT interval. -/
def execCreditPeriodic (t : Tick) (lane : Fin 4) (s : State) : Host.Outcome State Fault Refusal :=
  s.does t (·.creditPeriodic lane.val)

/-- YRT_OPEN (R200). An OPEN creates a session, or repeats its CHALLENGE, or is refused. -/
def execYrtOpen (t : Tick) (lane : Fin 4) (s : State) : Host.Outcome State Fault Refusal :=
  s.does t (·.takeYrt lane.val 0x01 fun s y => s.yrtOpen lane.val y)

/-- YRT_PROVE (R62). A PROVE is checked against M_h and answered with GRANT, making the session privileged or counting
a failure. -/
def execYrtProve (t : Tick) (lane : Fin 4) (s : State) : Host.Outcome State Fault Refusal :=
  s.does t (·.takeYrt lane.val 0x03 fun s y => s.unsequenced lane.val y State.yrtProve)

/-- PROVE_TIMEOUT (R58). 100 ms pass after a CHALLENGE without a PROVE; the privileged place is freed and a failure is
counted. -/
def execProveTimeout (t : Tick) (sess : Fin 8) (s : State) : Host.Outcome State Fault Refusal :=
  s.does t (·.proveTimeout sess.val)

/-- AUTHFAIL_HOLD_EXPIRY (R63). The 10 s hold ends and privileged opens are accepted again. -/
def execAuthfailHoldExpiry (t : Tick) (s : State) : Host.Outcome State Fault Refusal :=
  s.does t (·.holdOver)

/-- YRT_CLOSE (R60). A CLOSE frame closes the session. -/
def execYrtClose (t : Tick) (lane : Fin 4) (s : State) : Host.Outcome State Fault Refusal :=
  s.does t (·.takeYrt lane.val 0x05 fun s y => s.sequenced lane.val y State.yrtClose)

/-- YRT_DATA (R208). A DATA frame is accepted into its basin, advancing P, or refused with a NAK carrying its reason.
-/
def execYrtData (t : Tick) (lane : Fin 4) (s : State) : Host.Outcome State Fault Refusal :=
  s.does t (·.takeYrt lane.val 0x10 fun s y =>
    if s.listening then s.listenData lane.val y else s.sequenced lane.val y State.yrtData)

/-- YRT_REGREQ (R59). A REGREQ performs a register access once per sequence number and is answered with REGRESP. -/
def execYrtRegreq (t : Tick) (lane : Fin 4) (s : State) : Host.Outcome State Fault Refusal :=
  s.does t (·.takeYrt lane.val 0x20 fun s y => s.sequenced lane.val y State.yrtRegreq)

/-- YRT_READ (R219). A READ is answered with READDATA frames and may advance C. -/
def execYrtRead (t : Tick) (lane : Fin 4) (s : State) : Host.Outcome State Fault Refusal :=
  s.does t (·.takeYrt lane.val 0x30 fun s y => s.sequenced lane.val y State.yrtRead)

/-- YRT_NAK_RECEIVE (R209). A NAK from the host makes the device retransmit from its SEQ onwards. -/
def execYrtNakReceive (t : Tick) (lane : Fin 4) (s : State) : Host.Outcome State Fault Refusal :=
  s.does t (·.takeYrt lane.val 0x12 fun s y => s.unsequenced lane.val y State.yrtNak)

/-- YRT_ACK_RECEIVE (R210). An ACK advances the host's ACKSEQ and releases kept frames. -/
def execYrtAckReceive (t : Tick) (lane : Fin 4) (s : State) : Host.Outcome State Fault Refusal :=
  s.does t (·.takeYrt lane.val 0x13 fun s y => s.unsequenced lane.val y fun s _ _ => s)

/-- YRT_INVALID_FRAME (R712). A frame of an unknown or device-only TYPE, or a malformed OPEN or PROVE, is discarded
and counted. -/
def execYrtInvalidFrame (t : Tick) (lane : Fin 4) (s : State) : Host.Outcome State Fault Refusal :=
  s.does t (·.takeYrt lane.val 0 fun s _ => s.yrtInvalid)

/-- GAP_NAK_REPEAT (R206). NAKTMO expires without the expected frame and the gap NAK is repeated. -/
def execGapNakRepeat (t : Tick) (sess : Fin 8) (s : State) : Host.Outcome State Fault Refusal :=
  s.does t (·.gapRepeat sess.val)

/-- YRT_RETRANSMIT_TIMEOUT (R210). RTO expires without ACKSEQ advancing; the oldest frame is retransmitted, or the
session closes after RETRYMAX. -/
def execYrtRetransmitTimeout (t : Tick) (sess : Fin 8) (s : State) : Host.Outcome State Fault Refusal :=
  s.does t (·.rto sess.val)

/-- DELAYED_ACK (R211). ACKINT expires after an ACKSEQ advance that no frame has carried, and an ACK is sent. -/
def execDelayedAck (t : Tick) (sess : Fin 8) (s : State) : Host.Outcome State Fault Refusal :=
  s.does t (·.delayedAck sess.val)

/-- SESSION_IDLE_TIMEOUT (R60). A session with no frame for PRIV_SESSTMO ms is closed. -/
def execSessionIdleTimeout (t : Tick) (sess : Fin 8) (s : State) : Host.Outcome State Fault Refusal :=
  s.does t (·.idleClose sess.val)

end Sys2Proof.Machine
end

