-- ==== Sys2Proof/Machine/TileCmds.lean ====
section
/-!
DEFINITION. The meanings of the commands of tile link (09).
-/
namespace Sys2Proof.Machine

/-- TILE_STATUS (R387). A STAT STATUS from a tile is consumed: temperature, supply, events, skips and missing slots.
-/
def execTileStatus (t : Tick) (lane : Fin 40) (frame : List Byte) (s : State) : Host.Outcome State Fault Refusal :=
  s.does t (·.tileStatus lane.val frame)

/-- TILE_CAP (R387). A CAP from a tile is recorded, and a new serial number is handled. -/
def execTileCap (t : Tick) (lane : Fin 40) (frame : List Byte) (s : State) : Host.Outcome State Fault Refusal :=
  s.does t (·.once (.tileCap t lane frame) (·.tileCap lane.val frame))

/-- TILE_LINK_REPORT (R387). A STAT LINK report of PRBS errors, CRC errors, lock losses and FOM is recorded. -/
def execTileLinkReport (t : Tick) (lane : Fin 40) (frame : List Byte) (s : State) : Host.Outcome State Fault Refusal
    :=
  s.does t (·.tileLink lane.val frame)

/-- TIME_ECHO (R380). An ECHO gives a wire-delay sample, which is averaged and sent in DELAY. -/
def execTimeEcho (t : Tick) (lane : Fin 40) (frame : List Byte) (s : State) : Host.Outcome State Fault Refusal :=
  s.does t (·.timeEcho lane.val frame)

/-- OTHER_DEVICE_FRAME (R397). A frame from the chain for the devices is consumed, or discarded when it comes from the
other device. -/
def execOtherDeviceFrame (t : Tick) (lane : Fin 40) (frame : List Byte) (s : State) : Host.Outcome State Fault Refusal
    :=
  s.does t (·.otherFrame lane.val frame)

/-- LANE_BRINGUP (R353). TLNK_CTL.BRINGUP restarts the lane at rate code 0, or is refused during a job. -/
def execLaneBringup (t : Tick) (m : Master) (lane : Fin 40) (v : Word) (s : State) : Host.Outcome State Fault Refusal
    :=
  s.does t (·.regCmd m (pgTLNK lane.val) R.TLNK_CTL (withBit v R.TLNK_CTL_BRINGUP))

/-- LANE_LOCK (R350). A device receiver gets lock; the lane sends ENUM and CAPREQ and proceeds. -/
def execLaneLock (t : Tick) (lane : Fin 40) (valid : Bool) (s : State) : Host.Outcome State Fault Refusal :=
  s.does t (·.laneLock lane.val valid)

/-- LANE_LOCK_LOSS (R350). A device receiver loses lock and hunts again. -/
def execLaneLockLoss (t : Tick) (lane : Fin 40) (s : State) : Host.Outcome State Fault Refusal :=
  s.does t (·.laneLoss lane.val)

/-- RATE_SWITCH_TIMEOUT (R356). A lane not locked 5 ms after a rate switch returns to the previous rate. -/
def execRateSwitchTimeout (t : Tick) (lane : Fin 40) (s : State) : Host.Outcome State Fault Refusal :=
  s.does t (·.switchTimeout lane.val)

/-- TRAIN_DWELL_END (R357). The PRBS dwell ends; the rate step is judged and the lead end steps up, down or settles.
-/
def execTrainDwellEnd (t : Tick) (lane : Fin 40) (s : State) : Host.Outcome State Fault Refusal :=
  s.does t (·.dwellEnd lane.val)

/-- LANE_UP (R359). The lane reaches UP once the rate is settled, the tiles have answered and are provisioned and in
time. -/
def execLaneUp (t : Tick) (lane : Fin 40) (s : State) : Host.Outcome State Fault Refusal :=
  s.does t (·.laneIsUp lane.val)

/-- LANE_HUNT_TIMEOUT (R353). A tile lane gets no lock at rate code 0 within 100 ms, or no tile answers, and LSTATE
enters FAIL. -/
def execLaneHuntTimeout (t : Tick) (lane : Fin 40) (s : State) : Host.Outcome State Fault Refusal :=
  s.does t (·.huntTimeout lane.val)

/-- TIME_SYNC_SEND (R383). A TIME SYNC is sent every SYNCINT µs. -/
def execTimeSyncSend (t : Tick) (lane : Fin 40) (s : State) : Host.Outcome State Fault Refusal :=
  s.does t (·.timeSync lane.val)

/-- TIME_PROBE_SEND (R380). A TIME PROBE is sent to the next tile every PROBEINT ms. -/
def execTimeProbeSend (t : Tick) (lane : Fin 40) (s : State) : Host.Outcome State Fault Refusal :=
  s.does t (·.timeProbe lane.val)

/-- EPOCH_SEND (R389). An active or solo device sends EPOCH at least every 1 ms. -/
def execEpochSend (t : Tick) (s : State) : Host.Outcome State Fault Refusal :=
  s.does t (·.epochSend)

/-- IDLE_SEND (R392). An IDLE frame is sent on a lane with no other frame for 10 µs. -/
def execIdleSend (t : Tick) (lane : Fin 40) (s : State) : Host.Outcome State Fault Refusal :=
  s.does t (·.idleSend lane.val)

/-- IDLE_PRBS_SEND (R362). A PRBS frame is sent in an idle gap of at least 10 µs. -/
def execIdlePrbsSend (t : Tick) (lane : Fin 42) (s : State) : Host.Outcome State Fault Refusal :=
  s.does t (·.prbsOut lane.val)

/-- PRBS_FRAME_RECEIVE (R361). A TEST PRBS frame arrives at a device receiver; its bit errors and CRC are counted for
TLNK_PRBSERR and for adaptation. -/
def execPrbsFrameReceive (t : Tick) (lane : Fin 42) (frame : List Byte) (s : State) : Host.Outcome State Fault Refusal
    :=
  s.does t (·.prbsIn lane.val frame)

/-- ADAPTATION_STEP (R364). A receiver equalisation adaptation step is kept or undone by PRBS errors or FOM, and
FOMLOW is set when the FOM falls below FOMMIN. -/
def execAdaptationStep (t : Tick) (lane : Fin 40) (fom : BitVec 8) (s : State) : Host.Outcome State Fault Refusal :=
  s.does t (·.adapt lane.val fom.toNat)

/-- CHAIN_BREAK (R398). A break is declared on unlocked port reports or a 3 ms STATUS silence; the lane enters
DEGRADED. -/
def execChainBreak (t : Tick) (lane : Fin 40) (hop : Fin 8) (farUp : Bool) (s : State) : Host.Outcome State Fault
    Refusal :=
  s.does t (·.chainBreak lane.val hop.val farUp)

end Sys2Proof.Machine
end

