-- ==== Sys2Proof/Machine/TimerOps.lean ====
section
/-!
DEFINITION. Timers of the timebase and the PTP assist (03): timeouts, TREF, PPS_OUT and launches.
-/
namespace Sys2Proof.Machine

/-- Whether `span` ticks have passed since a reference. -/
def State.since (s : State) (ref : Option Nat) (span : Nat) : Bool :=
  match ref with
  | some a => decide (a + span ≤ s.now)
  | none => false

/-- 100 ms without the Follow_Up of a Sync (R128). -/
def State.followUpTimeout (s : State) : State :=
  match s.ptp.waiting with
  | [] => s
  | x :: rest =>
    if s.since (some x.at_) (ms 100) then (s.setPtp { s.ptp with waiting := rest }).raise pgPTPA 5 else s

/-- No valid Sync for PTPA_TMO.SYNC (R120; log entry 56). -/
def State.syncTimeout (s : State) : State :=
  if s.enabled pgPTPA && !s.rdb pgTIME R.TIME_CTL_SRC &&
      s.since s.ptp.syncRef (ms (atLeast1 (s.rd pgPTPA R.PTPA_TMO_SYNC))) then
    ((s.setPtp { s.ptp with syncRef := none }).raise pgPTPA 2).timeLost
  else s

/-- No Announce from the selected port for PTPA_TMO.ANN: with LEARN 1 the selection is dropped (R126). With LEARN 0 the
port stays selected, and ANNTMO is set once (DESIGN CHOICE, log entry 80). -/
def State.announceTimeout (s : State) : State :=
  if s.enabled pgPTPA && s.ptp.port.isSome && s.since s.ptp.annRef (ms (atLeast1 (s.rd pgPTPA R.PTPA_TMO_ANN))) then
    let p := { s.ptp with annRef := none }
    (s.setPtp (if s.rdb pgPTPA R.PTPA_CTL_LEARN then { p with port := none } else p)).raise pgPTPA 3
  else s

/-- The oldest Delay_Req without a Delay_Resp has had none within 1 s (R124, R126: flag NORESP). -/
def State.delayRespTimeout (s : State) : State :=
  match s.ptp.dreqs.find? (·.t4.isNone) with
  | none => s
  | some x =>
    if s.since (some x.at_) (ms 1000) then (s.setPtp { s.ptp with dreqs := s.ptp.dreqs.erase x }).raise pgPTPA 4 else s

/-- LOGINT: the field, or the logMessageInterval of the last Delay_Resp with FOLLOWMASTER 1; −7 to 4 (R127). -/
def State.dreqLog (s : State) : Int :=
  clampI (-7) 4 (if s.rdb pgPTPA R.PTPA_DREQ_FOLLOWMASTER then s.ptp.logInterval else s.rdi pgPTPA R.PTPA_DREQ_LOGINT)

/-- Twice the mean interval 2^LOGINT s between Delay_Req in ticks: the end of the random spread of IEEE 1588-2019, which is
uniform from 0 to twice the mean (PRESUMED, log entry 85). -/
def State.dreqSpan (s : State) : Nat := 2 * 16000000000 * 2 ^ (s.dreqLog + 7).toNat / 128

/-- A Delay_Req is queued on the assist's lane for a launch tick; which tick of the spread after the last one is random:
the command names it, and a later one is held to the end of the spread (R127, R131; log entry 85). -/
def State.delayReq (s : State) (launch : Nat) : State :=
  if !s.enabled pgPTPA then s
  else
    let q := s.ptp.dreqSeq
    let at_ := match s.ptp.dreqAt with
      | some a => min launch (a + s.dreqSpan)
      | none => launch
    let s := s.setPtp { s.ptp with dreqSeq := (q + 1) % 65536, dreqAt := some at_ }
    s.queueHost (s.rd pgPTPA R.PTPA_CTL_LANE) at_
      (.delayReq q (s.rdb pgPTPA R.PTPA_CTL_VLAN) (s.rd pgPTPA R.PTPA_CTL_VID) (s.rd pgPTPA R.PTPA_CTL_PCP)
        (s.rd pgPTPA R.PTPA_CTL_DOMAIN))

/-- The launch cell of a host lane starts its first frame at or after its launch tick; one that reached the cell at
or after that tick is late (R131, R132). A received PAUSE stops the lane (R196). -/
def State.launchHost (s : State) (n : Nat) : State :=
  let l := s.lane n
  match l.launch with
  | [] => s
  | x :: rest =>
    if decide (s.now < x.tick) || decide (s.now < l.pauseEnd) then s
    else
      let s := (s.setLane n { l with launch := rest }).hostSend n x.item
      let s := match x.item with
        | .delayReq q _ _ _ _ => s.dreqSent q
        | .frame _ => s
      s.lateLaunch (decide (x.tick ≤ x.queued)) (44 + n)

/-- A launch cell, by its lane code: codes 0 to 39 are tile lanes and 40 and 41 the twin lanes, whose scheduled frames
have rows of their own (log entry 12). -/
def State.frameLaunch (s : State) (code : Nat) : State := if 44 ≤ code then s.launchHost (code - 44) else s

/-- TREF is lost or out of range: the PLL holds over (R101; log entry 55). -/
def State.trefLoss (s : State) : State :=
  if !s.time.running || s.rdb pgTIME R.TIME_STAT_TREFLOSS then s
  else ((s.wr pgTIME R.TIME_STAT_TREFLOSS 1).wr pgTIME R.TIME_STAT_LOCK 0).raise pgTIME 7

/-- TREF is back within range. -/
def State.trefReturn (s : State) : State :=
  if s.rdb pgTIME R.TIME_STAT_TREFLOSS then (s.wr pgTIME R.TIME_STAT_TREFLOSS 0).wr pgTIME R.TIME_STAT_LOCK 1 else s

/-- Network time reaches the whole second that is due: PPS_OUT rises, but not inside a pulse in progress (R136,
R137). -/
def State.ppsOutStart (s : State) : State :=
  match s.time.ppsNext with
  | none => s
  | some n =>
    if !s.rdb pgTIME R.TIME_PPSCTL_OUTEN || decide (s.netTime s.now < ((n * secUnits : Nat) : Int)) then s
    else
      let next := some s.nextSecond
      if s.time.ppsOut then s.setTime { s.time with ppsNext := next }
      else s.setTime { s.time with ppsOut := true, ppsNext := next,
                                   ppsEnd := s.now + us (atLeast1 (s.rd pgTIME R.TIME_PPSCTL_WIDTH)) }

/-- The width of the PPS_OUT pulse has passed (R136). -/
def State.ppsOutEnd (s : State) : State :=
  if s.time.ppsOut && decide (s.time.ppsEnd ≤ s.now) then s.setTime { s.time with ppsOut := false } else s

end Sys2Proof.Machine
end

