-- ==== Sys2Proof/Machine/TimeCmds.lean ====
section
/-!
DEFINITION. The meanings of the commands of timebase and PTP assist (03).
-/
namespace Sys2Proof.Machine

/-- PTP_SYNC_RECEIVE (R130). A Sync from the selected master is time-stamped and gives an offset sample, directly or
after its Follow_Up. -/
def execPtpSyncReceive (t : Tick) (msg : PtpMsg) (s : State) : Host.Outcome State Fault Refusal :=
  s.does t (·.once (.ptpSyncReceive t msg) (·.ptpSync msg))

/-- PTP_FOLLOW_UP_RECEIVE (R128). A Follow_Up completes a two-step Sync and gives its sample. -/
def execPtpFollowUpReceive (t : Tick) (msg : PtpMsg) (s : State) : Host.Outcome State Fault Refusal :=
  s.does t (·.once (.ptpFollowUpReceive t msg) (·.ptpFollowUp msg))

/-- PTP_DELAY_RESP_RECEIVE (R129). A Delay_Resp gives a delay sample, which is filtered or discarded as an outlier. -/
def execPtpDelayRespReceive (t : Tick) (msg : PtpMsg) (s : State) : Host.Outcome State Fault Refusal :=
  s.does t (·.once (.ptpDelayRespReceive t msg) (·.ptpDelayResp msg))

/-- PTP_ANNOUNCE_RECEIVE (R122). An Announce selects a master port, or records a master change. -/
def execPtpAnnounceReceive (t : Tick) (msg : PtpMsg) (s : State) : Host.Outcome State Fault Refusal :=
  s.does t (·.ptpAnnounce msg)

/-- DELAY_REQ_SEND (R127). A Delay_Req is transmitted at the randomised mean interval. -/
def execDelayReqSend (t : Tick) (launch : Tick) (s : State) : Host.Outcome State Fault Refusal :=
  s.does t (·.delayReq launch.toNat)

/-- FOLLOW_UP_TIMEOUT (R128). 100 ms pass without the Follow_Up; the Sync gives no sample and FUTMO is set. -/
def execFollowUpTimeout (t : Tick) (s : State) : Host.Outcome State Fault Refusal :=
  s.does t (·.followUpTimeout)

/-- SYNC_TIMEOUT (R120). No valid Sync arrives for PTPA_TMO.SYNC; SYNCTMO is set and ARMED or TRACK moves to FREE. -/
def execSyncTimeout (t : Tick) (s : State) : Host.Outcome State Fault Refusal :=
  s.does t (·.syncTimeout)

/-- ANNOUNCE_TIMEOUT (R126). No Announce arrives from the selected port for PTPA_TMO.ANN; the selection is dropped. -/
def execAnnounceTimeout (t : Tick) (s : State) : Host.Outcome State Fault Refusal :=
  s.does t (·.announceTimeout)

/-- DELAY_RESP_TIMEOUT (R124). A Delay_Req has no Delay_Resp within 1 s and flag NORESP is set. -/
def execDelayRespTimeout (t : Tick) (s : State) : Host.Outcome State Fault Refusal :=
  s.does t (·.delayRespTimeout)

/-- PPS_IN_EDGE (R138). A PPS_IN edge is captured and gives the servo a sub-second offset sample. -/
def execPpsInEdge (t : Tick) (rising : Bool) (s : State) : Host.Outcome State Fault Refusal :=
  s.does t (·.once (.ppsInEdge t rising) (·.ppsEdge rising))

/-- PPS_MISS_TIMEOUT (R121). 1.5 s pass without a PPS_IN edge; PPSMISS is set and ARMED or TRACK moves to FREE. -/
def execPpsMissTimeout (t : Tick) (s : State) : Host.Outcome State Fault Refusal :=
  s.does t (·.ppsMiss)

/-- TIME_ARM (R109). TIME_CTL.ARM moves the time unit to ARMED, or is refused during a job. -/
def execTimeArm (t : Tick) (m : Master) (v : Word) (s : State) : Host.Outcome State Fault Refusal :=
  s.does t (·.regCmd m pgTIME R.TIME_CTL (withBit v R.TIME_CTL_ARM))

/-- TIME_FREE (R110). TIME_CTL.FREE moves the time unit to FREE and keeps the rate in force. -/
def execTimeFree (t : Tick) (m : Master) (v : Word) (s : State) : Host.Outcome State Fault Refusal :=
  s.does t (·.regCmd m pgTIME R.TIME_CTL (withBit v R.TIME_CTL_FREE))

/-- TIME_MODE_CHANGE (R110). A write that changes TIME_CTL.MODE moves the time unit to FREE. -/
def execTimeModeChange (t : Tick) (m : Master) (v : Word) (s : State) : Host.Outcome State Fault Refusal :=
  s.does t (·.regCmd m pgTIME R.TIME_CTL v)

/-- HOST_TIME_STEP (R113). A write of TIME item 3 in MODE 0 and ARMED steps network time and enters SLEW, or is
refused. -/
def execHostTimeStep (t : Tick) (m : Master) (step : BitVec 128) (s : State) : Host.Outcome State Fault Refusal :=
  s.does t (·.mbxWrite m pgTIME 3 step.toNat)

/-- HOST_RATE_WRITE (R115). A write of TIME item 2 sets the rate, clamped to RATEMAX, or is refused in MODE 1. -/
def execHostRateWrite (t : Tick) (m : Master) (rate : BitVec 48) (s : State) : Host.Outcome State Fault Refusal :=
  s.does t (·.mbxWrite m pgTIME 2 rate.toNat)

/-- TICK_CONVERT (R108). A write of a tick to TIME item 7 selects it for conversion to network time. -/
def execTickConvert (t : Tick) (m : Master) (tick : Tick) (s : State) : Host.Outcome State Fault Refusal :=
  s.does t (·.mbxWrite m pgTIME 7 tick.toNat)

/-- TREF_LOSS (R101). TREF stops or leaves ±200 ppm; the PLL holds over and TREFLOSS is set. -/
def execTrefLoss (t : Tick) (s : State) : Host.Outcome State Fault Refusal :=
  s.does t (·.trefLoss)

/-- TREF_RETURN (R101). TREF comes back within range after a loss; TIME_STAT.TREFLOSS clears and the timebase PLL
follows TREF again. -/
def execTrefReturn (t : Tick) (s : State) : Host.Outcome State Fault Refusal :=
  s.does t (·.trefReturn)

/-- PPS_OUT_PULSE_START (R136). Network time reaches a whole second and PPS_OUT rises. -/
def execPpsOutPulseStart (t : Tick) (s : State) : Host.Outcome State Fault Refusal :=
  s.does t (·.ppsOutStart)

/-- PPS_OUT_PULSE_END (R136). The PPS_OUT pulse width expires and PPS_OUT falls. -/
def execPpsOutPulseEnd (t : Tick) (s : State) : Host.Outcome State Fault Refusal :=
  s.does t (·.ppsOutEnd)

/-- CAPTURE_CELL_EDGE (R135). A general capture cell records an edge, and sets OVR when the previous capture is
unread. -/
def execCaptureCellEdge (t : Tick) (source : BitVec 6) (rising : Bool) (s : State) : Host.Outcome State Fault Refusal
    :=
  s.does t (·.captureAll source.toNat rising 8)

/-- FRAME_LAUNCH (R131). A launch cell starts a queued frame at the first block boundary at or after its launch tick,
and counts it if it is late. -/
def execFrameLaunch (t : Tick) (lane : Fin 48) (s : State) : Host.Outcome State Fault Refusal :=
  s.does t (·.frameLaunch lane.val)

end Sys2Proof.Machine
end

