-- ==== Sys2Proof/Machine/PairOps.lean ====
section
/-!
DEFINITION. The pair (17): what twin frames, heartbeats, the Sluice and the host do to it.
-/
namespace Sys2Proof.Machine

/-! ### Receiving (R575, R581) -/

/-- Takes a twin frame: nothing while the lanes are unpowered; a frame that fails its CRC is counted (R575, R581). -/
def State.twinFrame (s : State) (crcOk : Bool) (f : State → State) : State :=
  if !s.twinPowered then s
  else if crcOk then f s else s.inc pgTWIN R.TWIN_LINKERR_CRC

/-- The ROLE field of a SYS_STATE word. -/
def wordRole (w : Word) : Nat := bitsOf w.toNat 4 2

/-- Records what the other device says of its state and role (TWIN_STAT.PEERROLE). -/
def State.peerWord (s : State) (w : Word) : State :=
  (s.setTwin { s.twin with peerState := w.toNat }).wr pgTWIN R.TWIN_STAT_PEERROLE (wordRole w)

/-! ### Forming the pair (R582, R583, R589, R601) -/

/-- The PAIRFAULT code of an exchange, 0 if the pair forms (R582). -/
def State.pairCode (s : State) (h : Hello) : Nat :=
  if h.pairId.toNat ≠ s.twin.pairedId then 1
  else if h.cap.toNat ≠ s.sysCap then 2
  else if h.roleSel = s.rdb pgSYS R.SYS_STRAP_ROLE_SEL then 3
  else 0

/-- A HELLO (R579, R582, R583). In LINKUP it forms the pair or sets PAIRFAULT; an active device without a twin
forms the pair again. An active device sends ALIGN as its twin reports the standby role (R589, R601; log entry 53). -/
def State.twinHello (s : State) (h : Hello) : State :=
  let was := s.rd pgTWIN R.TWIN_STAT_PEERROLE
  let s := (s.sawEpoch h.epoch.toNat).peerWord h.sysState
  let s := if was ≠ 1 ∧ wordRole h.sysState = 1 then s.sendAlign else s
  if s.twin.paired then s
  else
    let code := s.pairCode h
    if code = 0 then
      let s := (s.setTwin { s.twin with paired := true }).wr pgTWIN R.TWIN_STAT_PAIRFAULT 0
      if s.twinState = 6 then s.setTwinState 1
      else if s.isActive && s.twinState = 5 then (s.setTwinState 3).sendAlign
      else s
    else if s.dev.state = .linkup then
      ((s.wr pgTWIN R.TWIN_STAT_PAIRFAULT code).setTwinState 6).raise pgTWIN 11 code
    else s

/-- A HELLO on each lane that is up, every 1 ms until the pair forms (R575). -/
def State.helloSend (s : State) : State :=
  if s.twinPowered && !s.twin.paired && (s.twin.helloAt = 0 || decide (s.twin.helloAt + ms 1 ≤ s.now)) then
    (s.setTwin { s.twin with helloAt := s.now }).twinSendBoth (.hello s.hello)
  else s

/-! ### Heartbeats (R596 to R601) -/

/-- A heartbeat: a HEART on each twin lane that is up and a pulse on HB_OUT, which retriggers the Sluice of a live
active device (R596, R602). One that leaves a block time of 2.56 ns or more after the period has passed is late on its
lanes, codes 40 and 41 (R131, R132; log entry 12). -/
def State.heartbeat (s : State) : State :=
  if !s.twinPowered || !(s.twin.beatAt = 0 || decide (s.twin.beatAt + s.beatPeriod ≤ s.now)) then s
  else
    let tw := { s.twin with beatAt := s.now, heartTx := s.pairTick }
    let tw := if s.liveActive && tw.sluiceOut then { tw with monoEnd := s.now + us 20 } else tw
    let late := decide (0 < s.twin.beatAt) && decide (s.twin.beatAt + s.beatPeriod + 41 ≤ s.now)
    let s := (s.setTwin tw).twinSendBoth (.heart (s.heart 0))
    State.each (fun s n => s.lateLaunch late (40 + n)) s ((List.range 2).filter s.twinUp)

/-- The level of HB_OUT: a pulse of 200 ns with each heartbeat (R596). -/
def State.hbOut (s : State) : Bool := decide (0 < s.twin.beatAt) && decide (s.now < s.twin.beatAt + 3200)

/-- A path that has carried a heartbeat reaches its deadline (R597 to R599, R601). -/
def State.pathSilent (s : State) (pin : Bool) : State :=
  if !s.twinPowered || (if pin then s.twin.pinLast else s.twin.linkLast).isNone || !s.silent pin then s
  else
    let s := s.wr pgTWIN (if pin then R.TWIN_STAT_HBPIN else R.TWIN_STAT_HBLINK) 0
    if s.silent (!pin) then
      if s.isStandby then s.declare 1
      else if s.isActive && s.twinState = 3 then
        let s := s.setTwin { s.twin with paired := false, peerC := [] }
        (s.setTwinState 5).raise pgTWIN 7
      else s
    else if (if pin then s.twin.pinAlarmed else s.twin.linkAlarmed) then s
    else
      let h := { s.twin.health with alarm := true }
      let s := s.setTwin (if pin then { s.twin with pinAlarmed := true, health := h } else { s.twin with linkAlarmed := true, health := h })
      (s.inc pgTWIN (if pin then R.TWIN_HBCNT_PIN else R.TWIN_HBCNT_LINK)).raise pgTWIN 2 (b2n pin)

/-- A heartbeat arrives on a path. One captured at the deadline or later comes after the path has fallen silent
(R597). -/
def State.heard (s : State) (pin : Bool) : State :=
  let s := if s.rdb pgTWIN (if pin then R.TWIN_STAT_HBPIN else R.TWIN_STAT_HBLINK) then s.pathSilent pin else s
  s.beatHeard pin

/-- A pulse arrives on HB_IN (R597). -/
def State.pulseIn (s : State) : State := if s.twinPowered then s.heard true else s

/-- Declares failure on an announcement; together with the silence of both paths there is one declaration, with the
announced reason (R599, R615). -/
def State.announced (s : State) (reason : Nat) : State :=
  match s.twin.declared with
  | some (1, at_) => if at_ = s.now then s.setTwin { s.twin with declared := some (reason, at_) } else s
  | _ => s.declare reason

/-- The committed slots of an active device's HEART. -/
def State.takeCommitted (s : State) (l : List (BitVec 48)) : State :=
  let m := (List.range l.length).foldl (fun m b => mput m b (nth 0#48 l b).toNat) s.twin.peerCommitted
  s.setTwin { s.twin with peerCommitted := m }

/-- The bars of the running job, 0 for none. -/
def State.curBars (s : State) : Nat := match s.jobs.cur with | some j => j.bars | none => 0

/-- Compares X0 at the pair tick of a HEART with the device's own (R589). The detail is the own value less that of the
active device (log entry 53); the standby's own ALIGN asks for an answer (DESIGN CHOICE, log entry 90). -/
def State.compareX0 (s : State) (launch : Nat) (x0 : Int) : State :=
  let d := to256 (s.x0At (s.ownTick launch)) - x0
  if d = 0 then s else ((s.raiseI pgTWIN 14 d).leaveStep).twinSend (.align s.ownAlign)

/-- A HEART of the active device at a standby: epoch, offset, committed slots, X0 and an announcement (R578, R580,
R589, R593, R599). The offset needs a HEART of this device that the active device has received (log entry 51). -/
def State.followHeart (s : State) (h : Heart) : State :=
  let s := s.wr pgTWIN R.TWIN_EPOCH h.epoch.toNat
  let s :=
    if s.twin.heartTx = 0 ∨ h.received = 0#80 then s
    else s.followOffset ((((s.pairTick : Int) - (h.launch.toNat : Nat)) - ((h.received.toNat : Nat) - (s.twin.heartTx : Nat))).fdiv 2)
  let s := (s.takeCommitted h.committed).compareX0 h.launch.toNat h.x0.toInt
  s.stepCheck s.curBars

/-- A HEART is received (R578 to R580, R597). -/
def State.twinHeart (s : State) (h : Heart) : State :=
  let s := s.sawEpoch h.epoch.toNat
  let at_ := s.pairTick
  let reason := h.reason.toNat
  let active := s.isStandby && decide (wordRole h.sysState = 2)
  let s := (if active && reason ≠ 0 then s.announced reason else s).heard false
  let s := (s.setTwin { s.twin with heartAt := at_ }).peerWord h.sysState
  if active then s.followHeart h else s

/-! ### SUM, DELTA, FETCH, RELAY and ALIGN -/

/-- A SUM at a standby (R592, R593). -/
def State.twinSum (s : State) (bar first : Nat) (sums : List Word) : State :=
  if s.isStandby then (s.peerSummaries bar first sums).stepCheck s.curBars else s

/-- A nozzle-table write reaches a standby: held for its line, or late (R587, R588). Without a job the twin unit applies
it at once, as the internal engine that it then is (R304). -/
def State.mirrorNozzle (s : State) (b idx bits mask : Nat) (stamp : Nat) : State :=
  if s.inJob && s.jobs.cur.isSome then
    let x := s.barRast b
    let late := decide (stamp < x.next)
    let w : NozWrite := { bar := b, index := idx, mask := mask, bits := bits, stamp := if late then x.next else stamp }
    let s := s.setBarRast b { x with writes := x.writes ++ [w] }
    if late then
      let s := s.setTwin { s.twin with health := { s.twin.health with gap := true } }
      (s.raise pgTWIN 13 b).leaveStep
    else s
  else (s.engineWrite b idx mask bits).2

/-- A DELTA is applied (R584, R587, R588, R590). -/
def State.applyDelta (s : State) (d : Delta) : State :=
  match d with
  | .mirror addr v => if s.isStandby then s.regWrite .twin addr.toNat v else s
  | .nozzle bar index bits mask stamp =>
    if s.isStandby then s.mirrorNozzle bar.val index.toNat bits.toNat mask.toNat stamp.toNat else s
  | .reading r =>
    if s.isStandby then s.takeReading r.bar.val r.tile.val r.row.val r.col.toNat r.value.toNat r.temp.toInt else s
  | .consumed l =>
    s.setTwin { s.twin with peerC := l.foldl (fun m e => mput m e.1.val e.2.toNat) s.twin.peerC }
  | .session k isOpen lane mac expected next =>
    if s.listening then
      s.setSession k.val { s.session k.val with open_ := isOpen, lane := lane.val, mac := mac.toNat, expected := expected.toNat, nextSeq := next.toNat }
    else s

/-- Applies the DELTAs that came early and are now next in sequence, at most `n`. -/
def State.drainEarly (s : State) : Nat → State
  | 0 => s
  | n + 1 =>
    match s.twin.early.find? fun e => decide (e.1 = s.twin.deltaRx) with
    | none => s
    | some (q, d) =>
      let s := s.setTwin { s.twin with early := s.twin.early.filter fun e => !decide (e.1 = q), deltaRx := (q + 1) % 2 ^ 32 }
      (s.applyDelta d).drainEarly n

/-- A gap is over once no DELTA waits behind it. -/
def State.gapOver (s : State) : State :=
  if s.twin.early.isEmpty then s.setTwin { s.twin with gapAt := none } else s

/-- A DELTA is received: in sequence it is applied; past a gap it waits and the missing frames are requested; one
received before is dropped (R576, R584). -/
def State.twinDelta (s : State) (seq : Nat) (d : Delta) : State :=
  let e := s.twin.deltaRx
  if seq = e then
    let s := (s.setTwin { s.twin with deltaRx := (e + 1) % 2 ^ 32 }).applyDelta d
    (s.drainEarly s.twin.early.length).gapOver
  else if seqAhead seq e && !(s.twin.early.any fun x => decide (x.1 = seq)) then
    let have_ := s.twin.early
    let s := s.setTwin { s.twin with early := have_ ++ [(seq, d)], gapAt := s.twin.gapAt.or (some s.now) }
    let lo := have_.foldl (fun m x => if seqAhead seq x.1 && seqAhead x.1 m then x.1 else m) ((e + (2 ^ 32 - 1)) % 2 ^ 32)
    let n := (seq + 2 ^ 32 - lo) % 2 ^ 32 - 1
    State.each (fun s i => s.twinSend (.resend ((lo + 1 + i) % 2 ^ 32))) s (List.range n)
  else s

/-- A gap not filled within 1 ms is counted and takes a standby out of step; the DELTAs behind it are applied (R576,
R593; log entry 54). -/
def State.gapTimeout (s : State) : State :=
  match s.twin.gapAt with
  | none => s
  | some g =>
    if s.now < g + ms 1 then s
    else
      let s := s.setTwin { s.twin with health := { s.twin.health with gap := true } }
      let s := s.inc pgTWIN R.TWIN_LINKERR_GAP
      let s := if s.isStandby then s.leaveStep else s
      let first := s.twin.early.foldl (fun m x => match m with
        | none => some x.1
        | some q => if seqAhead q x.1 then some x.1 else some q) (none : Option Nat)
      match first with
      | none => s.gapOver
      | some q =>
        let s := s.setTwin { s.twin with deltaRx := q, gapAt := some s.now }
        (s.drainEarly s.twin.early.length).gapOver

/-- A FETCH: a request is answered from the device's own basin as far as it holds the bytes; data fill what a listening
standby has missed (R590). -/
def State.twinFetch (s : State) (f : Fetch) : State :=
  match f with
  | .request b first count =>
    let p := (s.basin b.val).p
    let n := min count (p - first.toNat)
    if n = 0 || decide (first.toNat + s.basinSize b.val < p) then s
    else s.twinKeep (.fetch (.data b first (s.basinGet b.val first.toNat n)))
  | .data b first bytes =>
    let p := (s.basin b.val).p
    let new := bytes.drop (p - first.toNat)
    if !s.listening || decide (p < first.toNat) || new.isEmpty || !s.hostBasin b.val ||
        decide (s.basinLimit b.val < p + new.length) then s
    else s.takeData b.val new

/-- A STAT frame that the far end of a chain returned reaches the active device (R612). -/
def State.relayedStat (s : State) (n : Nat) (f : List Byte) : State :=
  if tileSub f = 0 then s.tileStatus n f
  else if tileSub f = 1 then s.tileCap n f
  else if tileSub f = 2 then s.measFrame n f
  else s.tileLink n f

/-- A RELAY frame: a standby sends it into its end of the chain, but for SYNC, which it originates itself, and PRBS, which
leaves no hop, setting HEALON at the first; the active device consumes a STAT (R361, R399, R612). -/
def State.twinRelay (s : State) (n : Nat) (f : List Byte) : State :=
  if s.isStandby then
    if !s.laneUp n then s
    else
      let s := if s.rdb (pgTLNK n) R.TLNK_STAT_HEALED then s
        else (s.wr (pgTLNK n) R.TLNK_STAT_HEALED 1).raise pgTWIN 9 n
      let l := s.tl n
      if (tileType f = 4 ∧ tileSub f = 0) ∨ isPrbs (tileType f) (tileSub f) = true then s
      else s.setTl n { l with tx := l.tx ++ [f], txAt := s.now }
  else if s.isActive && s.twin.relay.contains n && tileType f = 6 then s.relayedStat n f
  else s

/-- An ALIGN: a standby sets its X0 offset and its stretch so that both equal the values sent at the pair tick given
(R589). One that reaches the active device asks for its ALIGN (log entry 90). -/
def State.twinAlign (s : State) (a : Align) : State :=
  if s.isStandby then
    let st := a.stretch.toInt * 65536
    let x := s.x0
    let s := s.setPos { s.pos with sFrom := st, sTo := st, sAt := none }
    let s := s.setPos { s.pos with off := s.pos.off + (x - s.x0) }
    s.setX0 (s.x0 + (a.x0.toInt * 256 - s.x0At (s.ownTick a.tick.toNat)))
  else s.sendAlign

/-! ### The Sluice and the takeover (R602 to R610) -/

/-- The outputs whose held level differs from their mirrored state set OUTDIFF (R610). -/
def State.outDiff (s : State) : State :=
  let m := Nat.xor s.mirrorOuts s.pio.pins.toNat
  if m = 0 then s else s.raise pgTWIN 15 m

/-- The lowest slot whose lines a bar's delay line still holds: the oldest line kept less the smallest row delay. -/
def State.lowestHeld (s : State) (b : Nat) : Int :=
  let lines := (s.barRast b).mapped.map fun e => (e.2 : Int) - 1
  match lines with
  | [] => (s.barF b).next
  | a :: t => t.foldl min a - s.kMin b

/-- FROMSLOT of a bar (R606). -/
def State.fromSlot (s : State) (b : Nat) : Int :=
  max (sgn 48 (mget 0 s.twin.peerCommitted b) + 1) (s.lowestHeld b)

/-- A bar sends its slots again from FROMSLOT on (R606). -/
def State.takeBar (s : State) (b : Nat) : State :=
  let f := s.fromSlot b
  let s := s.setTwin { s.twin with fromSlot := mput s.twin.fromSlot b (uns 48 f) }
  s.setBarF b { s.barF b with next := f }

/-- A heartbeat of a tick. -/
def beatAtTick (t : Nat) : Instr → Bool
  | .hbInPulse x => decide (x.toNat = t)
  | .twinHeart x _ crcOk _ => crcOk && decide (x.toNat = t)
  | _ => false

/-- A heartbeat of this tick that still waits will cancel a declaration for silence (R615). -/
def State.beatWaits (s : State) : Bool :=
  (match s.twin.declared with | some (1, _) => true | _ => false) && s.pending.any (beatAtTick s.now)

/-- The takeover once SLUICE_IN is low (R579, R604, R606, R607, R610). One that was held needs both paths still
silent. -/
def State.takeover (s : State) : State :=
  let ready := s.dev.state == .ready || s.inJob
  if s.twin.declared.isNone || s.twin.sluiceIn || !s.isStandby || !ready || s.beatWaits ||
      (s.twin.held && !(s.silent false && s.silent true)) then s
  else
    let bars := barsOf s.curBars
    let s := State.each State.takeBar s bars
    let s := s.setTwin { s.twin with declared := none, held := false, paired := false, peerC := [] }
    let s := ((s.becomeActive s.dev.state).setTwinState 4)
    let s := (s.raise pgTWIN 4 (s.rd pgTWIN R.TWIN_EPOCH)).epochSend.outDiff
    let s := s.wrSelf pgYRT R.YRT_CTL_LISTEN 0
    if bars.isEmpty then s.takeoverDone else s

/-- SLUICE_IN is still high SLUICEWAIT us after the declaration (R607). -/
def State.sluiceWait (s : State) : State :=
  match s.twin.declared with
  | none => s
  | some (_, at_) =>
    if s.twin.held || !s.twin.sluiceIn || decide (s.now < at_ + us (atLeast1 (s.rd pgTWIN R.TWIN_CFG_SLUICEWAIT))) then s
    else (s.setTwin { s.twin with held := true }).raise pgTWIN 12

/-- SLUICE_IN is seen at a level: an active device that has seen it high for 2 us (ROLE_SEL high) or 40 us enters
FENCED with cause 3 (R605). -/
def State.sluiceSeen (s : State) (level : Bool) : State :=
  let s := if level = s.twin.sluiceIn then s else s.setTwin { s.twin with sluiceIn := level, sluiceInAt := s.now }
  let limit := us (if s.rdb pgSYS R.SYS_STRAP_ROLE_SEL then 2 else 40)
  if level && s.isActive && decide (s.twin.sluiceInAt + limit ≤ s.now) then s.fence 3 pgTWIN 16 else s

/-- The monostable expires: SLUICE_OUT falls, and an active device enters FENCED with cause 3 (R602, R605). -/
def State.monoExpire (s : State) : State :=
  if !s.twin.sluiceOut || decide (s.now < s.twin.monoEnd) then s
  else
    let active := s.isActive
    let s := s.sluiceLow
    if active then s.fence 3 pgTWIN 16 else s

/-- The host release command: a FENCED device with SLUICE_IN low returns to READY as standby or solo. A standby whose
twin is PRINTING goes on in the job it has kept, from the next band with HIST 0; otherwise the job is discarded (R25,
R594; log entry 52). -/
def State.hostRelease (s : State) : State :=
  if s.dev.state ≠ .fenced || s.twin.sluiceIn then s
  else
    let s := (s.setTwin { s.twin with declared := none, held := false }).leaveStep
    if !s.pairMode then ((s.dropJobs.change .ready .solo s.dev.cause).setTwinState 0)
    else
      let s := s.setTwinState 2
      match s.jobs.cur with
      | some j =>
        if s.twin.peerState % 16 = 6 then
          let s := s.setCur { j with join := true }
          let s := State.each (fun s n => let x := s.dcp n; s.setDcp n { x with consumed := 0, histIn := [] }) s (List.range 40)
          (s.change .ready .standby s.dev.cause).goto .printing
        else s.dropJobs.change .ready .standby s.dev.cause
      | none => s.change .ready .standby s.dev.cause

/-! ### Health and lanes (R595, R612 to R614) -/

/-- The mask of a health period (R595). -/
def State.healthMask (s : State) : Nat :=
  let h := s.twin.health
  b2n (s.rdb pgTWIN R.TWIN_STAT_INSTEP) + 2 * b2n (decide (h.bad ≠ 0)) + 4 * b2n (decide (h.tilePrbs ≠ 0) || decide (h.twinPrbs ≠ 0)) +
    8 * b2n (decide (h.dramCorr ≠ 0)) + 16 * b2n (decide (h.sramCorr ≠ 0)) +
    32 * b2n ((List.range 8).any s.scDegraded) + 64 * b2n h.alarm + 128 * b2n h.gap

/-- The end of a health period (R595). -/
def State.healthPeriod (s : State) : State :=
  if !s.twinPowered || decide (s.now < s.twin.healthAt + ms (atLeast1 (s.rd pgTWIN R.TWIN_HLTHCFG_PERIOD))) then s
  else
    let s := s.dropOldSums
    let h := s.twin.health
    let m := s.healthMask
    let s := (s.wr pgTWIN R.TWIN_HEALTH0 h.ok).wr pgTWIN R.TWIN_HEALTH1_SUMBAD h.bad
    let s := (s.wr pgTWIN R.TWIN_HEALTH1_UNMATCHED h.unmatched).wr pgTWIN R.TWIN_HEALTH2_TILEPRBS h.tilePrbs
    let s := s.wr pgTWIN R.TWIN_HEALTH2_TWINPRBS h.twinPrbs
    let s := (s.wr pgTWIN R.TWIN_HEALTH3_MASK m).wr pgTWIN R.TWIN_HEALTH3_DRAMCORR h.dramCorr
    let s := s.wr pgTWIN R.TWIN_HEALTH3_SRAMCORR h.sramCorr
    (s.setTwin { s.twin with health := {}, healthAt := s.now }).raise pgTWIN 8 m

/-- A twin lane gains or loses lock; with both down a standby leaves step and every relay stops (R575, R593, R614). -/
def State.twinLock (s : State) (n : Nat) (locked : Bool) : State :=
  let f := if n = 0 then R.TWIN_STAT_LANE0 else R.TWIN_STAT_LANE1
  if !s.twinPowered || s.rdb pgTWIN f = locked then s
  else
    let s := (s.wr pgTWIN f (b2n locked)).raise pgTWIN (if locked then 0 else 1) n
    if s.anyTwin then s
    else (if s.isStandby then s.leaveStep else s).relayStop

end Sys2Proof.Machine
end

