-- ==== Sys2Proof/Machine/TwinCmds.lean ====
section
/-!
DEFINITION. The meanings of the commands of twin operation and failover (17).
-/
namespace Sys2Proof.Machine

/-- TWIN_HELLO (R582). A HELLO is received; the pair forms and roles are decided, or PAIRFAULT is set. -/
def execTwinHello (t : Tick) (_lane : Fin 2) (crcOk : Bool) (h : Hello) (s : State) : Host.Outcome State Fault Refusal
    :=
  s.does t (·.twinFrame crcOk fun s => s.twinHello h)

/-- TWIN_HEART (R578). A HEART updates the pair offset, epoch and committed slots, or declares failure on an
announcement. -/
def execTwinHeart (t : Tick) (_lane : Fin 2) (crcOk : Bool) (h : Heart) (s : State) : Host.Outcome State Fault Refusal
    :=
  s.does t (·.twinFrame crcOk fun s => s.twinHeart h)

/-- TWIN_SUM (R592). A SUM frame's slot summaries are compared with the standby's own. -/
def execTwinSum (t : Tick) (crcOk : Bool) (bar : Fin 8) (first : BitVec 48) (sums : List Word) (s : State) :
    Host.Outcome State Fault Refusal :=
  s.does t (·.twinFrame crcOk fun s => s.twinSum bar.val first.toNat sums)

/-- TWIN_DELTA (R584). A DELTA is applied: a mirror write, a nozzle write, a reading, basin counts or session state.
-/
def execTwinDelta (t : Tick) (crcOk : Bool) (seq : Word) (d : Delta) (s : State) : Host.Outcome State Fault Refusal :=
  s.does t (·.twinFrame crcOk fun s => s.twinDelta seq.toNat d)

/-- TWIN_FETCH (R590). A FETCH request is answered from the basin, or its data is taken by the standby. -/
def execTwinFetch (t : Tick) (crcOk : Bool) (f : Fetch) (s : State) : Host.Outcome State Fault Refusal :=
  s.does t (·.twinFrame crcOk fun s => s.twinFetch f)

/-- TWIN_RELAY (R612). A RELAY frame is sent into the far end of a chain, or a relayed STAT is consumed. -/
def execTwinRelay (t : Tick) (crcOk : Bool) (lane : Fin 40) (frame : List Byte) (s : State) : Host.Outcome State Fault
    Refusal :=
  s.does t (·.twinFrame crcOk fun s => s.twinRelay lane.val frame)

/-- TWIN_ALIGN (R589). An ALIGN sets the standby's X0 offset and stretch. -/
def execTwinAlign (t : Tick) (crcOk : Bool) (a : Align) (s : State) : Host.Outcome State Fault Refusal :=
  s.does t (·.twinFrame crcOk fun s => s.twinAlign a)

/-- TWIN_ALIGN_CMD (R589). TWIN_CMD.ALIGN makes the active device send ALIGN. -/
def execTwinAlignCmd (t : Tick) (m : Master) (s : State) : Host.Outcome State Fault Refusal :=
  s.does t (·.regCmd m pgTWIN R.TWIN_CMD (withBit 0#32 R.TWIN_CMD_ALIGN))

/-- DELTA_GAP_TIMEOUT (R576). A DELTA gap not filled within 1 ms is counted and the standby leaves step. -/
def execDeltaGapTimeout (t : Tick) (s : State) : Host.Outcome State Fault Refusal :=
  s.does t (·.gapTimeout)

/-- HEARTBEAT_ISSUE (R596). A heartbeat is issued on both paths every PERIOD µs when the device is live. -/
def execHeartbeatIssue (t : Tick) (s : State) : Host.Outcome State Fault Refusal :=
  s.does t (·.heartbeat)

/-- HEARTBEAT_PATH_SILENT (R597). A heartbeat path reaches its deadline; an alarm is raised, or failure is declared
when both are silent. -/
def execHeartbeatPathSilent (t : Tick) (pin : Bool) (s : State) : Host.Outcome State Fault Refusal :=
  s.does t (·.pathSilent pin)

/-- TAKEOVER (R606). With SLUICE_IN low, the standby becomes active, takes a new epoch and sends EPOCH, FIRE and PACE.
-/
def execTakeover (t : Tick) (s : State) : Host.Outcome State Fault Refusal :=
  s.does t (·.takeover)

/-- SLUICE_WAIT_TIMEOUT (R607). SLUICE_IN stays high SLUICEWAIT µs after the declaration and SLUICEHELD is set. -/
def execSluiceWaitTimeout (t : Tick) (s : State) : Host.Outcome State Fault Refusal :=
  s.does t (·.sluiceWait)

/-- SLUICE_IN_FENCE (R605). SLUICE_IN high for 2 µs or 40 µs fences an active device. -/
def execSluiceInFence (t : Tick) (level : Bool) (s : State) : Host.Outcome State Fault Refusal :=
  s.does t (·.sluiceSeen level)

/-- SLUICE_MONOSTABLE_EXPIRY (R602). The 20 µs monostable expires; SLUICE_OUT falls and an active device fences
itself. -/
def execSluiceMonostableExpiry (t : Tick) (s : State) : Host.Outcome State Fault Refusal :=
  s.does t (·.monoExpire)

/-- HOST_RELEASE (R25). The host release command returns a FENCED device to READY as standby or solo. -/
def execHostRelease (t : Tick) (_m : Master) (s : State) : Host.Outcome State Fault Refusal :=
  s.does t (·.hostRelease)

/-- TWIN_HANDOVER (R611). TWIN_CMD.HANDOVER announces reason 6, stops FIRE transmission and fences the device. -/
def execTwinHandover (t : Tick) (m : Master) (peerInStep : Bool) (s : State) : Host.Outcome State Fault Refusal :=
  s.does t (·.regCmd m pgTWIN R.TWIN_CMD (withBit 0#32 R.TWIN_CMD_HANDOVER) { inStep := some peerInStep })

/-- TWIN_HEALTH_PERIOD (R595). Each health period the TWIN_HEALTH registers are updated and HEALTH is set. -/
def execTwinHealthPeriod (t : Tick) (s : State) : Host.Outcome State Fault Refusal :=
  s.does t (·.healthPeriod)

/-- TWIN_LANE_LOCK (R575). A twin lane gains or loses lock. -/
def execTwinLaneLock (t : Tick) (lane : Fin 2) (locked : Bool) (s : State) : Host.Outcome State Fault Refusal :=
  s.does t (·.twinLock lane.val locked)

/-- HB_IN_PULSE (R597). A heartbeat pulse arrives on HB_IN_P/N and restarts the pin path's deadline, ending its
silence. -/
def execHbInPulse (t : Tick) (s : State) : Host.Outcome State Fault Refusal :=
  s.does t (·.pulseIn)

/-- HELLO_SEND (R575). A HELLO is sent on each twin lane every 1 ms until the pair forms. -/
def execHelloSend (t : Tick) (s : State) : Host.Outcome State Fault Refusal :=
  s.does t (·.helloSend)

end Sys2Proof.Machine
end

