-- ==== Sys2Proof/Machine/Dispatch.lean ====
section
/-!
DEFINITION. One arm for each command: its meaning, or its rejection by name.
-/
namespace Sys2Proof.Machine

def exec (i : Instr) (s : State) : Host.Outcome State Fault Refusal :=
  match i with
  | .pwrgoodRise t => Sys2Proof.Machine.execPwrgoodRise t s
  | .pwrgoodFall t => Sys2Proof.Machine.execPwrgoodFall t s
  | .resetNFall t => Sys2Proof.Machine.execResetNFall t s
  | .resetNRise t => Sys2Proof.Machine.execResetNRise t s
  | .loadStepComplete t r => Sys2Proof.Machine.execLoadStepComplete t r s
  | .buildStepComplete t r => Sys2Proof.Machine.execBuildStepComplete t r s
  | .enterReady t => Sys2Proof.Machine.execEnterReady t s
  | .registerWrite t m addr v => Sys2Proof.Machine.execRegisterWrite t m addr v s
  | .auditSpillCopy t ring => Sys2Proof.Machine.execAuditSpillCopy t ring s
  | .blockReset t m page => Sys2Proof.Machine.execBlockReset t m page s
  | .eventClear t m page v => Sys2Proof.Machine.execEventClear t m page v s
  | .applyCommit t m page v => Sys2Proof.Machine.execApplyCommit t m page v s
  | .applyDiscard t m page v => Sys2Proof.Machine.execApplyDiscard t m page v s
  | .mailboxSnapshot t m page item => Sys2Proof.Machine.execMailboxSnapshot t m page item s
  | .mailboxWrite t m page item => Sys2Proof.Machine.execMailboxWrite t m page item s
  | .svcRead t req => Sys2Proof.Machine.execSvcRead t req s
  | .svcWrite t req => Sys2Proof.Machine.execSvcWrite t req s
  | .svcUnknownOp t req => Sys2Proof.Machine.execSvcUnknownOp t req s
  | .svcAbort t req nbits => Sys2Proof.Machine.execSvcAbort t req nbits s
  | .hostFrameReceive t lane frame => Sys2Proof.Machine.execHostFrameReceive t lane frame s
  | .pauseReceive t lane quanta => Sys2Proof.Machine.execPauseReceive t lane quanta s
  | .pauseEnd t lane => Sys2Proof.Machine.execPauseEnd t lane s
  | .hostLaneUp t lane => Sys2Proof.Machine.execHostLaneUp t lane s
  | .hostLaneDown t lane => Sys2Proof.Machine.execHostLaneDown t lane s
  | .hostLaneReconfig t m lane v => Sys2Proof.Machine.execHostLaneReconfig t m lane v s
  | .ingestDrain t lane => Sys2Proof.Machine.execIngestDrain t lane s
  | .creditPeriodic t lane => Sys2Proof.Machine.execCreditPeriodic t lane s
  | .yrtOpen t lane => Sys2Proof.Machine.execYrtOpen t lane s
  | .yrtProve t lane => Sys2Proof.Machine.execYrtProve t lane s
  | .proveTimeout t sess => Sys2Proof.Machine.execProveTimeout t sess s
  | .authfailHoldExpiry t => Sys2Proof.Machine.execAuthfailHoldExpiry t s
  | .yrtClose t lane => Sys2Proof.Machine.execYrtClose t lane s
  | .yrtData t lane => Sys2Proof.Machine.execYrtData t lane s
  | .yrtRegreq t lane => Sys2Proof.Machine.execYrtRegreq t lane s
  | .yrtRead t lane => Sys2Proof.Machine.execYrtRead t lane s
  | .yrtNakReceive t lane => Sys2Proof.Machine.execYrtNakReceive t lane s
  | .yrtAckReceive t lane => Sys2Proof.Machine.execYrtAckReceive t lane s
  | .yrtInvalidFrame t lane => Sys2Proof.Machine.execYrtInvalidFrame t lane s
  | .gapNakRepeat t sess => Sys2Proof.Machine.execGapNakRepeat t sess s
  | .yrtRetransmitTimeout t sess => Sys2Proof.Machine.execYrtRetransmitTimeout t sess s
  | .delayedAck t sess => Sys2Proof.Machine.execDelayedAck t sess s
  | .sessionIdleTimeout t sess => Sys2Proof.Machine.execSessionIdleTimeout t sess s
  | .sessionCloseCmd t m sess => Sys2Proof.Machine.execSessionCloseCmd t m sess s
  | .otpChangeGo t m setting => Sys2Proof.Machine.execOtpChangeGo t m setting s
  | .otpRecordDone t => Sys2Proof.Machine.execOtpRecordDone t s
  | .ptpSyncReceive t msg => Sys2Proof.Machine.execPtpSyncReceive t msg s
  | .ptpFollowUpReceive t msg => Sys2Proof.Machine.execPtpFollowUpReceive t msg s
  | .ptpDelayRespReceive t msg => Sys2Proof.Machine.execPtpDelayRespReceive t msg s
  | .ptpAnnounceReceive t msg => Sys2Proof.Machine.execPtpAnnounceReceive t msg s
  | .delayReqSend t launch => Sys2Proof.Machine.execDelayReqSend t launch s
  | .followUpTimeout t => Sys2Proof.Machine.execFollowUpTimeout t s
  | .syncTimeout t => Sys2Proof.Machine.execSyncTimeout t s
  | .announceTimeout t => Sys2Proof.Machine.execAnnounceTimeout t s
  | .delayRespTimeout t => Sys2Proof.Machine.execDelayRespTimeout t s
  | .ppsInEdge t rising => Sys2Proof.Machine.execPpsInEdge t rising s
  | .ppsMissTimeout t => Sys2Proof.Machine.execPpsMissTimeout t s
  | .timeArm t m v => Sys2Proof.Machine.execTimeArm t m v s
  | .timeFree t m v => Sys2Proof.Machine.execTimeFree t m v s
  | .timeModeChange t m v => Sys2Proof.Machine.execTimeModeChange t m v s
  | .hostTimeStep t m step => Sys2Proof.Machine.execHostTimeStep t m step s
  | .hostRateWrite t m rate => Sys2Proof.Machine.execHostRateWrite t m rate s
  | .tickConvert t m tick => Sys2Proof.Machine.execTickConvert t m tick s
  | .trefLoss t => Sys2Proof.Machine.execTrefLoss t s
  | .ppsOutPulseStart t => Sys2Proof.Machine.execPpsOutPulseStart t s
  | .ppsOutPulseEnd t => Sys2Proof.Machine.execPpsOutPulseEnd t s
  | .captureCellEdge t source rising => Sys2Proof.Machine.execCaptureCellEdge t source rising s
  | .frameLaunch t lane => Sys2Proof.Machine.execFrameLaunch t lane s
  | .posEdgeCapture t input level => Sys2Proof.Machine.execPosEdgeCapture t input level s
  | .edgeHoldExpiry t input => Sys2Proof.Machine.execEdgeHoldExpiry t input s
  | .standstillTimeout t => Sys2Proof.Machine.execStandstillTimeout t s
  | .standstillDeclare t => Sys2Proof.Machine.execStandstillDeclare t s
  | .stretchWindow t => Sys2Proof.Machine.execStretchWindow t s
  | .ssnRequest t sensor => Sys2Proof.Machine.execSsnRequest t sensor s
  | .ssnWordReceive t sensor w => Sys2Proof.Machine.execSsnWordReceive t sensor w s
  | .ssnWordTimeout t sensor => Sys2Proof.Machine.execSsnWordTimeout t sensor s
  | .clearEncoderFault t m enc => Sys2Proof.Machine.execClearEncoderFault t m enc s
  | .clearHallFault t m => Sys2Proof.Machine.execClearHallFault t m s
  | .clearSsnFault t m sensor => Sys2Proof.Machine.execClearSsnFault t m sensor s
  | .posEnableWrite t m en => Sys2Proof.Machine.execPosEnableWrite t m en s
  | .posX0Write t m x0 => Sys2Proof.Machine.execPosX0Write t m x0 s
  | .commandRecordWait t => Sys2Proof.Machine.execCommandRecordWait t s
  | .jobRecord t => Sys2Proof.Machine.execJobRecord t s
  | .haltRecord t => Sys2Proof.Machine.execHaltRecord t s
  | .resumeRecord t => Sys2Proof.Machine.execResumeRecord t s
  | .abortRecord t => Sys2Proof.Machine.execAbortRecord t s
  | .endRecord t => Sys2Proof.Machine.execEndRecord t s
  | .hostHalt t m v => Sys2Proof.Machine.execHostHalt t m v s
  | .hostResume t m v => Sys2Proof.Machine.execHostResume t m v s
  | .hostAbort t m v => Sys2Proof.Machine.execHostAbort t m v s
  | .jobStart t => Sys2Proof.Machine.execJobStart t s
  | .jobEnd t => Sys2Proof.Machine.execJobEnd t s
  | .basinEnable t m b v => Sys2Proof.Machine.execBasinEnable t m b v s
  | .basinDisable t m b v => Sys2Proof.Machine.execBasinDisable t m b v s
  | .basinConsume t m b value => Sys2Proof.Machine.execBasinConsume t m b value s
  | .bandLand t queued => Sys2Proof.Machine.execBandLand t queued s
  | .decodeLine t ch => Sys2Proof.Machine.execDecodeLine t ch s
  | .lineDue t ch => Sys2Proof.Machine.execLineDue t ch s
  | .cmpStart t m ch v => Sys2Proof.Machine.execCmpStart t m ch v s
  | .cmpResume t m ch v => Sys2Proof.Machine.execCmpResume t m ch v s
  | .cmpAbort t m ch v => Sys2Proof.Machine.execCmpAbort t m ch v s
  | .cmpSave t m ch v => Sys2Proof.Machine.execCmpSave t m ch v s
  | .cmpRestore t m ch v => Sys2Proof.Machine.execCmpRestore t m ch v s
  | .cmpSaveDone t ch => Sys2Proof.Machine.execCmpSaveDone t ch s
  | .cmpRestoreDone t ch => Sys2Proof.Machine.execCmpRestoreDone t ch s
  | .cmpBlockDone t ch => Sys2Proof.Machine.execCmpBlockDone t ch s
  | .mapBarLine t bar => Sys2Proof.Machine.execMapBarLine t bar s
  | .nozzleTableWrite t m bar v => Sys2Proof.Machine.execNozzleTableWrite t m bar v s
  | .thresholdTableWrite t m v => Sys2Proof.Machine.execThresholdTableWrite t m v s
  | .fireFrameSend t bar => Sys2Proof.Machine.execFireFrameSend t bar s
  | .paceFrameLaunch t => Sys2Proof.Machine.execPaceFrameLaunch t s
  | .tileStatus t lane frame => Sys2Proof.Machine.execTileStatus t lane frame s
  | .tempStale t bar tile => Sys2Proof.Machine.execTempStale t bar tile s
  | .inspectionMarkStart t => Sys2Proof.Machine.execInspectionMarkStart t s
  | .inspectionMarkEnd t => Sys2Proof.Machine.execInspectionMarkEnd t s
  | .tileCap t lane frame => Sys2Proof.Machine.execTileCap t lane frame s
  | .tileLinkReport t lane frame => Sys2Proof.Machine.execTileLinkReport t lane frame s
  | .timeEcho t lane frame => Sys2Proof.Machine.execTimeEcho t lane frame s
  | .otherDeviceFrame t lane frame => Sys2Proof.Machine.execOtherDeviceFrame t lane frame s
  | .laneBringup t m lane v => Sys2Proof.Machine.execLaneBringup t m lane v s
  | .laneLock t lane valid => Sys2Proof.Machine.execLaneLock t lane valid s
  | .laneLockLoss t lane => Sys2Proof.Machine.execLaneLockLoss t lane s
  | .rateSwitchTimeout t lane => Sys2Proof.Machine.execRateSwitchTimeout t lane s
  | .trainDwellEnd t lane => Sys2Proof.Machine.execTrainDwellEnd t lane s
  | .laneUp t lane => Sys2Proof.Machine.execLaneUp t lane s
  | .timeSyncSend t lane => Sys2Proof.Machine.execTimeSyncSend t lane s
  | .timeProbeSend t lane => Sys2Proof.Machine.execTimeProbeSend t lane s
  | .epochSend t => Sys2Proof.Machine.execEpochSend t s
  | .idleSend t lane => Sys2Proof.Machine.execIdleSend t lane s
  | .idlePrbsSend t lane => Sys2Proof.Machine.execIdlePrbsSend t lane s
  | .chainBreak t lane hop farUp => Sys2Proof.Machine.execChainBreak t lane hop farUp s
  | .measIssue t bar tile => Sys2Proof.Machine.execMeasIssue t bar tile s
  | .measResult t lane frame => Sys2Proof.Machine.execMeasResult t lane frame s
  | .measTimeout t bar tile => Sys2Proof.Machine.execMeasTimeout t bar tile s
  | .hlthRebase t m bar v => Sys2Proof.Machine.execHlthRebase t m bar v s
  | .hlthClrsum t m bar v => Sys2Proof.Machine.execHlthClrsum t m bar v s
  | .warmupCheck t bar => Sys2Proof.Machine.execWarmupCheck t bar s
  | .sbBacked t => Sys2Proof.Machine.execSbBacked t s
  | .sbReturning t => Sys2Proof.Machine.execSbReturning t s
  | .sbRetry t bar => Sys2Proof.Machine.execSbRetry t bar s
  | .sbRearmCmd t m v => Sys2Proof.Machine.execSbRearmCmd t m v s
  | .camLineComplete t port cycles => Sys2Proof.Machine.execCamLineComplete t port cycles s
  | .camFrameStart t port => Sys2Proof.Machine.execCamFrameStart t port s
  | .camPclkLoss t port => Sys2Proof.Machine.execCamPclkLoss t port s
  | .camTrigger t port => Sys2Proof.Machine.execCamTrigger t port s
  | .camSoftwareTrigger t m port v => Sys2Proof.Machine.execCamSoftwareTrigger t m port v s
  | .camTriggerPulseEnd t port => Sys2Proof.Machine.execCamTriggerPulseEnd t port s
  | .pipelineLine t => Sys2Proof.Machine.execPipelineLine t s
  | .camTableSwap t m v => Sys2Proof.Machine.execCamTableSwap t m v s
  | .loopCycle t bar => Sys2Proof.Machine.execLoopCycle t bar s
  | .loopRelearn t m v => Sys2Proof.Machine.execLoopRelearn t m v s
  | .loopResetint t m v => Sys2Proof.Machine.execLoopResetint t m v s
  | .loopRebase t m v => Sys2Proof.Machine.execLoopRebase t m v s
  | .weirPeriodStart t speed => Sys2Proof.Machine.execWeirPeriodStart t speed s
  | .weirAdmit t act txn => Sys2Proof.Machine.execWeirAdmit t act txn s
  | .weirFloorOverride t m v => Sys2Proof.Machine.execWeirFloorOverride t m v s
  | .dramCommandSlot t sc wr rd => Sys2Proof.Machine.execDramCommandSlot t sc wr rd s
  | .dramReadData t sc ecc => Sys2Proof.Machine.execDramReadData t sc ecc s
  | .caParityError t sc code => Sys2Proof.Machine.execCaParityError t sc code s
  | .refreshIntervalEnd t sc => Sys2Proof.Machine.execRefreshIntervalEnd t sc s
  | .retrainStepDone t sc ok rd wr vref centre => Sys2Proof.Machine.execRetrainStepDone t sc ok rd wr vref centre s
  | .scrubRead t sc => Sys2Proof.Machine.execScrubRead t sc s
  | .pageIdlePrecharge t sc bank => Sys2Proof.Machine.execPageIdlePrecharge t sc bank s
  | .freezeRelease t m v => Sys2Proof.Machine.execFreezeRelease t m v s
  | .freezeReleaseDone t fail margins => Sys2Proof.Machine.execFreezeReleaseDone t fail margins s
  | .sramScrub t site uncorrectable => Sys2Proof.Machine.execSramScrub t site uncorrectable s
  | .chkTapByte t src inst byte first last expected => Sys2Proof.Machine.execChkTapByte t src inst byte first last expected s
  | .chkPreset t m n v => Sys2Proof.Machine.execChkPreset t m n v s
  | .chkEnable t m n v => Sys2Proof.Machine.execChkEnable t m n v s
  | .chkValueWrite t m item value => Sys2Proof.Machine.execChkValueWrite t m item value s
  | .twinHello t lane crcOk h => Sys2Proof.Machine.execTwinHello t lane crcOk h s
  | .twinHeart t lane crcOk h => Sys2Proof.Machine.execTwinHeart t lane crcOk h s
  | .twinSum t crcOk bar first sums => Sys2Proof.Machine.execTwinSum t crcOk bar first sums s
  | .twinDelta t crcOk seq d => Sys2Proof.Machine.execTwinDelta t crcOk seq d s
  | .twinFetch t crcOk f => Sys2Proof.Machine.execTwinFetch t crcOk f s
  | .twinRelay t crcOk lane frame => Sys2Proof.Machine.execTwinRelay t crcOk lane frame s
  | .twinAlign t crcOk a => Sys2Proof.Machine.execTwinAlign t crcOk a s
  | .twinAlignCmd t m => Sys2Proof.Machine.execTwinAlignCmd t m s
  | .deltaGapTimeout t => Sys2Proof.Machine.execDeltaGapTimeout t s
  | .heartbeatIssue t => Sys2Proof.Machine.execHeartbeatIssue t s
  | .heartbeatPathSilent t pin => Sys2Proof.Machine.execHeartbeatPathSilent t pin s
  | .takeover t => Sys2Proof.Machine.execTakeover t s
  | .sluiceWaitTimeout t => Sys2Proof.Machine.execSluiceWaitTimeout t s
  | .sluiceInFence t level => Sys2Proof.Machine.execSluiceInFence t level s
  | .sluiceMonostableExpiry t => Sys2Proof.Machine.execSluiceMonostableExpiry t s
  | .hostRelease t m => Sys2Proof.Machine.execHostRelease t m s
  | .twinHandover t m peerInStep => Sys2Proof.Machine.execTwinHandover t m peerInStep s
  | .twinHealthPeriod t => Sys2Proof.Machine.execTwinHealthPeriod t s
  | .twinLaneLock t lane locked => Sys2Proof.Machine.execTwinLaneLock t lane locked s
  | .thermalSample t sensor count peerInStep => Sys2Proof.Machine.execThermalSample t sensor count peerInStep s
  | .thermalLimitWrite t m dram v => Sys2Proof.Machine.execThermalLimitWrite t m dram v s
  | .avsInterval t mvOut iOut failures pecFails => Sys2Proof.Machine.execAvsInterval t mvOut iOut failures pecFails s
  | .pmbAlert t statusWord failures pecFails => Sys2Proof.Machine.execPmbAlert t statusWord failures pecFails s
  | .avsOverrideWrite t m v failures pecFails => Sys2Proof.Machine.execAvsOverrideWrite t m v failures pecFails s
  | .avsEnable t m v => Sys2Proof.Machine.execAvsEnable t m v s
  | .pioInputTransition t input level => Sys2Proof.Machine.execPioInputTransition t input level s
  | .pioEdgeAccept t input => Sys2Proof.Machine.execPioEdgeAccept t input s
  | .hbInPulse t => Sys2Proof.Machine.execHbInPulse t s
  | .trefReturn t => Sys2Proof.Machine.execTrefReturn t s
  | .camPclkReturn t port => Sys2Proof.Machine.execCamPclkReturn t port s
  | .camFrameEnd t port => Sys2Proof.Machine.execCamFrameEnd t port s
  | .laneHuntTimeout t lane => Sys2Proof.Machine.execLaneHuntTimeout t lane s
  | .prbsFrameReceive t lane frame => Sys2Proof.Machine.execPrbsFrameReceive t lane frame s
  | .adaptationStep t lane fom => Sys2Proof.Machine.execAdaptationStep t lane fom s
  | .helloSend t => Sys2Proof.Machine.execHelloSend t s
  | .vio33Rise t => Sys2Proof.Machine.execVio33Rise t s

end Sys2Proof.Machine
end

