-- ==== Sys2Proof/Safety.lean ====
section
/-!
DEFINITION. What claims call a safe state: conditions that the rules state for as long as they hold.
-/
namespace Sys2Proof.Machine

/-- In a side state other than HALTED, SLUICE_OUT is released (R31). -/
def State.sluiceReleased (s : State) : Prop := s.sideState = true → s.twin.sluiceOut = false

/-- In FENCED, FROZEN and SAFE no MEAS command is outstanding (R407). -/
def State.noMeas (s : State) : Prop := s.sideState = true → ∀ e ∈ s.tileHealth, e.2.out = none

/-- While the device drives its outputs, every pin follows its source (R682 to R684). -/
def State.pinsFollow (s : State) : Prop :=
  s.outsAllowed = true → ∀ n, n < 16 → ∀ l, s.outLevel n = some l → s.pio.pins.getLsbD n = l

/-- The pages with a register that an event record or the end of a command can change: the count of omitted records
(BASN_RDROP), the mismatch count of the check channels (CHK_MISCNT) and the status of the colour loop (LOOP_STAT). -/
def sidePage (pg : Nat) : Bool := pg == pgBASNW || pg == pgCHK || pg == pgLOOP

/-- What neither an event record nor what follows every command can change. Left out are: event flags, basins and the
memory behind them, check channels, session queues and host lanes (an event record reaches these: R72 to R78, R220,
R563), the registers of the side pages, the window of the tick and the samples taken early (R86, R111), the free counter, the flags of the handshake and the queue of commands, outstanding MEAS commands (R407), what
the device sends to its twin and the drive of the Sluice (R31, R575, R590), the hold of the colour loop (R497) and the
levels at the output pins (R684). -/
def State.inner (s : State) : State := { s with
  regs := mfilter (fun a => !sidePage (pageOf a)) s.regs, hdr := [], basins := [], mem := [], chk := {}, sess := [],
  lanes := [], win := {}, early := [], free := 0, raised := [], pending := [], tileHealth := [],
  twin := { s.twin with tx := [], txAt := [], kept := [], deltaTx := 0, sluiceOut := false, monoEnd := 0 },
  loop := { s.loop with held := false, h := none },
  pio := { s.pio with pins := 0#16, pinsWas := none } }

/-- Whether an event flag of a page is set. -/
def State.flag (s : State) (pg flag : Nat) : Bool := (s.head pg).flags.getLsbD flag

/-- A command runs under a condition: at every tick `t` and in every state that meets the condition once its counter
reads `t`, `exec` ANSWERS A NEXT STATE, the one that the effect makes, followed by what follows every command. -/
def Runs (c : Tick → Instr) (cond : State → Prop) (eff : State → State) : Prop :=
  ∀ (t : Tick) (s : State), cond (s.atTick t) → exec (c t) s = .next ((eff (s.atTick t)).after s)

/-- A condition that some state meets once its counter reads a tick: the hypothesis of `Runs` is not empty. -/
def Possible (cond : State → Prop) : Prop := ∃ (t : Tick) (s : State), cond (s.atTick t)

/-- A write by a master passes the checks before the block sees it: the page exists and answers, its unit is present,
the word is aligned, and neither privilege nor the role of the device refuses the master (R2, R35, R42, R43, R585, R661). -/
def State.takes (s : State) (m : Master) (addr : Nat) (k : PageKind) (inst : Nat) : Bool :=
  pageKind (pageNo addr) == some (k, inst) && addr % 4 == 0 && s.pageAnswers k && !s.absent k inst (pageOff addr) true &&
    !(m == .twin && !k.mirror) && !(privOffset k (pageOff addr) && !s.privileged m) &&
    !(isHost m && k.mirror && s.isStandby)

/-- A write of a block register passes the checks and an audit entry that it must write has room (R97). -/
def State.accepts (s : State) (m : Master) (addr : Nat) (k : PageKind) (inst : Nat) : Bool :=
  s.takes m addr k inst && !(privOffset k (pageOff addr) && m != .engine && s.auditFull m)

/-- The fields of a register are stored: RW and CNT fields at once, RWS fields by their class (R33, R79). -/
def State.stored (s : State) (pg : Nat) (f : Fld) (v : Word) : State :=
  match regAt (fieldAddr pg f) with
  | some d => s.putReg pg (fieldAddr pg f) d v
  | none => s

/-- What an accepted write of a block register brings besides what its block does, `s` being the state before it: the
address register of a table window, the audit entry of a privileged register (R94), the image for the standby (R584). -/
def State.acceptedBy (t s : State) (m : Master) (k : PageKind) (inst addr : Nat) (v : Word) : State :=
  let t := t.windowNext k addr
  let t := if privOffset k (pageOff addr) && m != .engine then t.audit m addr v.toNat (s.oldValue m k inst addr) 0 else t
  t.mirrorWrite m k addr v.toNat s.isActive

/-- The mailbox of a master on a page after a value has been written to PG_MBXD0 to PG_MBXD3, word by word (R71). -/
def State.mbxLoaded (s : State) (m : Master) (pg value : Nat) : State :=
  (List.range 4).foldl (fun z i => z.writeData m pg i (bitsOf value (32 * i) 32)) s

/-- The state after an accepted mailbox write: what the block makes of the value, with the mailbox of the master VALID and
its SEQ one further (R71). -/
def State.mbxDone (s : State) (m : Master) (pg : Nat) (k : PageKind) (inst item : Nat) : State :=
  (s.itemWrite k inst item (s.mbx pg m).data.toNat).2.setMbx pg m ((s.mbx pg m).done item true (s.mbxShown k item (s.mbx pg m)))

/-- The mailbox of a master on a page with a twin image after a value has been written, word by word; an active device
passes each word on to its standby (R71, R584). -/
def State.mbxLoadedOn (s : State) (m : Master) (pg : Nat) (k : PageKind) (value : Nat) : State :=
  (List.range 4).foldl (fun z i => (z.writeData m pg i (bitsOf value (32 * i) 32)).mirrorWrite m k
    (headAddr pg (0x28 + 4 * i)) (bitsOf value (32 * i) 32) s.isActive) s

/-- The device takes records, and the next one it takes lies in basin `b`, is sound and has a TYPE (R231 to R234, R715). -/
def State.recordIs (s : State) (b type : Nat) : Prop :=
  s.takesRecords = true ∧ s.nextRecord s.jobs.order [] = some b ∧ recordCrc (s.recordAt b) = true ∧
    recordOk (s.recordAt b) = true ∧ byteAt (s.recordAt b) 0 = type

/-- The oldest frame drained from a host lane is of a kind and names an open session of its lane and address, in a device
that does not only listen (R204, R590). -/
def State.yrtFor (s : State) (n kind : Nat) (x : RxFrame) (rest : List RxFrame) : Prop :=
  let y := parseYrt x.bytes
  (s.lane n).rx = x :: rest ∧ y.kind = kind ∧ s.listening = false ∧ y.sess < 8 ∧ (s.session y.sess).open_ = true ∧
    (s.session y.sess).lane = n ∧ (s.session y.sess).mac = y.mac

/-- That frame is taken: its session has heard from the host, and its ACKSEQ counts (R60, R210). -/
def State.yrtTaken (s : State) (n : Nat) (x : RxFrame) (rest : List RxFrame) : State :=
  let y := parseYrt x.bytes
  let z := s.setLane n { s.lane n with rx := rest }
  (z.setSession y.sess { z.session y.sess with lastRx := z.now }).takeAck y.sess y.ack

/-- That frame is the one that its session expects next (R205). -/
def State.yrtInSeq (s : State) (n kind : Nat) (x : RxFrame) (rest : List RxFrame) : Prop :=
  s.yrtFor n kind x rest ∧ (parseYrt x.bytes).seq = ((s.yrtTaken n x rest).session (parseYrt x.bytes).sess).expected

/-- A STAT frame of a subtype that passes R366, for the devices and from a fitted position, arrives on a lane in use
(R366, R397). -/
def State.statFor (s : State) (n sub p : Nat) (f : List Byte) : Prop :=
  s.laneOn n = true ∧ s.lstate n ≠ 0 ∧ State.tileGood n f = true ∧ tileType f = 6 ∧ tileSub f = sub ∧ tileDest f = 0xE ∧
    tileSrc f = p ∧ p < s.nfit n

/-- Its epoch is noted, and a standby that heals the chain passes it on (R390, R399, R612). -/
def State.statSeen (s : State) (n p : Nat) (f : List Byte) : State :=
  let z := s.sawEpoch (leAt f 4 4)
  if z.isStandby && z.rdb (pgTLNK n) R.TLNK_STAT_HEALED && !z.beyond n p then z.twinSend (.relay n f) else z

/-- The conditions together. -/
def State.safe (s : State) : Prop := s.sluiceReleased ∧ s.noMeas ∧ s.pinsFollow

end Sys2Proof.Machine
end

