-- ==== Sys2Proof/Certificates/Slice0/Obligations.lean ====
section
/-!
DEFINITION. The statements for the provers. The form of most is `Runs` (Safety.lean): under a condition on the state and
the operands alone, exec of the command answers a next state, and which one. The frame of a command is said by that equation:
the next state is a record update of the state before, so every register, flag and byte that the update does not name is
unchanged. What follows every command (`State.after`) is said by `AfterKeeps`.
-/
open Sys2Proof Sys2Proof.Machine

/-! ### Machine -/

/-- A STEP RUNS THE COMMAND AT THE FRONT: for every command and state, step of the state with the command at the front of
its queue is exec of it on the state with the queue's rest. An empty queue idles (the model's choice, log entry 2). -/
def Obligations.StepTakesFront : Prop :=
  (∀ (c : Instr) (q : List Instr) (s : State), step { s with pending := c :: q } = exec c { s with pending := q }) ∧
  ∀ s : State, s.pending = [] → step s = .next s

/-- EVERY COMMAND ANSWERS A NEXT STATE, in every state, and leaves the queue of commands as it found it (log entry 1). -/
def Obligations.EveryCommandAnswers : Prop :=
  ∀ (c : Instr) (s : State), ∃ w, exec c s = .next w ∧ w.pending = s.pending

/-- A SAFE STATE STAYS SAFE (R31, R407, R683, R684). Whatever command runs, in the next state SLUICE_OUT is released and no
MEAS command is outstanding in FENCED, FROZEN and SAFE, and while the outputs are driven every pin follows its source. -/
def Obligations.StepKeepsSafe : Prop := ∀ s w : State, s.safe → step s = .next w → w.safe

/-- The state after reset is safe. -/
def Obligations.ResetSafe : Prop := State.reset.safe

/-- WHAT RESET LEAVES (R25, R36 to R38, R84, R93, R301, R659 and the register tables): the device is in RESET with an undecided
role, no flag is set, no session is open, no basin is enabled, every nozzle entry reads 0x1000_0000 and BAR_MAP is the
identity. That PWRGOOD is high and the part is an ET822-8T is the model's choice (log entry 5). -/
def Obligations.ResetValues : Prop :=
  State.reset.dev.state = .reset ∧ State.reset.dev.role = .undecided ∧ State.reset.sysState = 0x31 ∧
  (∀ pg, State.reset.head pg = {}) ∧ (∀ k, (State.reset.session k).open_ = false) ∧
  (∀ b, b < 32 → State.reset.basinOn b = false) ∧ (∀ b i, State.reset.nozzle b i = 0x10000000) ∧
  State.reset.priv.barMap = 0x76543210 ∧ State.reset.word (fieldAddr pgPRIV R.PRIV_OTPLEFT) = 0x08202010#32 ∧
  (∀ a, State.reset.word a = regReset a) ∧ State.reset.pending = []

/-- THE DRAM STORE. A byte written is read back and every other address reads as before, over any run of bytes, and the
store keeps its one canonical form. That an untouched byte reads 0x00 is the model's choice (log entry 3). -/
def Obligations.MemoryLaws : Prop :=
  ∀ (m : List Host.Cell) (a : Nat) (bs : List Byte),
    (∀ b, memByte (memPuts m a bs) b = if a ≤ b ∧ b < a + bs.length then bs.getD (b - a) 0#8 else memByte m b) ∧
    memBytes (memPuts m a bs) a bs.length = bs ∧ (Memory.wf m = true → Memory.wf (memPuts m a bs) = true)

/-- SETTING AN EVENT FLAG (R72). The one operation that sets a flag (`State.raiseRaw`, of every page): the flag is set, set
before or not, SEQ advances by 1 modulo 256, the flag remembers the new value, and every other flag of the page keeps its
own, as do the headers of all other pages. `State.raiseNow`, which lets the record pass tap 0x03 as well, says the same of
every page but CHK, whose channels may see the record, and changes nothing of the state besides but what a record reaches. -/
def Obligations.FlagSetting : Prop :=
  ∀ (s : State) (pg flag d : Nat), flag < 24 →
    (((s.raiseRaw pg flag d).2.head pg).flags = (s.head pg).flags ||| BitVec.ofNat 24 (2 ^ flag) ∧
     ((s.raiseRaw pg flag d).2.head pg).seq = (s.head pg).seq + 1#8 ∧
     mget 0#8 ((s.raiseRaw pg flag d).2.head pg).rem flag = (s.head pg).seq + 1#8 ∧
     (∀ f, f ≠ flag → mget 0#8 ((s.raiseRaw pg flag d).2.head pg).rem f = mget 0#8 (s.head pg).rem f) ∧
     ∀ q, q ≠ pg → (s.raiseRaw pg flag d).2.head q = s.head q) ∧
    (pg ≠ pgCHK →
      ((s.raiseNow pg flag d).head pg).flags = (s.head pg).flags ||| BitVec.ofNat 24 (2 ^ flag) ∧
      ((s.raiseNow pg flag d).head pg).seq = (s.head pg).seq + 1#8 ∧
      mget 0#8 ((s.raiseNow pg flag d).head pg).rem flag = (s.head pg).seq + 1#8 ∧
      (∀ f, f ≠ flag → mget 0#8 ((s.raiseNow pg flag d).head pg).rem f = mget 0#8 (s.head pg).rem f) ∧
      (∀ q, q ≠ pg → q ≠ pgCHK → (s.raiseNow pg flag d).head q = s.head q) ∧ (s.raiseNow pg flag d).inner = s.inner)

/-- THE FLAGS OF ONE HANDSHAKE (R73). A command notes the flags it sets; at its end they are set, each once for each time it was
noted and no other, in ascending order of flag number, those of one number as they were noted, and none stays noted. -/
def Obligations.FlagOrder : Prop :=
  (∀ l : List (Nat × Nat × Nat), (flagOrder l).Perm l ∧ (flagOrder l).Pairwise (fun a b => a.2.1 ≤ b.2.1) ∧
    ∀ f, (flagOrder l).filter (fun e => e.2.1 == f) = l.filter fun e => e.2.1 == f) ∧
  (∀ s : State, s.raiseAll = ({ s with raised := [] } : State).raiseList (flagOrder s.raised)) ∧
  ∀ e s : State, (e.after s).raised = [] ∧ ∀ r ∈ e.raised, r.2.1 < 24 → (e.after s).flag r.1 r.2.1 = true

/-- WHERE AN EVENT RECORD GOES (R76 to R78, R213). A flag whose event basin is not enabled, not device-produced or short of
space writes no byte of DRAM; every byte outside the event basin reads as before in every case. -/
def Obligations.EventRecordPlace : Prop :=
  ∀ (s : State) (pg flag d : Nat),
    (s.canProduce (s.head pg).eventBasin 32 = false → (s.raiseNow pg flag d).mem = s.mem) ∧
    ∀ a, (∀ n, a ≠ s.basinAddr (s.head pg).eventBasin n) →
      (∀ n, a ≠ s.basinAddr (s.head pgCHK).eventBasin n) → memByte (s.raiseNow pg flag d).mem a = memByte s.mem a

/-- WHAT FOLLOWS EVERY COMMAND CHANGES NO MORE THAN IT NAMES. Beside the queue, what a command has made of the state is
changed only by a record of a flag of the colour loop, CREDITs, HELLO and session DELTAs, the loop's hold, the pins, the Sluice and
discarded MEAS commands (`State.inner` names the rest); no event flag is cleared, and no page but LOOP, CHK and BASNW has
a register changed. -/
def Obligations.AfterKeeps : Prop :=
  ∀ e s : State, (e.after s).inner = e.inner ∧ (e.after s).pending = s.pending ∧
    (∀ pg f, e.flag pg f = true → (e.after s).flag pg f = true) ∧
    ∀ a, sidePage (pageOf a) = false → (e.after s).word a = e.word a

/-- THE CHECKS OF A REGISTER WRITE (R35, R42 to R44, R585, R661). A write to an address that no page occupies is ignored; a write
of a privileged register by an unprivileged master, of a page without a twin image by TWIN, and of a mirror page of a
standby by the host are refused: the write counts in PRIV_REFUSED, sets REFUSED of the page and enters the audit log with 0x07. -/
def Obligations.WriteChecks : Prop :=
  (∀ (m : Master) (a : BitVec 24) (v : Word), pageKind (pageNo a.toNat) = none →
    Runs (.registerWrite · m a v) (fun _ => True) (fun u => u)) ∧
  (∀ (m : Master) (a : BitVec 24) (v : Word) (k : PageKind) (n : Nat), pageKind (pageNo a.toNat) = some (k, n) →
    a.toNat % 4 = 0 →
    Runs (.registerWrite · m a v) (fun u => u.pageAnswers k = true ∧ u.absent k n (pageOff a.toNat) true = false ∧
        ((m = .twin ∧ k.mirror = false) ∨ (privOffset k (pageOff a.toNat) = true ∧ u.privileged m = false) ∨
          (isHost m = true ∧ k.mirror = true ∧ u.isStandby = true)))
      (fun u => ((u.inc pgPRIV R.PRIV_REFUSED).raise (a.toNat / 4096) flagRefused).audit m a.toNat v.toNat 0 7)) ∧
  (∀ (m : Master) (a : BitVec 24) (v : Word) (k : PageKind) (n : Nat), pageKind (pageNo a.toNat) = some (k, n) →
    Runs (.registerWrite · m a v) (fun u => u.pageAnswers k = false ∨ u.absent k n (pageOff a.toNat) true = true)
      (fun u => u))

/-! ### Supply -/

/-- SUPPLY AND RESET PINS (R25, R636, R659). PWRGOOD rising takes OFF to RESET with the power-up count of SYS_RSTCNT, and
on to LOAD where RESET_N is high; PWRGOOD falling takes every state to OFF; RESET_N falling takes every state but OFF to
RESET and counts, in OFF it only notes the pin; RESET_N rising with PWRGOOD high takes RESET to LOAD; VIO33 rising
sets every press-output keeper low. A change of state notes PRIOR, advances TRANSEQ and sets the SYS flag 0 with the new
SYS_STATE as its detail; it leaves the registers. What a reset keeps is log entry 5. -/
def Obligations.SupplyPins : Prop :=
  (∀ (s : State) (st : DevState), s.dev.state ≠ st →
    (s.goto st).dev = { s.dev with state := st, prior := s.dev.state, transeq := s.dev.transeq + 1#8 } ∧
    (s.goto st).raised = s.raised ++ [(pgSYS, 0, (s.goto st).sysState)] ∧ (s.goto st).regs = s.regs ∧
    (s.goto st).mem = s.mem ∧ (s.goto st).hdr = s.hdr) ∧
  Runs .pwrgoodRise (fun u => u.dev.state = .off ∧ u.dev.resetN = false) (fun u =>
    let z := u.cleared.wr pgSYS R.SYS_RSTCNT 0x10000
    { z with dev := { z.dev with state := .reset, pwrgood := true } }) ∧
  Runs .pwrgoodRise (fun u => u.dev.state = .off ∧ u.dev.resetN = true) (fun u =>
    let z := u.cleared.wr pgSYS R.SYS_RSTCNT 0x10000
    ({ z with dev := { z.dev with state := .reset, pwrgood := true } } : State).goto .load) ∧
  Runs .pwrgoodFall (fun _ => True) (fun u =>
    let z := u.cleared.wr pgSYS R.SYS_RSTCNT 0
    { z with dev := { z.dev with state := .off, pwrgood := false } }) ∧
  Runs .resetNFall (fun u => u.dev.state = .off) (fun u => { u with dev := { u.dev with resetN := false } }) ∧
  Runs .resetNFall (fun u => u.dev.state ≠ .off) (fun u =>
    let z := ({ u with dev := { u.dev with resetN := false } } : State).cleared
    ({ z with dev := { z.dev with state := .reset } } : State).wr pgSYS R.SYS_RSTCNT
      ((u.rd pgSYS R.SYS_RSTCNT_PIN + 1) % 65536)) ∧
  Runs .resetNRise (fun u => u.dev.state = .reset ∧ u.dev.pwrgood = true) (fun u =>
    ({ u with dev := { u.dev with resetN := true } } : State).goto .load) ∧
  Runs .vio33Rise (fun _ => True) (fun u =>
    { u with dev := { u.dev with vio33 := true }, pio := { u.pio with pins := 0#16 } })

/-! ### Startup -/

/-- LOAD, STEP BY STEP (R98, R99, R638 to R640, R660, R668). In LOAD, the step in progress that passes its test moves
SYS_START.STEP on: the straps by majority with EXTBUILD for BUILD_MODE 1, TREF near 10 or 25 MHz, the lock that starts the
counter at 0, the OTP data, the sensors, and the camera rails, which enter BUILD. A step that fails takes the device to
SAFE with its STEP and DETAIL. -/
def Obligations.LoadSteps : Prop :=
  (∀ a b c : BitVec 6, Runs (.loadStepComplete · (.straps a b c)) (fun u => u.dev.state = .load ∧ u.startStep = 1)
    (fun u => ((u.wr pgSYS R.SYS_STRAP (majority a b c + 256)).wr pgSYS R.SYS_START_EXTBUILD
      (b2n (majority a b c % 4 == 1))).wr pgSYS R.SYS_START_STEP 2)) ∧
  (∀ hz : Nat, Runs (.loadStepComplete · (.tref hz))
    (fun u => u.dev.state = .load ∧ u.startStep = 2 ∧ u.rd pgSYS R.SYS_STRAP_BOOT_MODE ≠ 2 ∧
      near100ppm hz 10000000 = true)
    (fun u => u.wr pgSYS R.SYS_START_STEP 3)) ∧
  (∀ hz : Nat, Runs (.loadStepComplete · (.tref hz))
    (fun u => u.dev.state = .load ∧ u.startStep = 2 ∧ u.rd pgSYS R.SYS_STRAP_BOOT_MODE ≠ 2 ∧
      near100ppm hz 25000000 = true)
    (fun u => (u.wr pgTIME R.TIME_STAT_TREF25 1).wr pgSYS R.SYS_START_STEP 3)) ∧
  (∀ n : Nat, Runs (.loadStepComplete · (.locked true n)) (fun u => u.dev.state = .load ∧ u.startStep = 3)
    (fun u => ({ u with counter := 0#80, dev := { u.dev with releasedAt := n }, time := { u.time with running := true } } :
      State).wr pgSYS R.SYS_START_STEP 4)) ∧
  Runs (.loadStepComplete · (.otp true))
    (fun u => u.dev.state = .load ∧ u.startStep = 4 ∧ u.otpBad = none ∧ u.part.calOk = true)
    (fun u => u.otpLoad.wr pgSYS R.SYS_START_STEP 5) ∧
  Runs (.loadStepComplete · .sensors) (fun u => u.dev.state = .load ∧ u.startStep = 5)
    (fun u => u.wr pgSYS R.SYS_START_STEP 6) ∧
  (∀ a b : Nat, Runs (.loadStepComplete · (.camera a b))
    (fun u => u.dev.state = .load ∧ u.startStep = 6 ∧ railOk (u.rdb pgSYS R.SYS_STRAP_CAMA_VSEL) a = true ∧
      railOk (u.rdb pgSYS R.SYS_STRAP_CAMB_VSEL) b = true)
    (fun u => (((u.goto .build).wr pgSYS R.SYS_START_STEP 7).markTime 0).trainBegin)) ∧
  (∀ n : Nat, Runs (.loadStepComplete · (.locked false n)) (fun u => u.dev.state = .load ∧ u.startStep = 3)
    (fun u => (((u.wr pgSYS R.SYS_START_STEP 3).wr pgSYS R.SYS_START_FAIL 1).wr pgSYS R.SYS_START_DETAIL 0).enterSide
      .safe 9))

/-- BUILD, STEP BY STEP, AND READY (R25, R504, R582, R583, R662 to R668). In BUILD, calibration moves SYS_START.STEP to 8; the
SRAM test and DRAM training run together as steps 8 and 9 and both lead to 10; the fabric self-check with a speed and
floors that suffice leads to 11; initialisation enters LINKUP. READY is entered from LINKUP with the host lanes up: alone as
SOLO, in a pair once both twin lanes and the pair are up, as STANDBY in the other role. -/
def Obligations.BuildAndReady : Prop :=
  Runs (.buildStepComplete · (.calibrated none)) (fun u => u.dev.state = .build ∧ u.startStep = 7)
    (fun u => u.wr pgSYS R.SYS_START_STEP 8) ∧
  (∀ n : Fin 5, Runs (.buildStepComplete · (.calibrated (some n))) (fun u => u.dev.state = .build ∧ u.startStep = 7)
    (fun u => (((u.wr pgSYS R.SYS_START_STEP 7).wr pgSYS R.SYS_START_FAIL 1).wr pgSYS R.SYS_START_DETAIL n.val).enterSide
      .safe 9)) ∧
  (∀ (g : Fin 16) (n : Nat), n ≤ 64 → Runs (.buildStepComplete · (.sram g false n))
    (fun u => u.dev.state = .build ∧ (u.startStep = 8 ∨ u.startStep = 9) ∧ u.dev.sramOk = false)
    (fun u => ({ u with dev := { u.dev with sramOk := true } } : State).wr pgSYS R.SYS_START_STEP
      (if u.dev.dramOk then 10 else 9))) ∧
  (∀ ms : List (BitVec 32), Runs (.buildStepComplete · (.dram none ms))
    (fun u => u.dev.state = .build ∧ (u.startStep = 8 ∨ u.startStep = 9) ∧ u.dev.dramOk = false)
    (fun u => ({ u.trained (ms.take 8) with dev := { (u.trained (ms.take 8)).dev with dramOk := true } } : State).wr
      pgSYS R.SYS_START_STEP (if (u.trained (ms.take 8)).dev.sramOk then 10 else u.startStep))) ∧
  (∀ v : BitVec 16, 256 ≤ v.toNat → Runs (.buildStepComplete · (.fabric true v))
    (fun u => u.dev.state = .build ∧ u.startStep = 10 ∧ 46080 ≤ u.part.f1 ∧ 35750 ≤ u.part.fd1)
    (fun u => (u.wr pgWEIR R.WEIR_SPEED v.toNat).wr pgSYS R.SYS_START_STEP 11)) ∧
  (∀ v : Option (BitVec 8), Runs (.buildStepComplete · (.initialised v))
    (fun u => u.dev.state = .build ∧ u.startStep = 11) (fun u => u.enterLinkup v)) ∧
  Runs .enterReady (fun u => u.dev.state = .linkup ∧ u.hostLanesUp = true ∧ u.pairMode = false)
    (fun u => (((((u.change .ready .solo u.dev.cause).setTwinState 0).wr pgSYS R.SYS_START_STEP 13).markTime 2)).tryStart) ∧
  Runs .enterReady (fun u => u.dev.state = .linkup ∧ u.hostLanesUp = true ∧ u.pairMode = true ∧ u.twinUp 0 = true ∧
      u.twinUp 1 = true ∧ u.twin.paired = true ∧ u.pairRole ≠ .active)
    (fun u => (((u.change .ready .standby u.dev.cause).setTwinState 2).wr pgSYS R.SYS_START_STEP 13).markTime 2) ∧
  Runs .enterReady (fun u => u.dev.state = .linkup ∧ u.hostLanesUp = true ∧ u.pairMode = true ∧ u.twinUp 0 = true ∧
      u.twinUp 1 = true ∧ u.twin.paired = true ∧ u.pairRole = .active ∧ u.twin.sluiceIn = false)
    (fun u => ((((u.becomeActive .ready).setTwinState 3).wr pgSYS R.SYS_START_STEP 13).markTime 2).sendAlign)

/-! ### Register -/

/-- PLAIN REGISTERS AND EVENT ENABLES (R33, R38, R77, R79, R86). A write of a register of the pages DFL and DCP and of the
DRAM subchannels that passes the checks stores its fields, those with shadow storage by their class (`State.putReg`), with
what follows every accepted write (`State.acceptedBy`); on YRT a LISTEN that rises starts the listening besides, on PTPA a LEARN that falls returns to the selected
port; a write of PG_EVTEN of any page stores bits [28:0]. A value written to a count takes what the hardware has added in
the same window. -/
def Obligations.PlainRegisterWrite : Prop :=
  (∀ (m : Master) (a : BitVec 24) (v : Word) (k : PageKind) (n i : Nat) (d : RegDef),
    k = .dfl ∨ k = .dcp ∨ k = .sc → 0x40 ≤ pageOff a.toNat →
    findReg k.regs (pageOff a.toNat) = some (d, i) →
    Runs (.registerWrite · m a v) (fun u => u.accepts m a.toNat k n = true)
      (fun u => (u.putReg (pageNo a.toNat) a.toNat d v).acceptedBy u m k n a.toNat v)) ∧
  (∀ (m : Master) (a : BitVec 24) (v : Word) (n i : Nat) (d : RegDef), 0x40 ≤ pageOff a.toNat →
    findReg PageKind.yrt.regs (pageOff a.toNat) = some (d, i) →
    Runs (.registerWrite · m a v) (fun u => u.takes m a.toNat .yrt n = true)
      (fun u => (u.putReg (pageNo a.toNat) a.toNat d v).listenStart (u.rdb pgYRT R.YRT_CTL_LISTEN))) ∧
  (∀ (m : Master) (a : BitVec 24) (v : Word) (n i : Nat) (d : RegDef), 0x40 ≤ pageOff a.toNat →
    findReg PageKind.ptpa.regs (pageOff a.toNat) = some (d, i) →
    Runs (.registerWrite · m a v) (fun u => u.takes m a.toNat .ptpa n = true)
      (fun u => (u.putReg (pageNo a.toNat) a.toNat d v).learnChange (u.rdb pgPTPA R.PTPA_CTL_LEARN))) ∧
  (∀ (s : State) (pg a : Nat) (d : RegDef) (v : Word) (b : Nat), d.rws = 0 → b ≠ a → (s.putReg pg a d v).word b = s.word b) ∧
  (∀ (s : State) (pg a : Nat) (d : RegDef) (v : Word) (i : Nat), d.rws = 0 → d.rw + d.cnt < 2 ^ 32 → i < 32 →
    ((s.putReg pg a d v).word a).getLsbD i =
      if bitOf (d.rw + d.cnt) i then (s.withHits a v).getLsbD i else (s.word a).getLsbD i) ∧
  ∀ (m : Master) (a : BitVec 24) (v : Word) (k : PageKind) (n : Nat), pageOff a.toNat = 0x18 → k.mirror = false →
    Runs (.registerWrite · m a v) (fun u => u.takes m a.toNat k n = true)
      (fun u => u.setHead (pageNo a.toNat)
        { u.head (pageNo a.toNat) with evten := BitVec.ofNat 32 (v.toNat % 2 ^ 29) })

/-- CLEARING EVENT FLAGS (R74). On a page that takes the write, EVENT_CLEAR leaves a flag set exactly if it was set and either
lies outside MASK or its remembered number f does not satisfy (SEQ - f) mod 256 < 128; SEQ and the remembered numbers
stay, as does every other header and everything but the page's header. On a mirror page the write also goes to the standby (R584). -/
def Obligations.EventClear : Prop :=
  (∀ (m : Master) (pg : BitVec 12) (v : Word) (k : PageKind) (n : Nat),
    Runs (.eventClear · m pg v) (fun u => u.takes m (headAddr pg.toNat 0x14) k n = true)
      (fun u => (u.setHead pg.toNat ((u.head pg.toNat).clear v.toNat)).mirrorWrite m k (headAddr pg.toNat 0x14) v.toNat
        u.isActive)) ∧
  ∀ (h : Hdr) (v : Word) (f : Nat), f < 24 →
    (h.clear v.toNat).flags.getLsbD f = (h.flags.getLsbD f &&
      !(v.getLsbD f && decide ((((v.toNat / 2 ^ 24 : Nat) : Int) - ((mget 0#8 h.rem f).toNat : Nat)) % 256 < 128))) ∧
    (h.clear v.toNat).seq = h.seq ∧ (h.clear v.toNat).rem = h.rem

/-- BLOCK RESET (R39, R40, R704). A reset of a page that takes the write and does not refuse it performs the block reset of
the page; one that the page refuses is the refusal of R44 with 0x03 and resets nothing. -/
def Obligations.BlockReset : Prop :=
  (∀ (m : Master) (pg : BitVec 12) (k : PageKind) (n : Nat),
    Runs (.blockReset · m pg)
      (fun u => u.takes m (headAddr pg.toNat 0x08) k n = true ∧ u.resetRefused m k = false)
      (fun u => (u.blockReset pg.toNat k n).mirrorWrite m k (headAddr pg.toNat 0x08) 2 u.isActive)) ∧
  ∀ (m : Master) (pg : BitVec 12) (k : PageKind) (n : Nat),
    Runs (.blockReset · m pg)
      (fun u => u.takes m (headAddr pg.toNat 0x08) k n = true ∧ u.resetRefused m k = true)
      (fun u => ((u.inc pgPRIV R.PRIV_REFUSED).raise (headAddr pg.toNat 0x08 / 4096) flagRefused).audit m
        (headAddr pg.toNat 0x08) 2 0 3)

/-- SHADOW STORAGE COMMANDS (R81 to R83, R86, R706, R707). PG_APPLY with COMMIT and MODE 1, on a page whose class it accepts,
writes the fields of PG_APPLY, moves the staging of the page to its committed set, later values winning, and notes the boundary
awaited; where a set already awaits a boundary, that boundary stays, and at a boundary of the same window the set applies as
it was before. (With a source that does not run the set applies at once: not this case.) With DISCARD and no COMMIT the staging of the page is dropped. -/
def Obligations.ShadowCommands : Prop :=
  (∀ (m : Master) (pg : BitVec 12) (v : Word) (k : PageKind) (n : Nat) (c : ApplyClass),
    ApplyClass.ofCode (v.toNat % 8) = some c → bitOf k.cap (8 + v.toNat % 8) = true → bitOf v.toNat 3 = true →
    bitOf v.toNat 7 = false →
    Runs (.applyCommit · m pg v)
      (fun u => u.takes m (headAddr pg.toNat 0x1C) k n = true ∧ k.mirror = false ∧ (u.head pg.toNat).awaiting = none ∧
        u.sourceIdle pg.toNat c none = false)
      (fun u =>
        let z : State := { u with
          staged := u.staged.filter (!onPage pg.toNat ·),
          committed := (u.staged.filter (onPage pg.toNat)).foldl (fun q e => mput q e.1 e.2) u.committed }
        z.setHead pg.toNat { u.head pg.toNat with
          cls := v.toNat % 8, held := true, view := bitOf v.toNat 6,
          appseq := BitVec.ofNat 8 (bitsOf (u.withHits (headAddr pg.toNat 0x1C) (applyCommit v)).toNat 16 8),
          awaiting := some c, late := none })) ∧
  (∀ (m : Master) (pg : BitVec 12) (v : Word) (k : PageKind) (n : Nat) (c d : ApplyClass),
    ApplyClass.ofCode (v.toNat % 8) = some c → bitOf k.cap (8 + v.toNat % 8) = true → bitOf v.toNat 3 = true →
    bitOf v.toNat 7 = false →
    Runs (.applyCommit · m pg v)
      (fun u => u.takes m (headAddr pg.toNat 0x1C) k n = true ∧ k.mirror = false ∧
        (u.head pg.toNat).awaiting = some d ∧ (u.head pg.toNat).late = none ∧ u.sourceIdle pg.toNat d none = false)
      (fun u =>
        let staged := u.staged.filter (onPage pg.toNat)
        let z : State := { u with
          staged := u.staged.filter (!onPage pg.toNat ·),
          committed := staged.foldl (fun q e => mput q e.1 e.2) u.committed }
        z.setHead pg.toNat { u.head pg.toNat with
          cls := v.toNat % 8, held := true, view := bitOf v.toNat 6,
          appseq := BitVec.ofNat 8 (bitsOf (u.withHits (headAddr pg.toNat 0x1C) (applyCommit v)).toNat 16 8),
          late := some { tick := u.now, before := u.committed.filter (onPage pg.toNat),
                         set := staged.foldl (fun q e => mput q e.1 e.2) [] } })) ∧
  ∀ (m : Master) (pg : BitVec 12) (v : Word) (k : PageKind) (n : Nat) (c : ApplyClass),
    ApplyClass.ofCode (v.toNat % 8) = some c → bitOf k.cap (8 + v.toNat % 8) = true → bitOf v.toNat 4 = false →
    Runs (.applyDiscard · m pg v)
      (fun u => u.takes m (headAddr pg.toNat 0x1C) k n = true ∧ k.mirror = false)
      (fun u =>
        let h : Hdr := { u.head pg.toNat with cls := v.toNat % 8, held := bitOf v.toNat 3, view := bitOf v.toNat 6,
                                              appseq := BitVec.ofNat 8 (bitsOf (u.withHits (headAddr pg.toNat 0x1C) (applyDiscard v)).toNat 16 8) }
        { u.setHead pg.toNat h with staged := u.staged.filter (!onPage pg.toNat ·) })

/-- THE MAILBOX (R46, R67 to R71, R708). Selecting an item that may be read captures it: the data of the requesting master on
this page, VALID, and SEQ one further; writing an item that may be written and that its block accepts hands it the
four data words and sets VALID and SEQ likewise, keeping nothing of an item that only takes writes. Items that are privileged have the audit entry besides and are not this case. -/
def Obligations.MailboxCommands : Prop :=
  (∀ (m : Master) (pg item : BitVec 12) (k : PageKind) (n : Nat), itemPriv k item.toNat = false → k.mirror = false →
    Runs (.mailboxSnapshot · m pg item)
      (fun u => u.takes m (headAddr pg.toNat 0x20) k n = true ∧
        (u.itemUse k item.toNat = .readOnly ∨ u.itemUse k item.toNat = .readWrite))
      (fun u => (u.itemRead k n item.toNat).2.setMbx pg.toNat m
        { item := item.toNat, dir := false, valid := true, err := false, code := 0, seq := (u.mbx pg.toNat m).seq + 1#8,
          data := BitVec.ofNat 128 (u.itemRead k n item.toNat).1 })) ∧
  ∀ (m : Master) (pg item : BitVec 12) (k : PageKind) (n : Nat), itemPriv k item.toNat = false → k.mirror = false →
    Runs (.mailboxWrite · m pg item)
      (fun u => u.takes m (headAddr pg.toNat 0x20) k n = true ∧
        (u.itemUse k item.toNat = .writeOnly ∨ u.itemUse k item.toNat = .readWrite) ∧
        (u.itemWrite k n item.toNat (u.mbx pg.toNat m).data.toNat).1 = true)
      (fun u => (u.itemWrite k n item.toNat (u.mbx pg.toNat m).data.toNat).2.setMbx pg.toNat m
        { item := item.toNat, dir := true, valid := true, err := false, code := 0, seq := (u.mbx pg.toNat m).seq + 1#8,
          data := if u.itemUse k item.toNat = .writeOnly then 0#128 else (u.mbx pg.toNat m).data })

/-! ### Service -/

/-- THE SERVICE PORT (R49 to R57, R709). A whole request with a right CRC, of the OP of its command, is checked as a
whole, its words are performed in order by SVC, and the response carries the STATUS and the words; a wrong CRC
performs nothing and counts in SYS_SVCERR.CRCERR with STATUS 0x01; an unknown OP performs nothing and answers 0x06; SVC_CS_N
rising before the last CRC bit performs nothing and counts in SYS_SVCERR.ABORT. -/
def Obligations.ServicePort : Prop :=
  (∀ req : List Byte, byteAt req 0 = 3 → svcLength req ≤ req.length →
    beAt req (svcLength req - 2) 2 = crc16 (req.take (svcLength req - 2)) →
    requestCheck 3 (beAt req 1 3) (byteAt req 4) = 0 →
    Runs (.svcRead · req) (fun u => u.svcAlive = true) (fun u =>
      let r := u.readWords .svc (beAt req 1 3) 0 (byteAt req 4 + 1)
      { r.2.2 with svc := svcResponse r.1 r.2.1 })) ∧
  (∀ req : List Byte, byteAt req 0 = 2 → svcLength req ≤ req.length →
    beAt req (svcLength req - 2) 2 = crc16 (req.take (svcLength req - 2)) →
    requestCheck 2 (beAt req 1 3) (byteAt req 4) = 0 →
    Runs (.svcWrite · req) (fun u => u.svcAlive = true) (fun u =>
      let r := u.writeWords .svc (beAt req 1 3) 0 (svcWords req (byteAt req 4 + 1))
      { r.2 with svc := svcResponse r.1 [] })) ∧
  (∀ req : List Byte, byteAt req 0 = 2 → svcLength req ≤ req.length →
    beAt req (svcLength req - 2) 2 ≠ crc16 (req.take (svcLength req - 2)) →
    Runs (.svcWrite · req) (fun u => u.svcAlive = true) (fun u =>
      { u.inc pgSYS R.SYS_SVCERR_CRCERR with svc := svcResponse 0x01 [] })) ∧
  (∀ req : List Byte, byteAt req 0 ≠ 2 → byteAt req 0 ≠ 3 → svcLength req ≤ req.length →
    beAt req (svcLength req - 2) 2 = crc16 (req.take (svcLength req - 2)) →
    Runs (.svcUnknownOp · req) (fun u => u.svcAlive = true) (fun u => { u with svc := svcResponse 0x06 [] })) ∧
  ∀ (req : List Byte) (n : Nat), n < 8 * svcLength req →
    Runs (.svcAbort · req n) (fun u => u.svcAlive = true) (fun u => u.inc pgSYS R.SYS_SVCERR_ABORT)

/-- LIMITED-CHANGE SETTINGS, SESSIONS AND SPILLING (R60, R89 to R95, R710). GO for a setting with changes left and a new value
that is sound writes the record, counts it in PRIV_OTPLEFT, shows BUSY and enters the audit log (a completion of the same window
comes before it, R86, and is not this case); the record's completion puts the value in force, marks the record and shows DONE; PRIV_SESSCLOSE with CLOSE closes an open session and sets its flag; an unspilled
ring entry moves to its spill basin once it fits. -/
def Obligations.OtpSessionsSpill : Prop :=
  (∀ (m : Master) (n : BitVec 4), n.toNat < 4 →
    Runs (.otpChangeGo · m n)
      (fun u => u.accepts m (fieldAddr pgPRIV R.PRIV_OTPCMD) .priv 0 = true ∧
        u.pending.any (otpDoneAt u.now) = false ∧ u.rdb pgPRIV R.PRIV_OTPSTAT_BUSY = false ∧ (u.otpStaged n.toNat).2 = false ∧
        ¬ (n.toNat = 1 ∧ barMapBad (u.otpStaged n.toNat).1 = true) ∧ u.rd pgPRIV (otpLeftFld n.toNat) ≠ 0)
      (fun u =>
        let v := (u.otpStaged n.toNat).1
        let z := ((u.wr pgPRIV R.PRIV_OTPSTAT_DONE 0).wr pgPRIV R.PRIV_OTPSTAT_FAIL 0).wr pgPRIV R.PRIV_OTPSTAT_BUSY 1
        let y := z.wr pgPRIV (otpLeftFld n.toNat) (z.rd pgPRIV (otpLeftFld n.toNat) - 1)
        let w : State := { y with
          part := { y.part with records := y.part.records ++ [
            { tick := u.now, master := masterCode m, setting := n.toNat, value := v, committed := false,
              digest := otpDigest u.now (masterCode m) n.toNat v }] },
          priv := { y.priv with otp := some { setting := n.toNat, value := v, master := masterCode m, start := u.now } } }
        let c := withBit (n.setWidth 32) R.PRIV_OTPCMD_GO
        (w.putPlain (fieldAddr pgPRIV R.PRIV_OTPCMD) 0xF c).acceptedBy u m .priv 0 (fieldAddr pgPRIV R.PRIV_OTPCMD) c)) ∧
  (∀ w : OtpWork, Runs .otpRecordDone (fun u => u.priv.otp = some w ∧ w.start < u.now) (fun u =>
    let z : State := { u with part := { u.part with records := commitLast u.part.records },
                              priv := { u.priv with otp := none } }
    ((z.otpApply w.setting w.value).wr pgPRIV R.PRIV_OTPSTAT_BUSY 0).wr pgPRIV R.PRIV_OTPSTAT_DONE 1)) ∧
  (∀ (m : Master) (k : Fin 8),
    Runs (.sessionCloseCmd · m k)
      (fun u => u.accepts m (fieldAddr pgPRIV R.PRIV_SESSCLOSE) .priv 0 = true ∧ (u.session k.val).open_ = true)
      (fun u =>
        let c := withBit (BitVec.ofNat 32 k.val) R.PRIV_SESSCLOSE_CLOSE
        (((u.stored pgPRIV R.PRIV_SESSCLOSE c).setSession k.val {}).raise pgYRT 1 k.val).acceptedBy u m .priv 0
          (fieldAddr pgPRIV R.PRIV_SESSCLOSE) c)) ∧
  ∀ (r : SpillRing) (i : Nat) (rest : List Nat), Runs (.auditSpillCopy · r)
    (fun u => (u.ring r).unsp = i :: rest ∧ u.spillOn r = true ∧
      u.canProduce (u.rd (ringCfg r).1 (ringCfg r).2.2.1) ((mfind (u.ring r).slots i).getD []).length = true)
    (fun u => (u.append (u.rd (ringCfg r).1 (ringCfg r).2.2.1) ((mfind (u.ring r).slots i).getD [])).setRing r
      { u.ring r with unsp := rest })

/-! ### Time -/

/-- PTP MESSAGES (R116, R117, R122, R124, R126, R128 to R130). With no sample of the tick taken early (R111): a one-step Sync of
the selected port counts, restarts the Sync timeout and completes; a two-step Sync waits for its Follow_Up with its arrival;
the Follow_Up in time completes it; a Delay_Resp to the device gives the delay sample of its exchange; an Announce of the
selected port with a new grandmaster is a master change, and one with nothing selected and LEARN 1 selects its port. A Sync
outside the profile or of another port only counts as dropped. A completed Sync with a filtered delay d gives the offset
sample (t2 - t1 - d), in ticks and towards minus infinity, to the servo, which in TRACK moves integrator and rate. -/
def Obligations.PtpMessages : Prop :=
  (∀ m : PtpMsg, m.twoStep = false → Runs (.ptpSyncReceive · m)
    (fun u => u.early = [] ∧ u.enabled pgPTPA = true ∧ u.ptpProfile m = true ∧ u.fromMaster m = true)
    (fun u =>
      let z := u.incWrap pgPTPA R.PTPA_RXCNT_SYNC
      let x : SyncRx := { seq := m.seq.toNat, at_ := z.now, corr := ptpCorr m, t2 := z.ingress }
      (z.setPtp { z.ptp with syncRef := some z.now, lastSync := some x }).syncDone x (ptpStamp m + ptpCorr m))) ∧
  (∀ m : PtpMsg, m.twoStep = true → Runs (.ptpSyncReceive · m)
    (fun u => u.early = [] ∧ u.enabled pgPTPA = true ∧ u.ptpProfile m = true ∧ u.fromMaster m = true)
    (fun u =>
      let z := u.incWrap pgPTPA R.PTPA_RXCNT_SYNC
      let x : SyncRx := { seq := m.seq.toNat, at_ := z.now, corr := ptpCorr m, t2 := z.ingress }
      z.setPtp { z.ptp with syncRef := some z.now, lastSync := some x, waiting := z.ptp.waiting ++ [x] })) ∧
  (∀ (m : PtpMsg) (x : SyncRx) (rest : List SyncRx), x.seq = m.seq.toNat → Runs (.ptpFollowUpReceive · m)
    (fun u => u.early = [] ∧ u.enabled pgPTPA = true ∧ u.ptpProfile m = true ∧ u.fromMaster m = true ∧
      u.ptp.waiting = x :: rest ∧ u.now < x.at_ + ms 100)
    (fun u => u.syncDone x (ptpStamp m + x.corr + ptpCorr m))) ∧
  (∀ (m : PtpMsg) (x : DelayX) (y : SyncRx) (b : Int), x.seq = m.seq.toNat → x.t4 = none → x.sync = some y →
    y.base = some b → Runs (.ptpDelayRespReceive · m)
    (fun u => u.early = [] ∧ u.enabled pgPTPA = true ∧ u.ptpProfile m = true ∧ u.fromMaster m = true ∧
      m.requesting.toNat = u.portIdentity ∧ u.ptp.dreqs = [x] ∧ u.ptp.samples = [])
    (fun u =>
      let z := u.incWrap pgPTPA R.PTPA_RXCNT_DRESP
      z.setPtp { z.ptp with dreqs := [], logInterval := m.logInterval.toInt,
                            samples := [half (b + (ptpStamp m - ptpCorr m - x.t3))] })) ∧
  (∀ m : PtpMsg, Runs (.ptpAnnounceReceive · m)
    (fun u => u.enabled pgPTPA = true ∧ u.ptpProfile m = true ∧ u.ptp.port = some m.source.toNat ∧
      m.grandmaster.toNat ≠ u.ptp.grandmaster ∧ u.tstate ≠ 3)
    (fun u => (u.setPtp { u.ptp with annRef := some u.now, grandmaster := m.grandmaster.toNat }).raise pgPTPA 1)) ∧
  (∀ m : PtpMsg, Runs (.ptpAnnounceReceive · m)
    (fun u => u.enabled pgPTPA = true ∧ u.ptpProfile m = true ∧ u.ptp.port = none ∧
      u.rdb pgPTPA R.PTPA_CTL_LEARN = true ∧ u.tstate ≠ 3)
    (fun u => ((u.setPtp { u.ptp with port := some m.source.toNat, annRef := some u.now, syncRef := some u.now,
                                      grandmaster := m.grandmaster.toNat }).raise pgPTPA 0).raise pgPTPA 1)) ∧
  (∀ m : PtpMsg, Runs (.ptpSyncReceive · m)
    (fun u => u.early = [] ∧ u.enabled pgPTPA = true ∧ (u.ptpProfile m && u.fromMaster m) = false)
    (fun u => u.inc pgPTPA R.PTPA_DROPCNT_DROP)) ∧
  (∀ (s : State) (x : SyncRx) (t1 d : Int), s.ptp.dreqs = [] → s.ptpDelay = some d → s.rdb pgTIME R.TIME_CTL_SRC = false →
    s.syncDone x t1 =
      (s.setPtp { s.ptp with
        lastSync := s.ptp.lastSync.map fun y => if y.seq = x.seq ∧ y.at_ = x.at_ then { y with base := some (x.t2 - t1) } else y,
        waiting := s.ptp.waiting.erase x, theta := (x.t2 - t1 - d).fdiv 4096 }).servo ((x.t2 - t1 - d).fdiv 4096)) ∧
  ∀ (s : State) (theta : Int), s.rdb pgTIME R.TIME_CTL_MODE = true → s.tstate = 3 → theta.natAbs ≤ s.jumpThr →
    (s.servo theta).time.integ = s.rateClamp (s.time.integ - (s.rd pgTIME R.TIME_KI : Nat) * theta) ∧
    (s.servo theta).time.rate = s.rateClamp ((s.servo theta).time.integ - (s.rd pgTIME R.TIME_KP : Nat) * theta) ∧
    (s.servo theta).time.theta = theta ∧ (s.servo theta).netTime s.now = s.netTime s.now

/-- PTP TIMERS (R120, R126 to R129, R131). A Delay_Req takes the next sequence number and enters the launch queue of its
lane, at the tick named but not past the end of the random spread (log entry 85); the four timeouts, once their time has
passed, drop what waited longest and set flags 5, 2, 3 and 4 of PTPA; a lost Sync source takes ARMED and TRACK to FREE. -/
def Obligations.PtpTimers : Prop :=
  (∀ l : Tick, Runs (.delayReqSend · l) (fun u => u.enabled pgPTPA = true)
    (fun u =>
      let at_ := match u.ptp.dreqAt with
        | some a => min l.toNat (a + u.dreqSpan)
        | none => l.toNat
      (u.setPtp { u.ptp with dreqSeq := (u.ptp.dreqSeq + 1) % 65536, dreqAt := some at_ }).queueHost
        (u.rd pgPTPA R.PTPA_CTL_LANE) at_
        (.delayReq u.ptp.dreqSeq (u.rdb pgPTPA R.PTPA_CTL_VLAN) (u.rd pgPTPA R.PTPA_CTL_VID)
          (u.rd pgPTPA R.PTPA_CTL_PCP) (u.rd pgPTPA R.PTPA_CTL_DOMAIN)))) ∧
  (∀ (x : SyncRx) (rest : List SyncRx), Runs .followUpTimeout
    (fun u => u.ptp.waiting = x :: rest ∧ x.at_ + ms 100 ≤ u.now)
    (fun u => (u.setPtp { u.ptp with waiting := rest }).raise pgPTPA 5)) ∧
  (∀ a : Nat, Runs .syncTimeout
    (fun u => u.enabled pgPTPA = true ∧ u.rdb pgTIME R.TIME_CTL_SRC = false ∧ u.ptp.syncRef = some a ∧
      a + ms (atLeast1 (u.rd pgPTPA R.PTPA_TMO_SYNC)) ≤ u.now)
    (fun u => ((u.setPtp { u.ptp with syncRef := none }).raise pgPTPA 2).timeLost)) ∧
  (∀ a p : Nat, Runs .announceTimeout
    (fun u => u.enabled pgPTPA = true ∧ u.ptp.port = some p ∧ u.rdb pgPTPA R.PTPA_CTL_LEARN = true ∧
      u.ptp.annRef = some a ∧ a + ms (atLeast1 (u.rd pgPTPA R.PTPA_TMO_ANN)) ≤ u.now)
    (fun u => (u.setPtp { u.ptp with annRef := none, port := none }).raise pgPTPA 3)) ∧
  (∀ (x : DelayX) (rest : List DelayX), x.t4 = none → Runs .delayRespTimeout
    (fun u => u.ptp.dreqs = x :: rest ∧ x.at_ + ms 1000 ≤ u.now)
    (fun u => (u.setPtp { u.ptp with dreqs := rest }).raise pgPTPA 4)) ∧
  ∀ s : State, (s.timeLost).tstate = (if s.tstate = 1 ∨ s.tstate = 3 then 0 else s.tstate) ∧ s.timeLost.time = s.time

/-- PPS AND CAPTURES (R121, R135 to R138). The active PPS_IN edge enters the PPS cell; 1.5 s without one set flag 8; PPS_OUT
rises at the whole second due and falls after WIDTH; an edge of a source reaches every cell that selects it and its edge, and
marks it NEW. -/
def Obligations.PpsAndCaptures : Prop :=
  (∀ r : Bool, Runs (.ppsInEdge · r)
    (fun u => u.early = [] ∧ r ≠ u.rdb pgTIME R.TIME_PPSCTL_INEDGE ∧ u.rdb pgTIME R.TIME_CTL_SRC = false)
    (fun u => u.setTime { u.time with pps := { tick := u.now, count := u.time.pps.count + 1#32 }, ppsRef := u.now })) ∧
  Runs .ppsMissTimeout (fun u => u.rdb pgTIME R.TIME_CTL_SRC = true ∧ u.time.ppsRef + ms 1500 ≤ u.now)
    (fun u => ((u.setTime { u.time with ppsRef := u.now }).raise pgTIME 8).timeLost) ∧
  (∀ n : Nat, Runs .ppsOutPulseStart
    (fun u => u.time.ppsNext = some n ∧ u.rdb pgTIME R.TIME_PPSCTL_OUTEN = true ∧
      ((n * secUnits : Nat) : Int) ≤ u.netTime u.now ∧ u.time.ppsOut = false)
    (fun u => u.setTime { u.time with ppsOut := true, ppsNext := some u.nextSecond,
                                      ppsEnd := u.now + us (atLeast1 (u.rd pgTIME R.TIME_PPSCTL_WIDTH)) })) ∧
  Runs .ppsOutPulseEnd (fun u => u.time.ppsOut = true ∧ u.time.ppsEnd ≤ u.now)
    (fun u => u.setTime { u.time with ppsOut := false }) ∧
  ∀ (c : BitVec 6) (n : Fin 8), Runs (.captureCellEdge · c true)
    (fun u => capSource c.toNat = true ∧ u.rd pgTIME (R.TIME_CAPSRC_SRC n.val) = c.toNat ∧
      u.rd pgTIME (R.TIME_CAPSRC_EDGE n.val) = 0 ∧ bitOf (u.rd pgTIME R.TIME_CAPSTAT_NEW) n.val = false ∧
      ∀ k, k < 8 → k ≠ n.val → u.rd pgTIME (R.TIME_CAPSRC_SRC k) ≠ c.toNat)
    (fun u =>
      let x : CapCell := { tick := u.now, count := (mget {} u.time.cells n.val).count + 1#32 }
      (u.setTime { u.time with cells := mset {} u.time.cells n.val x }).wr pgTIME R.TIME_CAPSTAT_NEW
      (Nat.lor (u.rd pgTIME R.TIME_CAPSTAT_NEW) (2 ^ n.val)))

/-- TIME COMMANDS (R105, R108 to R115). A command of TIME_CTL acts after the samples of its own tick that still wait in the
queue (`State.samplesFirst`; nothing is left of one in its turn, R111). ARM outside a job enters ARMED; ARM in a job is
refused with flag 2; FREE and a change of MODE enter FREE; the host's step in ARMED and its rate in the host mode are
taken, its rate within the limits; a tick written to item 7 is the one converted. -/
def Obligations.TimeCommands : Prop :=
  (∀ (m : Master) (v : Word),
    Runs (.timeArm · m v)
      (fun u =>
        let c := withBit v R.TIME_CTL_ARM
        let z := u.samplesFirst
        u.accepts m (fieldAddr pgTIME R.TIME_CTL) .time 0 = true ∧ z.inJob = false ∧ bitOf c.toNat 5 = false ∧
        bitOf (z.rd pgTIME R.TIME_CTL) 0 = bitOf c.toNat 0 ∧ bitOf (z.rd pgTIME R.TIME_CTL) 1 = bitOf c.toNat 1)
      (fun u =>
        let c := withBit v R.TIME_CTL_ARM
        ((u.samplesFirst.stored pgTIME R.TIME_CTL c).wr pgTIME R.TIME_STAT_TSTATE 1).acceptedBy u m .time 0
          (fieldAddr pgTIME R.TIME_CTL) c)) ∧
  (∀ (m : Master) (v : Word),
    Runs (.timeArm · m v)
      (fun u =>
        let c := withBit v R.TIME_CTL_ARM
        let z := u.samplesFirst
        u.takes m (fieldAddr pgTIME R.TIME_CTL) .time 0 = true ∧ z.inJob = true ∧ bitOf c.toNat 5 = false ∧
        bitOf (z.rd pgTIME R.TIME_CTL) 0 = bitOf c.toNat 0 ∧ bitOf (z.rd pgTIME R.TIME_CTL) 1 = bitOf c.toNat 1)
      (fun u =>
        let c := withBit v R.TIME_CTL_ARM
        ((u.samplesFirst.stored pgTIME R.TIME_CTL c).raise pgTIME 2).refuse m (fieldAddr pgTIME R.TIME_CTL) c.toNat 3)) ∧
  (∀ (m : Master) (v : Word), bitOf v.toNat 4 = false →
    Runs (.timeFree · m v)
      (fun u =>
        let c := withBit v R.TIME_CTL_FREE
        let z := u.samplesFirst
        u.accepts m (fieldAddr pgTIME R.TIME_CTL) .time 0 = true ∧
        bitOf (z.rd pgTIME R.TIME_CTL) 0 = bitOf c.toNat 0 ∧ bitOf (z.rd pgTIME R.TIME_CTL) 1 = bitOf c.toNat 1)
      (fun u =>
        let c := withBit v R.TIME_CTL_FREE
        ((u.samplesFirst.stored pgTIME R.TIME_CTL c).timeFree).acceptedBy u m .time 0 (fieldAddr pgTIME R.TIME_CTL) c)) ∧
  (∀ (m : Master) (v : Word), bitOf v.toNat 4 = false → bitOf v.toNat 5 = false →
    Runs (.timeModeChange · m v)
      (fun u =>
        let z := u.samplesFirst
        u.accepts m (fieldAddr pgTIME R.TIME_CTL) .time 0 = true ∧
        bitOf (z.rd pgTIME R.TIME_CTL) 0 ≠ bitOf v.toNat 0 ∧ bitOf (z.rd pgTIME R.TIME_CTL) 1 = bitOf v.toNat 1)
      (fun u =>
        ((u.samplesFirst.stored pgTIME R.TIME_CTL v).timeFree).acceptedBy u m .time 0 (fieldAddr pgTIME R.TIME_CTL) v)) ∧
  (∀ (s : State) (x : Tick) (m : PtpMsg), s.early = [] → s.pending = [.ptpSyncReceive x m] → x.toNat = s.now →
    s.samplesFirst = { s.ptpSync m with early := .ptpSyncReceive x m :: (s.ptpSync m).early }) ∧
  (∀ (s : State) (c : Instr) (f : State → State), s.early.contains c = true →
    s.once c f = { s with early := s.early.erase c }) ∧
  (∀ (m : Master) (v : BitVec 128),
    Runs (.hostTimeStep · m v)
      (fun u => u.takes m (headAddr pgTIME 0x20) .time 0 = true ∧
        (u.mbxLoaded m pgTIME v.toNat).rdb pgTIME R.TIME_CTL_MODE = false ∧ (u.mbxLoaded m pgTIME v.toNat).tstate = 1)
      (fun u =>
        let z := u.mbxLoaded m pgTIME v.toNat
        (z.hostStep v.toInt).setMbx pgTIME m ((z.mbx pgTIME m).done 3 true 0#128))) ∧
  (∀ (m : Master) (v : BitVec 48),
    Runs (.hostRateWrite · m v)
      (fun u => u.takes m (headAddr pgTIME 0x20) .time 0 = true ∧
        (u.mbxLoaded m pgTIME v.toNat).rdb pgTIME R.TIME_CTL_MODE = false)
      (fun u =>
        let z := u.mbxLoaded m pgTIME v.toNat
        (z.hostRate v.toInt).setMbx pgTIME m
          ((z.mbx pgTIME m).done 2 true (z.mbx pgTIME m).data))) ∧
  ∀ (m : Master) (v : Tick),
    Runs (.tickConvert · m v) (fun u => u.takes m (headAddr pgTIME 0x20) .time 0 = true)
      (fun u =>
        let z := u.mbxLoaded m pgTIME v.toNat
        (z.setTime { z.time with selTick := v.toNat }).setMbx pgTIME m ((z.mbx pgTIME m).done 7 true (z.mbx pgTIME m).data))

/-- TREF AND HOST LAUNCHES (R101, R125, R127, R131, R132). Loss of TREF sets TREFLOSS and flag 7 and clears LOCK, its return the
reverse (log entry 55); the first frame queued on a host lane is launched at or after its tick, and is late where
it reached the cell at or after that tick. Lane codes of tile and twin lanes launch by rows of their own (log entry 12). -/
def Obligations.TrefAndLaunch : Prop :=
  Runs .trefLoss (fun u => u.time.running = true ∧ u.rdb pgTIME R.TIME_STAT_TREFLOSS = false)
    (fun u => ((u.wr pgTIME R.TIME_STAT_TREFLOSS 1).wr pgTIME R.TIME_STAT_LOCK 0).raise pgTIME 7) ∧
  Runs .trefReturn (fun u => u.rdb pgTIME R.TIME_STAT_TREFLOSS = true)
    (fun u => (u.wr pgTIME R.TIME_STAT_TREFLOSS 0).wr pgTIME R.TIME_STAT_LOCK 1) ∧
  (∀ (c : Fin 48) (x : Launch HostTx) (xs : List (Launch HostTx)) (f : List Byte), 44 ≤ c.val →
    x.item = .frame f →
    Runs (.frameLaunch · c)
      (fun u => (u.lane (c.val - 44)).launch = x :: xs ∧ x.tick ≤ u.now ∧ (u.lane (c.val - 44)).pauseEnd ≤ u.now ∧
        x.queued < x.tick)
      (fun u => (u.setLane (c.val - 44) { u.lane (c.val - 44) with launch := xs }).hostSend (c.val - 44) (.frame f))) ∧
  ∀ (c : Fin 48) (x : Launch HostTx) (xs : List (Launch HostTx)) (f : List Byte), 44 ≤ c.val →
    x.item = .frame f →
    Runs (.frameLaunch · c)
      (fun u => (u.lane (c.val - 44)).launch = x :: xs ∧ x.tick ≤ u.now ∧ (u.lane (c.val - 44)).pauseEnd ≤ u.now ∧
        x.tick ≤ x.queued)
      (fun u => (((u.setLane (c.val - 44) { u.lane (c.val - 44) with launch := xs }).hostSend (c.val - 44) (.frame f)).inc
        pgTIME R.TIME_LATE).raise pgTIME 9 c.val)

/-! ### Session -/

/-- HOST LANES (R193 to R197, R222, R227). A sound YRT frame that fits enters the ingest FIFO and counts as received; one
that does not fit is dropped, counted and flagged, its bytes credited; a received PAUSE counts, is flagged and,
with PAUSEEN 1, stops the lane for its quanta, whose end resumes it; a lane that is on comes up with its counts at 0; one that is up goes down with its sessions closed; a change of
MODE or FEC takes it down. -/
def Obligations.HostLanes : Prop :=
  (∀ (n : Fin 4) (f : List Byte), 64 ≤ f.length → leAt f (f.length - 4) 4 = fcs32 (f.take (f.length - 4)) →
    Runs (.hostFrameReceive · n f)
      (fun u => u.rdb (pgHLNK n.val) R.HLNK_STAT_UP = true ∧ f.length ≤ u.maxFrame n.val ∧
        etherType (f.take (f.length - 4)) = u.rd pgYRT R.YRT_CTL_ETYPE ∧ u.enabled pgYRT = true ∧
        (u.setLane n.val { u.lane n.val with yrtRx := (u.lane n.val).yrtRx + yrtBytes (f.take (f.length - 4)) }).fifoLevel
          n.val + yrtBytes (f.take (f.length - 4)) ≤ 131072)
      (fun u =>
        let k := yrtBytes (f.take (f.length - 4))
        let z := u.setLane n.val { u.lane n.val with yrtRx := (u.lane n.val).yrtRx + k }
        z.setLane n.val { z.lane n.val with fifo := (z.lane n.val).fifo ++ [{ bytes := f.take (f.length - 4), yrt := k }] })) ∧
  (∀ (n : Fin 4) (q : BitVec 16), 0 < q.toNat →
    Runs (.pauseReceive · n q)
      (fun u => u.rdb (pgHLNK n.val) R.HLNK_STAT_UP = true ∧ u.rdb (pgHLNK n.val) R.HLNK_CTL_PAUSEEN = true)
      (fun u =>
        let z := (u.incWrap (pgHLNK n.val) R.HLNK_PAUSE).raise (pgHLNK n.val) 4
        (z.setLane n.val { z.lane n.val with pauseEnd := z.now + q.toNat *
          (if z.rd (pgHLNK n.val) R.HLNK_CTL_MODE = 1 then 81920 else 32768) / 100 }).wr (pgHLNK n.val)
          R.HLNK_STAT_PAUSED 1)) ∧
  (∀ (n : Fin 4) (q : BitVec 16),
    Runs (.pauseReceive · n q)
      (fun u => u.rdb (pgHLNK n.val) R.HLNK_STAT_UP = true ∧ u.rdb (pgHLNK n.val) R.HLNK_CTL_PAUSEEN = false)
      (fun u => (u.incWrap (pgHLNK n.val) R.HLNK_PAUSE).raise (pgHLNK n.val) 4)) ∧
  (∀ n : Fin 4, Runs (.pauseEnd · n)
    (fun u => u.rdb (pgHLNK n.val) R.HLNK_STAT_PAUSED = true ∧ (u.lane n.val).pauseEnd ≤ u.now)
    (fun u =>
      let z := u.wr (pgHLNK n.val) R.HLNK_STAT_PAUSED 0
      z.setLane n.val { z.lane n.val with tx := (z.lane n.val).tx ++ (z.lane n.val).held, held := [] })) ∧
  (∀ n : Fin 4, Runs (.hostLaneUp · n)
    (fun u => u.pagesUp = true ∧ u.rdb (pgHLNK n.val) R.HLNK_STAT_UP = false ∧
      (u.rd (pgHLNK n.val) R.HLNK_CTL_MODE = 1 ∨ u.rd (pgHLNK n.val) R.HLNK_CTL_MODE = 2))
    (fun u =>
      let z := ((u.setLane n.val { u.lane n.val with d := 0, reconfig := false, yrtRx := 0 }).wr (pgHLNK n.val)
        R.HLNK_STAT_UP 1).wr (pgHLNK n.val) R.HLNK_STAT_BLOCKLOCK 1
      (z.wr (pgHLNK n.val) R.HLNK_STAT_FECLOCK (b2n (z.laneFec n.val != 0))).raise (pgHLNK n.val) 0)) ∧
  (∀ n : Fin 4, Runs (.hostLaneDown · n)
    (fun u => u.rdb (pgHLNK n.val) R.HLNK_STAT_UP = true)
    (fun u =>
      let z := u.closeWhere (fun x => x.open_ && decide (x.lane = n.val)) 8
      let l := z.lane n.val
      let y := z.setLane n.val { mac := l.mac, tx := l.tx, reconfig := l.reconfig }
      (y.wr (pgHLNK n.val) R.HLNK_STAT (y.rd (pgHLNK n.val) R.HLNK_STAT / 16 * 16)).raise (pgHLNK n.val) 1)) ∧
  ∀ (m : Master) (n : Fin 4) (v : Word), Runs (.hostLaneReconfig · m n v)
    (fun u => u.accepts m (fieldAddr (pgHLNK n.val) R.HLNK_CTL) .hlnk n.val = true ∧
      u.rd (pgHLNK n.val) R.HLNK_CTL % 16 ≠ (u.stored (pgHLNK n.val) R.HLNK_CTL v).rd (pgHLNK n.val) R.HLNK_CTL % 16)
    (fun u =>
      let z := (u.stored (pgHLNK n.val) R.HLNK_CTL v).laneDown n.val
      (z.setLane n.val { z.lane n.val with reconfig := true }).acceptedBy u m .hlnk n.val
        (fieldAddr (pgHLNK n.val) R.HLNK_CTL) v)

/-- THE FIFO AND FRAMES OUTSIDE SEQUENCE (R199, R209, R210, R222, R225, R228, R229, R712). Draining spends a token of the lane's
ingest budget for each 4 bytes, credits the bytes that leave, and hands the oldest frame on once it has left whole; with the
budget spent it stalls with the rest of the frame in the FIFO; a frame that does not parse is only counted; an ACK of an open
session counts; a NAK sends again every kept frame from its SEQ on, in order; the periodic CREDIT names every enabled host basin. -/
def Obligations.IngestAndAcks : Prop :=
  (∀ (n : Fin 4) (f : RxFrame) (rest : List RxFrame), Runs (.ingestDrain · n)
    (fun u => (u.weirRoll.lane n.val).fifo = f :: rest ∧ (f.yrt - f.gone + 3) / 4 ≤ (u.weirRoll.act (10 + n.val)).level)
    (fun u =>
      let z := u.weirRoll
      let x := z.act (10 + n.val)
      let k := (f.yrt - f.gone + 3) / 4
      ((z.setAct (10 + n.val) { x with level := x.level - k, admitted := x.admitted + k }).setLane n.val
        { z.lane n.val with fifo := rest, rx := (z.lane n.val).rx ++ [f] }).addD n.val (f.yrt - f.gone))) ∧
  (∀ (n : Fin 4) (f : RxFrame) (rest : List RxFrame), Runs (.ingestDrain · n)
    (fun u => (u.weirRoll.lane n.val).fifo = f :: rest ∧ (u.weirRoll.act (10 + n.val)).level < (f.yrt - f.gone + 3) / 4)
    (fun u =>
      let z := u.weirRoll
      let x := z.act (10 + n.val)
      ((z.setAct (10 + n.val) { x with level := 0, admitted := x.admitted + x.level, stalled := true }).setLane n.val
        { z.lane n.val with fifo := { f with gone := f.gone + 4 * x.level } :: rest }).addD n.val (4 * x.level))) ∧
  (∀ (n : Fin 4) (x : RxFrame) (rest : List RxFrame), (parseYrt x.bytes).kind = 0 →
    Runs (.yrtInvalidFrame · n) (fun u => (u.lane n.val).rx = x :: rest)
      (fun u => (u.setLane n.val { u.lane n.val with rx := rest }).inc pgYRT R.YRT_RXCNT_CRCERR)) ∧
  (∀ (n : Fin 4) (x : RxFrame) (rest : List RxFrame),
    Runs (.yrtAckReceive · n) (fun u => u.yrtFor n.val 0x13 x rest) (fun u => u.yrtTaken n.val x rest)) ∧
  (∀ (n : Fin 4) (x : RxFrame) (rest : List RxFrame),
    Runs (.yrtNakReceive · n) (fun u => u.yrtFor n.val 0x12 x rest)
      (fun u =>
        let y := parseYrt x.bytes
        let z := (u.yrtTaken n.val x rest).inc pgYRT R.YRT_RETXCNT_NAKRX
        State.each (fun s e => s.resend y.sess e) z ((z.session y.sess).kept.filter fun e => !seqAhead y.seq e.seq))) ∧
  ∀ n : Fin 4, Runs (.creditPeriodic · n) (fun u => u.laneOpen n.val = true ∧ (u.lane n.val).creditAt + us (atLeast1 (u.rd pgYRT R.YRT_TIMERS_CREDINT)) ≤ u.now) (fun u => u.credit n.val u.hostBasins)

/-- SESSIONS OPEN, PROVE AND CLOSE (R58, R60 to R63, R200 to R203). An OPEN without privilege takes the lowest free session, is
answered with CHALLENGE and lets CREDIT follow; a PROVE in time with the right proof gives privilege and GRANT 0; a CHALLENGE
without a PROVE for 100 ms counts as failed; the hold ends after its time; a CLOSE in sequence closes. -/
def Obligations.SessionHandshake : Prop :=
  (∀ (n : Fin 4) (x : RxFrame) (rest : List RxFrame) (k : Nat), (parseYrt x.bytes).kind = 0x01 →
    bitOf (parseYrt x.bytes).flags 2 = false →
    Runs (.yrtOpen · n)
      (fun u => (u.lane n.val).rx = x :: rest ∧ u.listening = false ∧
        (List.range 8).find? (fun j => (u.session j).open_ && decide ((u.session j).lane = n.val ∧
          (u.session j).mac = (parseYrt x.bytes).mac ∧
          (u.session j).nh = BitVec.ofNat 128 (leAt (parseYrt x.bytes).payload 0 16))) = none ∧
        (List.range 8).find? (fun j => !(u.session j).open_) = some k)
      (fun u =>
        let y := parseYrt x.bytes
        let z := (u.setLane n.val { u.lane n.val with rx := rest }).draw.2
        (((z.setSession k { open_ := true, lane := n.val, mac := y.mac, nh := BitVec.ofNat 128 (leAt y.payload 0 16),
                            nd := Config.freeNonce u.free, evmask := byteAt y.payload 16, chalStatus := 0, chalAt := z.now,
                            proving := false, lastRx := z.now, ackMoved := z.now }).raise pgYRT 0 k).challenge
          k).creditCheck n.val)) ∧
  (∀ (n : Fin 4) (x : RxFrame) (rest : List RxFrame), Runs (.yrtProve · n)
    (fun u =>
      let z := u.yrtTaken n.val x rest
      let k := (parseYrt x.bytes).sess
      u.yrtFor n.val 0x03 x rest ∧ (z.session k).chalStatus = 1 ∧ (z.session k).grant = none ∧
      (z.session k).proving = true ∧ z.now < (z.session k).chalAt + ms 100 ∧ (parseYrt x.bytes).payload = z.proof k)
    (fun u =>
      let z := u.yrtTaken n.val x rest
      let k := (parseYrt x.bytes).sess
      let w := z.setSession k { z.session k with priv := true }
      ({ w with priv := { w.priv with failures := 0 } } : State).grant k 0 (z.grantProof k))) ∧
  (∀ k : Fin 8, Runs (.proveTimeout · k)
    (fun u => (u.session k.val).proving = true ∧ (u.session k.val).chalAt + ms 100 ≤ u.now)
    (fun u => (u.setSession k.val { u.session k.val with proving := false }).authFail)) ∧
  Runs .authfailHoldExpiry (fun u => u.rdb pgPRIV R.PRIV_AUTHFAIL_HOLD = true ∧ u.priv.holdEnd ≤ u.now)
    (fun u => u.wr pgPRIV R.PRIV_AUTHFAIL_HOLD 0) ∧
  ∀ (n : Fin 4) (x : RxFrame) (rest : List RxFrame), Runs (.yrtClose · n)
    (fun u => u.yrtInSeq n.val 0x05 x rest)
    (fun u => ((u.yrtTaken n.val x rest).advance (parseYrt x.bytes).sess).closeSession (parseYrt x.bytes).sess)

/-- SEQUENCED FRAMES (R59, R205, R208, R213, R219, R713). In sequence, DATA that nothing refuses enters its basin and passes tap 0x01;
DATA refused otherwise is counted and answered with a NAK; a REGREQ that fits performs its access as its session and is answered; a READ of
bytes that the basin holds is answered by READDATA frames, of which the last consumes where the host asks. -/
def Obligations.SequencedFrames : Prop :=
  (∀ (n : Fin 4) (x : RxFrame) (rest : List RxFrame), Runs (.yrtData · n)
    (fun u => u.yrtInSeq n.val 0x10 x rest ∧ (u.yrtTaken n.val x rest).dataReason (parseYrt x.bytes) = 0)
    (fun u =>
      let y := parseYrt x.bytes
      let z := (u.yrtTaken n.val x rest).advance y.sess
      let b := z.basin y.basin
      let w := (z.basinPut y.basin b.p y.payload).setBasin y.basin { b with p := b.p + y.payload.length }
      (w.queueRecords y.basin b.p (b.p + y.payload.length)).tap 1 ((u.yrtTaken n.val x rest).session y.sess).lane y.payload
        true true none)) ∧
  (∀ (n : Fin 4) (x : RxFrame) (rest : List RxFrame) (r : Nat), r ≠ 0 → r ≠ 2 → Runs (.yrtData · n)
    (fun u => u.yrtInSeq n.val 0x10 x rest ∧ (u.yrtTaken n.val x rest).dataReason (parseYrt x.bytes) = r)
    (fun u => ((u.yrtTaken n.val x rest).inc pgYRT R.YRT_REFCNT_DATAREF).nak (parseYrt x.bytes).sess r (parseYrt x.bytes).seq)) ∧
  (∀ (n : Fin 4) (x : RxFrame) (rest : List RxFrame), regreqFits (parseYrt x.bytes).payload = true →
    Runs (.yrtRegreq · n) (fun u => u.yrtInSeq n.val 0x20 x rest)
      (fun u =>
        let y := parseYrt x.bytes
        let c := byteAt y.payload 4
        let r := ((u.yrtTaken n.val x rest).advance y.sess).request (.net (Fin.ofNat 8 y.sess)) (byteAt y.payload 0)
          (leAt y.payload 1 3) c ((List.range (c + 1)).map fun i => leAt y.payload (8 + 4 * i) 4)
        r.2.2.regresp y.sess y.seq r.1 r.2.1)) ∧
  ∀ (n : Fin 4) (x : RxFrame) (rest : List RxFrame), (parseYrt x.bytes).payload.length = 4 →
    (parseYrt x.bytes).basin < 32 → leAt (parseYrt x.bytes).payload 0 4 ≠ 0 →
    Runs (.yrtRead · n)
      (fun u =>
        let y := parseYrt x.bytes
        let z := (u.yrtTaken n.val x rest).advance y.sess
        u.yrtInSeq n.val 0x30 x rest ∧ z.basinOn y.basin = true ∧ z.basinDev y.basin = true ∧
        (z.basin y.basin).c ≤ y.offset ∧ y.offset + leAt y.payload 0 4 ≤ (z.basin y.basin).p)
      (fun u =>
        let y := parseYrt x.bytes
        ((u.yrtTaken n.val x rest).advance y.sess).sendReads y.sess y.basin y.offset (leAt y.payload 0 4)
          (bitOf (parseYrt x.bytes).flags 1) (leAt y.payload 0 4 / 2048 + 1))

/-- SESSION TIMERS (R60, R206, R209 to R211). With its time passed, a gap NAK is repeated, the oldest unanswered frame is
sent again with its count one higher, or after RETRYMAX the session closes with flag 2; an advance that no frame has carried is acknowledged; a
session without a frame closes. -/
def Obligations.SessionTimers : Prop :=
  (∀ (k : Fin 8) (a : Nat), Runs (.gapNakRepeat · k)
    (fun u => (u.session k.val).gapNakAt = some a ∧ (u.session k.val).open_ = true ∧ (u.session k.val).gapOpen = true ∧ a + u.nakTmo ≤ u.now)
    (fun u =>
      let z := (u.inc pgYRT R.YRT_GAPCNT_NAKTX).sendPlain k.val 0x12 0 1 (some (u.session k.val).expected) []
      z.setSession k.val { z.session k.val with gapNakAt := some z.now, gapOpen := true })) ∧
  (∀ (k : Fin 8) (e : Kept) (es : List Kept), Runs (.yrtRetransmitTimeout · k)
    (fun u => (u.session k.val).kept = e :: es ∧
      max (u.session k.val).ackMoved e.sentAt + us (atLeast1 (u.rd pgYRT R.YRT_RTO_RTO)) ≤ u.now ∧
      e.retx < atLeast1 (u.rd pgYRT R.YRT_TIMERS_RETRYMAX))
    (fun u => (u.setSession k.val { u.session k.val with kept := { e with retx := e.retx + 1, sentAt := u.now } :: es
      }).resend k.val e)) ∧
  (∀ (k : Fin 8) (e : Kept) (es : List Kept), Runs (.yrtRetransmitTimeout · k)
    (fun u => (u.session k.val).kept = e :: es ∧
      max (u.session k.val).ackMoved e.sentAt + us (atLeast1 (u.rd pgYRT R.YRT_RTO_RTO)) ≤ u.now ∧
      atLeast1 (u.rd pgYRT R.YRT_TIMERS_RETRYMAX) ≤ e.retx)
    (fun u => (u.closeSession k.val).raise pgYRT 2 k.val)) ∧
  (∀ (k : Fin 8) (d : Nat), Runs (.delayedAck · k)
    (fun u => (u.session k.val).ackDue = some d ∧ (u.session k.val).open_ = true ∧ d ≤ u.now)
    (fun u => u.sendPlain k.val 0x13 0 0 none [])) ∧
  ∀ k : Fin 8, Runs (.sessionIdleTimeout · k)
    (fun u => (u.session k.val).open_ = true ∧
      (u.session k.val).lastRx + ms (atLeast1 (u.rd pgPRIV R.PRIV_SESSTMO_MS)) ≤ u.now)
    (fun u => (u.setSession k.val {}).raise pgYRT 1 k.val)

/-! ### Codec -/

/-- DECOMPRESSION (R252 to R255, R258, R253). A channel delivers the next line of a landed good band once pacing lets it: the line
enters the channel's store, its bytes pass tap 0x06 (with those before it of a band taken up in its middle), and the channel
moves on one line; too few bytes are a decode error. A
line that is due and not delivered counts as late, sets flag 3 and triggers the stop; one delivered in time only moves the due line on. -/
def Obligations.Decompression : Prop :=
  (∀ (n : Fin 40) (j : Job) (b : Band) (g : Segment) (l : Int) (i : Nat), j.join = false → j.kind ≠ 2 → j.total = none →
    b.bad = false → g.bad = false → i + 1 ≠ b.nlines →
    Runs (.decodeLine · n)
      (fun u => u.jobs.cur = some j ∧ (u.dcp n.val).on = true ∧ u.jobLine j (u.dcp n.val).next = some l ∧
        j.bandAt (u.dcp n.val).next = some (b, i) ∧ b.seg n.val = some g ∧
        (l - u.lead (n.val / 5)) * 4096 ≤ u.ellHeld j (n.val / 5) ∧
        (i + 1) * segStride g j ≤ (inflate (if b.hist && b.number ≠ 0 then (u.dcp n.val).histIn else [])
          (u.basinGet j.basin (b.pos + g.off) g.clen) (b.nlines * segStride g j) ((i + 1) * segStride g j)).count)
      (fun u =>
        let x := u.dcp n.val
        let r := inflate (if b.hist && b.number ≠ 0 then x.histIn else []) (u.basinGet j.basin (b.pos + g.off) g.clen)
          (b.nlines * segStride g j) ((i + 1) * segStride g j)
        let line := sub r.own (i * segStride g j) (segStride g j)
        let from_ := if x.src = some b.pos then i * segStride g j else 0
        ((u.setDcp n.val { x with
            next := x.next + 1, band := b.number, src := some b.pos, consumed := (r.pos + 7) / 8,
            lines := if mfind x.lines x.next = none then mput x.lines x.next line else x.lines }).tap 6 n.val
          (sub r.own from_ ((i + 1) * segStride g j - from_)) (decide (x.src ≠ some b.pos ∨ i = 0)) false
          (some g.dcrc)).passBands)) ∧
  (∀ (n : Fin 40) (j : Job) (b : Band) (g : Segment) (l : Int) (i : Nat), j.join = false → j.kind ≠ 2 → j.total = none →
    b.bad = false → g.bad = false → i + 1 ≠ b.nlines →
    Runs (.decodeLine · n)
      (fun u => u.jobs.cur = some j ∧ (u.dcp n.val).on = true ∧ u.jobLine j (u.dcp n.val).next = some l ∧
        j.bandAt (u.dcp n.val).next = some (b, i) ∧ b.seg n.val = some g ∧
        (l - u.lead (n.val / 5)) * 4096 ≤ u.ellHeld j (n.val / 5) ∧
        (inflate (if b.hist && b.number ≠ 0 then (u.dcp n.val).histIn else [])
          (u.basinGet j.basin (b.pos + g.off) g.clen) (b.nlines * segStride g j) ((i + 1) * segStride g j)).count <
          (i + 1) * segStride g j)
      (fun u => ((u.inc pgDFL R.DFL_ERRCNT_DECERR).raise pgDFL 1 (b.number * 256 + n.val)).setCur (j.spoil b.pos n.val))) ∧
  (∀ (n : Fin 40) (j : Job) (l : Int), j.join = false → j.kind ≠ 2 → j.total = none →
    Runs (.lineDue · n)
      (fun u => u.jobs.cur = some j ∧ (u.dcp n.val).on = true ∧ u.jobLine j (u.dcp n.val).due = some l ∧
        (l - u.qLead (n.val / 5) - u.dBar (n.val / 5)) * 4096 ≤ u.ell j (n.val / 5) ∧
        (u.dcp n.val).due < (u.dcp n.val).next)
      (fun u => u.setDcp n.val { u.dcp n.val with due := (u.dcp n.val).due + 1 })) ∧
  ∀ (n : Fin 40) (j : Job) (l : Int), j.join = false → j.kind ≠ 2 → j.total = none →
    Runs (.lineDue · n)
      (fun u => u.jobs.cur = some j ∧ (u.dcp n.val).on = true ∧ u.jobLine j (u.dcp n.val).due = some l ∧
        (l - u.qLead (n.val / 5) - u.dBar (n.val / 5)) * 4096 ≤ u.ell j (n.val / 5) ∧
        (u.dcp n.val).next ≤ (u.dcp n.val).due)
      (fun u => (((u.setDcp n.val { u.dcp n.val with due := (u.dcp n.val).due + 1 }).inc pgDFL
        R.DFL_DIRCNT_LATE).raise pgDFL 3 (uns 56 l * 256 + n.val)).sbTrigger 1)

/-- COMPRESSOR COMMANDS (R265, R268 to R272). A single command that the channel's state accepts stores the fields of the register
and then acts: START with sound arguments resets the counts and runs, START with others ends in ERROR; RESUME runs on from STOPPED; ABORT
returns to IDLE; SAVE and RESTORE begin. A command that the state does not accept is refused with ERRCODE 4. -/
def Obligations.CompressorCommands : Prop :=
  (∀ (m : Master) (n : Fin 8) (v : Word), (∀ c, 12 < c → c ≤ 16 → bitOf v.toNat c = false) →
    Runs (.cmpStart · m n v)
      (fun u =>
        let w := withBit v (R.DFL_CMPCTL_START n.val)
        let z := u.stored pgCMP (R.DFL_CMPCTL n.val) w
        u.accepts m (fieldAddr pgCMP (R.DFL_CMPCTL n.val)) .cmp 0 = true ∧
        (z.cmpState n.val = 0 ∨ z.cmpState n.val = 3 ∨ z.cmpState n.val = 6) ∧ z.cmpArgs n.val = 0 ∧
        (z.rdb pgCMP (R.DFL_CMPCTL_HIST n.val) && z.rdb pgCMP (R.DFL_CMPSTAT_HISTVALID n.val)) = false)
      (fun u =>
        let w := withBit v (R.DFL_CMPCTL_START n.val)
        let z := u.stored pgCMP (R.DFL_CMPCTL n.val) w
        let y := z.setCmp n.val { z.cmp n.val with icount := 0, ocount := 0, written := 0, held := 0, window := [] }
        (((((y.wr pgCMP (R.DFL_CMPSTAT_HISTVALID n.val) 0).wr pgCMP (R.DFL_CMPSTAT_ERRCODE n.val) 0).wr pgCMP
          (R.DFL_CMPSTAT_BITS n.val) 0).wr pgCMP (R.DFL_CMPSTAT_STATE n.val) 1)).acceptedBy u m .cmp 0
          (fieldAddr pgCMP (R.DFL_CMPCTL n.val)) w)) ∧
  (∀ (m : Master) (n : Fin 8) (v : Word), (∀ c, 12 ≤ c → c ≤ 16 → c ≠ 13 → bitOf v.toNat c = false) →
    Runs (.cmpResume · m n v)
      (fun u => u.accepts m (fieldAddr pgCMP (R.DFL_CMPCTL n.val)) .cmp 0 = true ∧
        (u.stored pgCMP (R.DFL_CMPCTL n.val) (withBit v (R.DFL_CMPCTL_RESUME n.val))).cmpState n.val = 2)
      (fun u =>
        let w := withBit v (R.DFL_CMPCTL_RESUME n.val)
        let z := u.stored pgCMP (R.DFL_CMPCTL n.val) w
        (((z.setCmp n.val { z.cmp n.val with written := 0 }).wr pgCMP (R.DFL_CMPSTAT_ERRCODE n.val) 0).wr pgCMP
          (R.DFL_CMPSTAT_STATE n.val) 1).acceptedBy u m .cmp 0 (fieldAddr pgCMP (R.DFL_CMPCTL n.val)) w)) ∧
  (∀ (m : Master) (n : Fin 8) (v : Word), (∀ c, 12 ≤ c → c ≤ 16 → c ≠ 14 → bitOf v.toNat c = false) →
    Runs (.cmpAbort · m n v)
      (fun u =>
        let z := u.stored pgCMP (R.DFL_CMPCTL n.val) (withBit v (R.DFL_CMPCTL_ABORT n.val))
        u.accepts m (fieldAddr pgCMP (R.DFL_CMPCTL n.val)) .cmp 0 = true ∧ (z.cmpState n.val = 1 ∨ z.cmpState n.val = 2))
      (fun u =>
        let w := withBit v (R.DFL_CMPCTL_ABORT n.val)
        (((u.stored pgCMP (R.DFL_CMPCTL n.val) w).wr pgCMP (R.DFL_CMPSTAT_ERRCODE n.val) 0).wr pgCMP
          (R.DFL_CMPSTAT_STATE n.val) 0).acceptedBy u m .cmp 0 (fieldAddr pgCMP (R.DFL_CMPCTL n.val)) w)) ∧
  (∀ (m : Master) (n : Fin 8) (v : Word), (∀ c, 12 ≤ c → c ≤ 16 → c ≠ 15 → bitOf v.toNat c = false) →
    Runs (.cmpSave · m n v)
      (fun u => u.accepts m (fieldAddr pgCMP (R.DFL_CMPCTL n.val)) .cmp 0 = true ∧
        (u.stored pgCMP (R.DFL_CMPCTL n.val) (withBit v (R.DFL_CMPCTL_SAVE n.val))).cmpState n.val = 2)
      (fun u =>
        let w := withBit v (R.DFL_CMPCTL_SAVE n.val)
        let z := u.stored pgCMP (R.DFL_CMPCTL n.val) w
        (((z.setCmp n.val { z.cmp n.val with prior := 2 }).wr pgCMP (R.DFL_CMPSTAT_ERRCODE n.val) 0).wr pgCMP
          (R.DFL_CMPSTAT_STATE n.val) 4).acceptedBy u m .cmp 0 (fieldAddr pgCMP (R.DFL_CMPCTL n.val)) w)) ∧
  (∀ (m : Master) (n : Fin 8) (v : Word), (∀ c, 12 ≤ c → c ≤ 16 → c ≠ 16 → bitOf v.toNat c = false) →
    Runs (.cmpRestore · m n v)
      (fun u =>
        let z := u.stored pgCMP (R.DFL_CMPCTL n.val) (withBit v (R.DFL_CMPCTL_RESTORE n.val))
        u.accepts m (fieldAddr pgCMP (R.DFL_CMPCTL n.val)) .cmp 0 = true ∧
        (z.cmpState n.val = 0 ∨ z.cmpState n.val = 3 ∨ z.cmpState n.val = 6))
      (fun u =>
        let w := withBit v (R.DFL_CMPCTL_RESTORE n.val)
        (((u.stored pgCMP (R.DFL_CMPCTL n.val) w).wr pgCMP (R.DFL_CMPSTAT_ERRCODE n.val) 0).wr pgCMP
          (R.DFL_CMPSTAT_STATE n.val) 5).acceptedBy u m .cmp 0 (fieldAddr pgCMP (R.DFL_CMPCTL n.val)) w))

/-- COMPRESSOR EVENTS (R263 to R267, R272). SAVE done writes the 33,024 bytes of the area, ends with their CRC, and the channel
returns to the state it came from; RESTORE done with a wrong CRC is ERROR with code 3, with a right one it returns to STOPPED or DONE; a block
at effort 0 (a stored block, the only one whose bits the spec fixes) that finds no room stops the channel with flag 5, and one that fits is written. -/
def Obligations.CompressorEvents : Prop :=
  (∀ n : Fin 8, Runs (.cmpSaveDone · n) (fun u => u.cmpState n.val = 4)
    (fun u =>
      let x := u.cmp n.val
      let a := saveArea x u.free
      let snap : CmpSnap :=
        { draw := u.free, window := x.window, icount := x.icount, ocount := x.ocount,
          bits := u.rd pgCMP (R.DFL_CMPSTAT_BITS n.val), held := x.held, done := decide (x.prior = 3),
          hist := u.rdb pgCMP (R.DFL_CMPSTAT_HISTVALID n.val) }
      (({ u with free := u.free + 33020, saves := snap :: u.saves,
                 mem := dramPuts u.mem x.saveAt (a ++ leBytes (crc32c a) 4) } : State).wr pgCMP
        (R.DFL_CMPSTAT_STATE n.val) x.prior).raise pgDFL 7 n.val)) ∧
  (∀ n : Fin 8, Runs (.cmpRestoreDone · n)
    (fun u => u.cmpState n.val = 5 ∧ leNat ((dramBytes u.mem (u.cmp n.val).saveAt 33024).drop 33020) ≠
      crc32c ((dramBytes u.mem (u.cmp n.val).saveAt 33024).take 33020))
    (fun u => ((u.wr pgCMP (R.DFL_CMPSTAT_ERRCODE n.val) 3).wr pgCMP (R.DFL_CMPSTAT_STATE n.val) 6).raise pgDFL 6 n.val)) ∧
  (∀ (n : Fin 8) (e : CmpSnap), Runs (.cmpRestoreDone · n)
    (fun u =>
      let all := dramBytes u.mem (u.cmp n.val).saveAt 33024
      u.cmpState n.val = 5 ∧ leNat (all.drop 33020) = crc32c (all.take 33020) ∧
      u.saves.find? (fun e => decide ((all.take 33020).drop 32768 = freeBytes (e.draw + 32768) 252)) = some e)
    (fun u =>
      let z := u.draw.2.setCmp n.val { u.cmp n.val with window := e.window, icount := e.icount, ocount := e.ocount,
                                                        held := e.held % 2 ^ e.bits, written := 0 }
      ((((z.wr pgCMP (R.DFL_CMPSTAT_BITS n.val) e.bits).wr pgCMP (R.DFL_CMPSTAT_HISTVALID n.val) (b2n e.hist)).wr pgCMP
        (R.DFL_CMPSTAT_ERRCODE n.val) 0).wr pgCMP (R.DFL_CMPSTAT_STATE n.val) (if e.done then 3 else 2)).raise pgDFL 8
        n.val)) ∧
  (∀ n : Fin 8, Runs (.cmpBlockDone · n)
    (fun u =>
      let x := u.cmp n.val
      let bits := u.rd pgCMP (R.DFL_CMPSTAT_BITS n.val)
      let data := memBytes u.mem (x.src + x.icount) 16384
      u.cmpState n.val = 1 ∧ u.rd pgCMP (R.DFL_CMPCTL_EFFORT n.val) = 0 ∧ x.icount + 16384 < x.srcLen ∧
      u.cmpRoom n.val < (bits + (storedBlock bits false data).2 + 7) / 8)
    (fun u => (u.wr pgCMP (R.DFL_CMPSTAT_STATE n.val) 2).raise pgDFL 5 n.val)) ∧
  ∀ n : Fin 8, Runs (.cmpBlockDone · n)
    (fun u =>
      let x := u.cmp n.val
      let bits := u.rd pgCMP (R.DFL_CMPSTAT_BITS n.val)
      let data := memBytes u.mem (x.src + x.icount) 16384
      u.cmpState n.val = 1 ∧ u.rd pgCMP (R.DFL_CMPCTL_EFFORT n.val) = 0 ∧ x.icount + 16384 < x.srcLen ∧
      (bits + (storedBlock bits false data).2 + 7) / 8 ≤ u.cmpRoom n.val)
    (fun u =>
      let x := u.cmp n.val
      let bits := u.rd pgCMP (R.DFL_CMPSTAT_BITS n.val)
      let data := memBytes u.mem (x.src + x.icount) 16384
      let v := x.held + (storedBlock bits false data).1 * 2 ^ bits
      let w := bits + (storedBlock bits false data).2
      let z := ((u.tap 4 n.val data (decide (x.icount = 0)) false none).tap 5 n.val (leBytes v (w / 8))
        (decide (x.icount = 0)) false none).cmpPut n.val (leBytes v (w / 8))
      (z.setCmp n.val { z.cmp n.val with icount := x.icount + 16384, held := v / 2 ^ (w / 8 * 8) % 2 ^ (w % 8),
                                         window := slide x.window data }).wr pgCMP (R.DFL_CMPSTAT_BITS n.val) (w % 8))

/-! ### Job -/

/-- COMMAND RECORDS (R231 to R236, R320, R421, R715). C passes a sound record and the record acts: a JOB that nothing
refuses is queued behind a running job, one that something refuses is refused with its reason; HALT of the running job sets one
clean stop slot and enters HALTED; RESUME returns to PRINTING; ABORT of the queued job removes it; the first END gives the end of a live job of
unknown length. A record with a wrong CRC is refused with reason 1. -/
def Obligations.CommandRecords : Prop :=
  (∀ b : Nat, Runs .commandRecordWait
    (fun u => u.takesRecords = true ∧ (∃ at_, u.jobs.order = [(at_, b)]) ∧ u.basinOn b = true ∧ recordCrc (u.recordAt b) = false)
    (fun u =>
      let z := u.passRecord b
      (((z.wr pgBASN R.BASN_JOBSTAT_REFREASON 1).wr pgBASN R.BASN_JOBSTAT_REFBASIN b).raise pgBASN 1
        (leAt (u.recordAt b) 4 4)))) ∧
  (∀ b : Nat, Runs .jobRecord
    (fun u => u.recordIs b 1 ∧ (u.passRecord b).jobReason (parseJob (u.recordAt b)) = 0 ∧ u.jobs.cur ≠ none)
    (fun u =>
      let z := u.passRecord b
      let j := parseJob (u.recordAt b)
      ((z.setJobs { z.jobs with queued := some { j with cmdBasin := b } }).raise pgBASN 0 j.id).jobRegs)) ∧
  (∀ b : Nat, Runs .jobRecord
    (fun u => u.recordIs b 1 ∧ (u.passRecord b).jobReason (parseJob (u.recordAt b)) ≠ 0)
    (fun u =>
      let z := u.passRecord b
      let j := parseJob (u.recordAt b)
      (((z.wr pgBASN R.BASN_JOBSTAT_REFREASON (z.jobReason j)).wr pgBASN R.BASN_JOBSTAT_REFBASIN b).raise pgBASN 1 j.id))) ∧
  (∀ (b : Nat) (j : Job), Runs .haltRecord
    (fun u => u.recordIs b 2 ∧ (u.passRecord b).jobs.cur = some j ∧ (u.passRecord b).dev.state = .printing ∧
      (leAt (u.recordAt b) 4 4 = 0xFFFFFFFF ∨ leAt (u.recordAt b) 4 4 = j.id))
    (fun u =>
      let z := u.passRecord b
      let y := State.each (State.stopBar j) z ((barsOf j.bars).filter fun b => (z.barF b).stop.isNone)
      ((y.setJobs { y.jobs with haltAt := some y.now }).enterSide .halted 1).loopHold.jobRegs)) ∧
  (∀ (b : Nat) (j : Job), Runs .resumeRecord
    (fun u => u.recordIs b 3 ∧ (u.passRecord b).jobs.cur = some j ∧ (u.passRecord b).dev.state = .halted ∧
      (u.passRecord b).pio.stopAt ≠ some (u.passRecord b).now ∧
      (leAt (u.recordAt b) 4 4 = 0xFFFFFFFF ∨ leAt (u.recordAt b) 4 4 = j.id))
    (fun u =>
      (State.each (fun s b =>
        let y := s.warmSets b (s.barF b).sigma (s.rd (pgHLTH b) R.HLTH_WARM_RESUME : Nat)
        if bitOf y.waitBar b then y else y.freeBar b) ((u.passRecord b).goto .printing) (barsOf j.bars)).loopHold.jobRegs)) ∧
  (∀ (b : Nat) (j k : Job), j.id ≠ k.id → k.id ≠ 0xFFFFFFFF → Runs .abortRecord
    (fun u => u.recordIs b 4 ∧ (u.passRecord b).jobs.cur = some j ∧ (u.passRecord b).jobs.queued = some k ∧
      leAt (u.recordAt b) 4 4 = k.id)
    (fun u =>
      let z := u.passRecord b
      ((z.setJobs { z.jobs with queued := none }).raise pgBASN 3 k.id).jobRegs)) ∧
  ∀ (b : Nat) (j : Job), j.kind = 1 → j.lines = 0 → j.ended = none → Runs .endRecord
    (fun u => u.recordIs b 5 ∧ (u.passRecord b).jobs.cur = some j ∧ leAt (u.recordAt b) 4 4 = j.id)
    (fun u =>
      let z := u.passRecord b
      z.setJobs { z.jobs with cur := some { j with ended := some (leAt (u.recordAt b) 40 6) } })

/-- JOBS (R88, R221, R235, R236, R299, R320, R421). BASN_CMD halts, resumes and aborts the running job; the queued job takes
the free running place at a JOB boundary, with the JOB-class settings applied and the geometry of its bars computed, and
the device enters PRINTING; a completed job ends: its stops, warm-ups and reserved check channels go, a repeat frees its basin, the
device enters READY, the next job may start and JOBEND is set after it. -/
def Obligations.JobCommands : Prop :=
  (∀ (m : Master) (v : Word) (j : Job), bitOf v.toNat 1 = false → bitOf v.toNat 2 = false →
    Runs (.hostHalt · m v)
      (fun u =>
        let z := u.stored pgBASN R.BASN_CMD (withBit v R.BASN_CMD_HALT)
        u.accepts m (fieldAddr pgBASN R.BASN_CMD) .basn 0 = true ∧ z.jobs.cur = some j ∧ z.dev.state = .printing)
      (fun u =>
        let w := withBit v R.BASN_CMD_HALT
        let z := u.stored pgBASN R.BASN_CMD w
        let y := State.each (State.stopBar j) z ((barsOf j.bars).filter fun b => (z.barF b).stop.isNone)
        (((y.setJobs { y.jobs with haltAt := some y.now }).enterSide .halted 1).loopHold.jobRegs).acceptedBy u m .basn 0
          (fieldAddr pgBASN R.BASN_CMD) w)) ∧
  (∀ (m : Master) (v : Word) (j : Job), bitOf v.toNat 0 = false → bitOf v.toNat 2 = false →
    Runs (.hostResume · m v)
      (fun u =>
        let z := u.stored pgBASN R.BASN_CMD (withBit v R.BASN_CMD_RESUME)
        u.accepts m (fieldAddr pgBASN R.BASN_CMD) .basn 0 = true ∧ z.jobs.cur = some j ∧ z.dev.state = .halted ∧
          z.pio.stopAt ≠ some z.now)
      (fun u =>
        let w := withBit v R.BASN_CMD_RESUME
        let z := u.stored pgBASN R.BASN_CMD w
        ((State.each (fun s b =>
          let y := s.warmSets b (s.barF b).sigma (s.rd (pgHLTH b) R.HLTH_WARM_RESUME : Nat)
          if bitOf y.waitBar b then y else y.freeBar b) (z.goto .printing) (barsOf j.bars)).loopHold.jobRegs).acceptedBy u m
            .basn 0 (fieldAddr pgBASN R.BASN_CMD) w)) ∧
  (∀ (m : Master) (v : Word), bitOf v.toNat 0 = false → bitOf v.toNat 1 = false →
    Runs (.hostAbort · m v)
      (fun u => u.accepts m (fieldAddr pgBASN R.BASN_CMD) .basn 0 = true ∧
        (u.stored pgBASN R.BASN_CMD (withBit v R.BASN_CMD_ABORT)).inJob = true)
      (fun u =>
        let w := withBit v R.BASN_CMD_ABORT
        (u.stored pgBASN R.BASN_CMD w).endJob.acceptedBy u m .basn 0 (fieldAddr pgBASN R.BASN_CMD) w)) ∧
  (∀ q : Job, q.kind ≠ 2 → Runs .jobStart
    (fun u =>
      let z := (u.boundaries .job allPages).posApplied u
      u.jobs.cur = none ∧ u.jobs.queued = some q ∧ u.webHolds = false ∧ (u.dev.state = .ready ∨ u.inJob = true) ∧
      (∀ b ∈ barsOf q.bars, z.startFault q b = none) ∧ z.orderBad (barsOf q.bars) = false)
    (fun u =>
      let z := (u.boundaries .job allPages).posApplied u
      let j := { q with trig0 := u.rd pgPOS R.POS_TRIGSEQ, join := u.isStandby && decide (u.twin.peerState % 16 = 6) }
      let y := z.setJobs { z.jobs with queued := none, cur := some j }
      let w := State.each (State.bindBar j) (y.setFire { y.fire with xstart := j.xstart, lpi := j.lpi })
        ((List.range 8).filter y.barPart)
      let x := (((State.each (fun s b => (s.geometryPass b).startBar b) w (barsOf j.bars)).startChannels j).loopStart j).chkReserve
      ((x.raise pgBASN 2 j.id).change .printing x.dev.role x.dev.cause).sendAlign.jobRegs.dcpAll)) ∧
  ∀ j : Job, Runs .jobEnd
    (fun u => u.jobs.cur = some j ∧ u.inJob = true ∧ u.jobDone j = true ∧ u.cyclesLeft.sb = 0)
    (fun u =>
      let c := u.cyclesLeft
      let z := ((c.setJobs { c.jobs with cur := none, dcps := [] }).stopReq false).revPermit false
      let y := z.setFire { z.fire with ending := false }
      let x := State.each (fun s b => (s.setBarF b { s.barF b with stop := none, warm := none }).wr (pgHLTH b)
        R.HLTH_STAT_WARMING 0) y (barsOf j.bars)
      let w := if j.kind = 0 then x.consume j.basin (if j.passBytes ≠ 0 then j.start + j.passBytes else j.nextPos) else x
      let v := State.each (fun s b => (s.applyHeld b fun _ => true).endFactors b) w (barsOf j.bars)
      let r := v.loopEnd.chkRelease
      ((if r.inJob then r.goto .ready else r).tryStart.raise pgBASN 3 j.id).jobRegs.dcpAll)

/-- BASINS AND BANDS (R213 to R217, R221, R238, R239, R249). An enable of a basin that fits starts it at P and C 0; a
disable of a basin that no job names stops it; the host's write of C between C and P of a device-produced basin advances it;
a sound next band joins its job, one that fails only its CRC joins it as bad, counted and flagged. -/
def Obligations.BasinsAndBands : Prop :=
  (∀ (m : Master) (b : Fin 32) (v : Word),
    Runs (.basinEnable · m b v)
      (fun u => u.accepts m (fieldAddr pgBASNW (R.BASN_RCFG b.val)) .basnw 1 = true ∧ u.basinOn b.val = false ∧
        u.basinFits b.val (withBit v (R.BASN_RCFG_EN b.val)).toNat = true)
      (fun u =>
        let w := withBit v (R.BASN_RCFG_EN b.val)
        let z := (u.stored pgBASNW (R.BASN_RCFG b.val) w).wr pgBASNW (R.BASN_RCFG_DEVPROD b.val) (b2n (bitOf w.toNat 2))
        (State.each (fun s n => s.setLane n { s.lane n with creditL := merase (s.lane n).creditL b.val })
          ((z.basinAnew b.val).setBasin b.val {}) (List.range 4)).acceptedBy u m .basnw 1 (fieldAddr pgBASNW (R.BASN_RCFG b.val)) w)) ∧
  (∀ (m : Master) (b : Fin 32) (v : Word),
    Runs (.basinDisable · m b v)
      (fun u =>
        let w := withoutBit v (R.BASN_RCFG_EN b.val)
        let old := u.rd pgBASNW (R.BASN_RCFG b.val)
        u.accepts m (fieldAddr pgBASNW (R.BASN_RCFG b.val)) .basnw 1 = true ∧ u.basinOn b.val = true ∧
        bitsOf old 1 2 = bitsOf w.toNat 1 2 ∧ bitsOf old 4 6 = bitsOf w.toNat 4 6 ∧ u.basinNamed b.val = false)
      (fun u =>
        let w := withoutBit v (R.BASN_RCFG_EN b.val)
        (((u.stored pgBASNW (R.BASN_RCFG b.val) w).wr pgBASNW (R.BASN_RCFG_DEVPROD b.val) (b2n (bitOf w.toNat 2))).basinAnew
          b.val).acceptedBy u m .basnw 1 (fieldAddr pgBASNW (R.BASN_RCFG b.val)) w)) ∧
  (∀ (m : Master) (b : Fin 32) (value : BitVec 128),
    Runs (.basinConsume · m b value)
      (fun u =>
        let z := u.mbxLoadedOn m pgBASN .basn value.toNat
        u.takes m (headAddr pgBASN 0x20) .basn 0 = true ∧ z.basinOn b.val = true ∧ z.basinDev b.val = true ∧
        (z.basin b.val).c < value.toNat % 2 ^ 64 ∧ value.toNat % 2 ^ 64 ≤ (z.basin b.val).p)
      (fun u =>
        let z := u.mbxLoadedOn m pgBASN .basn value.toNat
        let y := ((z.setBasin b.val { z.basin b.val with c := value.toNat % 2 ^ 64 }).reportC b.val).credits
        (y.setMbx pgBASN m ((z.mbx pgBASN m).done (4 * b.val + 1) true (z.mbx pgBASN m).data)).mirrorWrite m .basn
          (headAddr pgBASN 0x20) (selWord (4 * b.val + 1) true).toNat u.isActive)) ∧
  (∀ (j : Job) (bs : List Byte), j.joining = false →
    Runs (.bandLand · false)
      (fun u => u.jobs.cur = some j ∧ u.bandBytes j = some bs ∧ u.landing j bs bs.length = ⟨j.nextBand, false, false, false⟩)
      (fun u =>
        let z := u.tap 2 j.basin (bs.drop 64) true true (some (leAt bs 32 4))
        (z.setJobs { z.jobs with cur := some (j.land (mkBand j bs ⟨j.nextBand, false, false, false⟩) false) }).passBands.dcpAll)) ∧
  ∀ (j : Job) (bs : List Byte), j.joining = false →
    Runs (.bandLand · true)
      (fun u => u.jobs.queued = some j ∧ u.bandBytes j = some bs ∧ u.landing j bs bs.length = ⟨j.nextBand, false, true, false⟩)
      (fun u =>
        let z := u.tap 2 j.basin (bs.drop 64) true true (some (leAt bs 32 4))
        let y := (z.inc pgBASN R.BASN_BANDCRC_FAIL).raise pgBASN 4 j.nextBand
        (y.setJobs { y.jobs with queued := some (j.land (mkBand j bs ⟨j.nextBand, false, true, false⟩) false) }).passBands.dcpAll)

/-! ### Pos -/

/-- EDGES AND STANDSTILL (R143 to R145, R147 to R149, R151, R162, R164 to R166, R181, R182). Each event comes after the edges whose hold
has ended. An edge of an enabled input starts a hold of
MINSP; an opposite edge within the hold cancels both, is counted and flagged; a hold that ends is accepted at its captured tick and decoded;
after STANDTMO the speed decays; below STANDV standstill is declared; a sound stretch window moves the target. -/
def Obligations.EdgesAndStandstill : Prop :=
  (∀ (i : Fin 9) (level : Bool), Runs (.posEdgeCapture · i level)
    (fun u =>
      let z := u.edgesFirst
      z.edgeOn i.val = true ∧ (z.edgeIn i.val).hold = none ∧ (z.edgeIn i.val).level ≠ level)
    (fun u =>
      let z := u.edgesFirst
      (z.setEdgeIn i.val { z.edgeIn i.val with
        hold := some { tick := z.now, endTick := z.now + z.minSp i.val, level := level } }).formTriggers)) ∧
  (∀ (i : Fin 9) (level : Bool) (h : EdgeHold), i.val < 6 → h.level ≠ level → Runs (.posEdgeCapture · i level)
    (fun u =>
      let z := u.edgesFirst
      z.edgeOn i.val = true ∧ (z.edgeIn i.val).hold = some h)
    (fun u =>
      let z := u.edgesFirst
      ((((z.setEdgeIn i.val { z.edgeIn i.val with hold := none }).inc pgPOS
        (R.POS_FLTCNT_EDGE (i.val / 3))).raise pgPOS 0 i.val).encError (i.val / 3) z.now).formTriggers)) ∧
  (∀ (i : Fin 9) (n : Fin 2) (h : EdgeHold), Runs (.edgeHoldExpiry · i)
    (fun u => u.firstDue = some (3 * n.val, h) ∧ (u.edgeIn (3 * n.val + 1)).hold = none ∧
      (((u.setEdgeIn (3 * n.val) { level := h.level, hold := none }).encCount n.val
        (u.signed n.val (quadCount (u.rd pgPOS (R.POS_ENCCFG_MULT n.val)) (u.edgeIn (3 * n.val)).level
          (u.edgeIn (3 * n.val + 1)).level h.level (u.edgeIn (3 * n.val + 1)).level)) h.tick).webTurned u).firstDue = none)
    (fun u => (((u.setEdgeIn (3 * n.val) { level := h.level, hold := none }).encCount n.val
        (u.signed n.val (quadCount (u.rd pgPOS (R.POS_ENCCFG_MULT n.val)) (u.edgeIn (3 * n.val)).level
          (u.edgeIn (3 * n.val + 1)).level h.level (u.edgeIn (3 * n.val + 1)).level)) h.tick).webTurned u).formTriggers)) ∧
  (∀ te : Nat, Runs .standstillTimeout
    (fun u => u.edgesFirst.pos.track.lastEdge = some te ∧ u.edgesFirst.pos.track.edges ≠ [] ∧
      te + u.edgesFirst.standTmo ≤ u.edgesFirst.now)
    (fun u => (u.edgesFirst.wr pgPOS R.POS_STAT_DECAY 1).posStatus)) ∧
  Runs .standstillDeclare
    (fun u =>
      let z := u.edgesFirst
      let y := (z.setPos { z.pos with track := z.pos.track.restart, wSpoiled := true }).wr pgPOS R.POS_STAT_DECAY 0
      z.fellBelow z.pos.hall.track (z.rd pgPOS R.POS_HALLSCALE) = false ∧ z.fellBelow z.pos.track z.srcScale = true ∧
      z.msrc ≠ 0 ∧ y.rdb pgPOS R.POS_STAT_STANDSTILL = false)
    (fun u =>
      let z := u.edgesFirst
      let y := (z.setPos { z.pos with track := z.pos.track.restart, wSpoiled := true }).wr pgPOS R.POS_STAT_DECAY 0
      let x := (y.wr pgPOS R.POS_STAT_STANDSTILL 1).raiseI pgPOS 15 (to256 y.x0)
      (x.noteX x.now).posStatus.webTurned z) ∧
  Runs .stretchWindow
    (fun u =>
      let z := u.edgesFirst
      let dx := z.x0 - z.pos.wX0
      let raw := ((z.encDist 1 - z.pos.wD1 - dx) * ppbUnit).fdiv dx - z.rdi pgPOS R.POS_STRZERO * 65536
      z.strWin ≤ dx.natAbs ∧ z.msrc = 1 ∧ z.pos.wOn = true ∧ z.pos.wSpoiled = false ∧ z.encService 0 = true ∧
      z.encService 1 = true ∧ raw.natAbs ≤ z.rd pgPOS R.POS_STRCFG_LIMIT * 65536000)
    (fun u =>
      let z := u.edgesFirst
      let dx := z.x0 - z.pos.wX0
      let raw := ((z.encDist 1 - z.pos.wD1 - dx) * ppbUnit).fdiv dx - z.rdi pgPOS R.POS_STRZERO * 65536
      let y := z.setPos { z.pos with
        sFrom := z.stretch, sAt := some z.x0, tracked := true,
        sTo := z.stretch + (raw - z.stretch).fdiv (2 ^ min 12 (z.rd pgPOS R.POS_STRCFG_FILT) : Nat) }
      (y.setPos { y.pos with
        wX0 := y.x0, wD1 := y.encDist 1, wSpoiled := !(y.encService 0 && y.encService 1) }).posStatus)

/-- SERIAL SENSORS (R173 to R179). At the start of a PERIOD window an enabled idle sensor of a device that is not standby is
asked; a word in time with the right CRC and no error bit gives position, count bound and tick, and ends the run of bad words; a
wrong CRC discards it, counted and flagged; a word not complete within TMO is discarded. -/
def Obligations.SerialSensors : Prop :=
  (∀ n : Fin 2, Runs (.ssnRequest · n)
    (fun u => u.ssnOn n.val = true ∧ u.isStandby = false ∧
      u.now % us (atLeast1 (u.rd pgPOS (R.POS_SSNCFG_PERIOD n.val))) = 0 ∧ (u.ssn n.val).busy = none)
    (fun u => u.setSsn n.val { u.ssn n.val with busy := some u.now })) ∧
  (∀ (n : Fin 2) (w : SsnWord) (first : Nat), w.ack = false → w.err = false → w.warn = false →
    Runs (.ssnWordReceive · n w)
      (fun u =>
        let z := u.edgesFirst
        let rx := w.crc.toNat % 2 ^ z.ssnWidth n.val
        z.ssnOn n.val = true ∧ (z.ssn n.val).busy = some first ∧ z.now < first + z.ssnTmo n.val ∧
        (if z.rdb pgPOS (R.POS_SSNCRC_INV n.val) then 2 ^ z.ssnWidth n.val - 1 - rx else rx) =
          z.ssnCrc n.val (w.position.toNat % 2 ^ z.ssnBits n.val) false false)
      (fun u =>
        let z := u.edgesFirst
        let latch := first + z.rd pgPOS (R.POS_SSNTIM_LAT n.val) * 160
        let y := z.setSsn n.val { z.ssn n.val with busy := none }
        let x := y.setSsn n.val { y.ssn n.val with
          position := w.position.toNat % 2 ^ z.ssnBits n.val, err := false, warn := false,
          words := (y.ssn n.val).words + 1#16, bound := z.ssnBound n.val latch, latch := latch }
        x.setSsn n.val { x.ssn n.val with bad := 0 })) ∧
  (∀ (n : Fin 2) (w : SsnWord) (first : Nat), w.ack = false →
    Runs (.ssnWordReceive · n w)
      (fun u =>
        let z := u.edgesFirst
        let rx := w.crc.toNat % 2 ^ z.ssnWidth n.val
        z.ssnOn n.val = true ∧ (z.ssn n.val).busy = some first ∧ z.now < first + z.ssnTmo n.val ∧
        (if z.rdb pgPOS (R.POS_SSNCRC_INV n.val) then 2 ^ z.ssnWidth n.val - 1 - rx else rx) ≠
          z.ssnCrc n.val (w.position.toNat % 2 ^ z.ssnBits n.val) w.err w.warn)
      (fun u =>
        let z := u.edgesFirst
        (((z.setSsn n.val { z.ssn n.val with busy := none }).inc pgPOS (R.POS_SSNCNT_CRC n.val)).raise pgPOS 9
          n.val).ssnBad n.val)) ∧
  ∀ (n : Fin 2) (first : Nat), Runs (.ssnWordTimeout · n)
    (fun u => u.edgesFirst.ssnOn n.val = true ∧ (u.edgesFirst.ssn n.val).busy = some first ∧
      first + u.edgesFirst.ssnTmo n.val ≤ u.edgesFirst.now)
    (fun u =>
      let z := u.edgesFirst
      (((z.setSsn n.val { z.ssn n.val with busy := none }).inc pgPOS (R.POS_SSNCNT_TMO n.val)).raise pgPOS 12
        n.val).ssnBad n.val)

/-- COMMANDS OF THE POSITION UNIT (R152, R169, R177, R180, R186, R584, R711). The clear bits of POS_CTL clear their fault and start its
counts anew, and the model source follows; EN of the page turns counting on or off, but not off in a job, which is refused; X0 takes a
written value, with the trigger ring and the stretch references moving along. (Writes with one command bit.) -/
def Obligations.PosCommands : Prop :=
  (∀ (m : Master) (n : Fin 2), Runs (.clearEncoderFault · m n)
    (fun u => u.accepts m (fieldAddr pgPOS R.POS_CTL) .pos 0 = true ∧
      (∀ c, 8 ≤ c → c ≤ 12 → bitOf (u.word (fieldAddr pgPOS R.POS_CTL)).toNat c = false) ∧
      ((u.enc n.val).errAt ≠ u.now ∨ (u.enc n.val).errNow = 0) ∧ (u.enc n.val).disAt ≠ some u.now)
    (fun u =>
      let w := withBit (u.word (fieldAddr pgPOS R.POS_CTL)) (if n = 0 then R.POS_CTL_CLRFLT0 else R.POS_CTL_CLRFLT1)
      let z := (u.stored pgPOS R.POS_CTL w).wr pgPOS (if n.val = 0 then R.POS_STAT_ENC0FLT else R.POS_STAT_ENC1FLT) 0
      let y := (z.setEnc n.val { z.enc n.val with errs := [] }).wr pgPOS (consecFld n.val) 0
      ((State.each State.ssnIdle y [0, 1]).posEnables (u.encOn 0) (u.encOn 1) (u.edgeOn 6)).acceptedBy u m .pos 0
        (fieldAddr pgPOS R.POS_CTL) w)) ∧
  (∀ m : Master, Runs (.clearHallFault · m)
    (fun u => u.accepts m (fieldAddr pgPOS R.POS_CTL) .pos 0 = true ∧
      ∀ c, 8 ≤ c → c ≤ 12 → bitOf (u.word (fieldAddr pgPOS R.POS_CTL)).toNat c = false)
    (fun u =>
      let w := withBit (u.word (fieldAddr pgPOS R.POS_CTL)) R.POS_CTL_CLRHALL
      let z := u.stored pgPOS R.POS_CTL w
      let y := (z.wr pgPOS R.POS_STAT_HALLFLT 0).setPos { z.pos with
        hall := { z.pos.hall with errs := [] } }
      ((State.each State.ssnIdle y [0, 1]).posEnables (u.encOn 0) (u.encOn 1) (u.edgeOn 6)).acceptedBy u m .pos 0
        (fieldAddr pgPOS R.POS_CTL) w)) ∧
  (∀ (m : Master) (n : Fin 2), Runs (.clearSsnFault · m n)
    (fun u => u.accepts m (fieldAddr pgPOS R.POS_CTL) .pos 0 = true ∧
      ∀ c, 8 ≤ c → c ≤ 12 → bitOf (u.word (fieldAddr pgPOS R.POS_CTL)).toNat c = false)
    (fun u =>
      let w := withBit (u.word (fieldAddr pgPOS R.POS_CTL)) (if n = 0 then R.POS_CTL_CLRSSN0 else R.POS_CTL_CLRSSN1)
      let z := u.stored pgPOS R.POS_CTL w
      let y := (z.wr pgPOS (ssnFlt n.val) 0).setSsn n.val { z.ssn n.val with bad := 0 }
      ((State.each State.ssnIdle y [0, 1]).posEnables (u.encOn 0) (u.encOn 1) (u.edgeOn 6)).acceptedBy u m .pos 0
        (fieldAddr pgPOS R.POS_CTL) w)) ∧
  (∀ (m : Master) (en : Bool), Runs (.posEnableWrite · m en)
    (fun u => u.takes m (headAddr pgPOS 0x08) .pos 0 = true ∧ (en = true ∨ u.inJob = false))
    (fun u =>
      ((State.each State.ssnIdle (u.setHead pgPOS { u.head pgPOS with en := en }) [0, 1]).posEnables (u.encOn 0) (u.encOn 1)
        (u.edgeOn 6)).mirrorWrite m .pos (headAddr pgPOS 0x08) (ctlEnable en).toNat u.isActive)) ∧
  (∀ m : Master, Runs (.posEnableWrite · m false)
    (fun u => u.takes m (headAddr pgPOS 0x08) .pos 0 = true ∧ u.inJob = true)
    (fun u => ((u.inc pgPRIV R.PRIV_REFUSED).raise (headAddr pgPOS 0x08 / 4096) flagRefused).audit m
      (headAddr pgPOS 0x08) 0 0 8)) ∧
  ∀ (m : Master) (x : BitVec 64), Runs (.posX0Write · m x)
    (fun u => u.takes m (headAddr pgPOS 0x20) .pos 0 = true ∧ u.inJob = false)
    (fun u =>
      let z := u.mbxLoadedOn m pgPOS .pos x.toNat
      let d := sgn 64 x.toNat * 256 - z.x0
      let p := z.pos
      let y := (z.setPos { p with
        off := p.off + d, hist := p.hist.map (fun h => { h with x0 := h.x0 + d }), sAt := p.sAt.map (· + d), wX0 := p.wX0 + d, pend := p.pend.map (· + d),
        trigs := p.trigs.map (fun e => (e.1, { e.2 with xp := e.2.xp + d })), lastXp := p.lastXp.map (· + d) }).posStatus
      (y.setMbx pgPOS m ((z.mbx pgPOS m).done 0 true (z.mbx pgPOS m).data)).mirrorWrite m .pos (headAddr pgPOS 0x20)
        (selWord 0 true).toNat u.isActive)

/-! ### Print -/

/-- MAPPING AND THE TABLES (R280, R287, R294 to R296, R302 to R304, R493). A line of a running job that every channel of the bar has
delivered is mapped column by column into planes and side records, and the bar goes on to the next line; software replaces bits [15:0] of
the addressed nozzle entry, with its loop base where the trim changed; four thresholds are set outside a job, in a job the write is refused. -/
def Obligations.MappingAndTables : Prop :=
  (∀ (b : Fin 8) (j : Job) (line : Int), Runs (.mapBarLine · b)
    (fun u => u.jobs.cur = some j ∧ u.inJob = true ∧ bitOf j.bars b.val = true ∧
      u.jobLine j (u.nextMap j b.val) = some line ∧ u.delivered b.val (u.nextMap j b.val) = true)
    (fun u =>
      let d := u.nextMap j b.val
      let z := u.flushFactors b.val line
      let acc := ((List.range (z.barEnd b.val - z.xcol b.val 0)).map (z.xcol b.val 0 + ·)).foldl
        (MapAcc.column j b.val d line (decide (d = 0))) { st := z }
      let px := List.replicate (z.xcol b.val 0) 0 ++ acc.px.reverse
      let y := State.each (State.putSide b.val (lineSlot line) acc.sides)
        (acc.st.putPlanes b.val (lineSlot line) (px ++ List.replicate (104448 - px.length) 0)) (List.range 22)
      let x := y.setBarRast b.val { y.barRast b.val with
        next := d + 1,
        mapped := if line < 0 then (y.barRast b.val).mapped else mset 0 (y.barRast b.val).mapped (lineSlot line) (line.toNat + 1) }
      let v := (State.each (fun s c => s.setDcp (b.val * 5 + c) { s.dcp (b.val * 5 + c) with
        lines := merase (s.dcp (b.val * 5 + c)).lines d }) x (List.range 5)).applyHeld b.val fun w => decide (w.stamp ≤ d)
      (if acc.nmin = 5 then v else v.wr (pgFIRE b.val) R.FIRE_STAT_NMIN acc.nmin).speedCheck)) ∧
  (∀ (m : Master) (b : Fin 8) (v : Word) (i : Nat), Runs (.nozzleTableWrite · m b v)
    (fun u => u.accepts m (fieldAddr (pgRAST b.val) R.RAST_NTDATA) .rast b.val = true ∧
      nozAddr (u.rd (pgRAST b.val) R.RAST_NTADDR) = some i ∧ (u.nozStamped = true ∨ (nozKey b.val i, u.now) ∉ u.ntEngine))
    (fun u =>
      let z := ({ u with ntHost := u.noted u.ntHost (nozKey b.val i) } : State).nozWrite b.val i 0xFFFF (v.toNat % 65536)
      (if u.nozzleNext b.val i % 256 = v.toNat % 256 then z else z.setBase b.val i (sgn 8 v.toNat)).acceptedBy u m .rast b.val
        (fieldAddr (pgRAST b.val) R.RAST_NTDATA) v)) ∧
  (∀ (m : Master) (v : Word), Runs (.thresholdTableWrite · m v)
    (fun u => u.accepts m (fieldAddr pgRASTC R.RAST_THRDATA) .rastc 0 = true ∧ u.inJob = false)
    (fun u => (u.putThreshold (u.rd pgRASTC R.RAST_THRADDR_WORD) v.toNat).acceptedBy u m .rastc 0
      (fieldAddr pgRASTC R.RAST_THRDATA) v)) ∧
  ∀ (m : Master) (v : Word), Runs (.thresholdTableWrite · m v)
    (fun u => u.takes m (fieldAddr pgRASTC R.RAST_THRDATA) .rastc 0 = true ∧ u.inJob = true)
    (fun u => ((u.inc pgPRIV R.PRIV_REFUSED).raise (fieldAddr pgRASTC R.RAST_THRDATA / 4096) flagRefused).audit m
      (fieldAddr pgRASTC R.RAST_THRDATA) v.toNat 0 8)

/-- FIRE AND PACE (R309, R310, R313, R336, R344, R436, R437, R591, R592, R606). The slot that a bar's lead allows and whose lines are complete is sent
tile by tile and becomes committed; the pace frames of a new grid frame leave once; a tile without a report for STALE ms is stale, with its flag;
the mark is on from the inspection point of a defect for INSPW us. -/
def Obligations.FireAndPace : Prop :=
  (∀ (b : Fin 8) (j : Job), Runs (.fireFrameSend · b)
    (fun u => u.jobs.cur = some j ∧ u.dev.state = .printing ∧ bitOf j.bars b.val = true ∧
      ((u.barF b.val).next - (u.qLead b.val : Nat)) * 4096 ≤ u.ellHeld j b.val ∧
      u.slotReady j b.val (u.barF b.val).next j.total = true)
    (fun u =>
      let slot := (u.barF b.val).next
      let r := u.fireTiles b.val slot (List.range (u.fitted b.val))
      let z := r.2.setBarF b.val { r.2.barF b.val with
        next := slot + 1,
        recent := (slot, r.2.now) :: (r.2.barF b.val).recent.filter fun e => decide (r.2.now < e.2 + us 2) }
      let y := z.setTwin { z.twin with ownCommitted := mput z.twin.ownCommitted b.val (uns 48 slot) }
      if y.pairMode then y.ownSummary b.val (uns 48 slot) (crc32c (r.1.flatMap fun c => leBytes c 4)) else y)) ∧
  (∀ j : Job, Runs .paceFrameLaunch
    (fun u => u.jobs.cur = some j ∧ u.inJob = true ∧ u.fire.lastS < u.paceStart)
    (fun u => (State.each (State.paceBar j u.paceStart) (u.setFire { u.fire with lastS := u.paceStart })
      (barsOf j.bars)).sbDone.takeoverDone.speedCheck)) ∧
  (∀ (b : Fin 8) (t : Fin 22), Runs (.tempStale · b t)
    (fun u => t.val < u.fitted b.val ∧ (u.tile b.val t.val).stale = false ∧ 
      (u.tile b.val t.val).statAt + ms (atLeast1 (u.rd (pgFIRE b.val) R.FIRE_TLIM2_STALE)) ≤ u.now)
    (fun u => (((u.setTile b.val t.val { u.tile b.val t.val with stale := true }).raise (pgFIRE b.val) 4 t.val).fireStat
      b.val).speedCheck)) ∧
  Runs .inspectionMarkStart (fun u => ∃ x ∈ u.fire.marks, x ≤ u.x0At u.now)
    (fun u => { u.setFire { u.fire with marks := u.fire.marks.filter (fun x => !decide (x ≤ u.x0At u.now)),
                                        markEnd := u.now + us (atLeast1 (u.rd pgFIREC R.FIRE_INSPW_US)) } with
      lines := { u.lines with mark := true } }) ∧
  Runs .inspectionMarkEnd (fun u => u.lines.mark = true ∧ u.fire.markEnd ≤ u.now)
    (fun u => { u with lines := { u.lines with mark := false } })

/-- THE STOP SEQUENCE (R421, R433, R435, R438, R439). With every waiting bar backed up, REV_PERMIT goes and the sequence waits; at
standstill, with data and no hard stop, STOP_REQ goes and it returns; a bar that passes its arm point counts a retry and stops again, or
after RETRYMAX the sequence fails; REARM leaves FAILED with the retries at 0. -/
def Obligations.StopSequence : Prop :=
  (∀ j : Job, Runs .sbBacked
    (fun u => u.jobs.cur = some j ∧ u.sb = 2 ∧ (barsOf u.waitBar).all (u.backed j) = true)
    (fun u => ((u.revPermit false).setSb 3).raise pgFIREC 3)) ∧
  (∀ j : Job, Runs .sbReturning
    (fun u => u.jobs.cur = some j ∧ u.sb = 3 ∧ u.rdb pgPOS R.POS_STAT_STANDSTILL = true ∧ u.dataOk = true ∧
      (∀ b, b < 8 → u.rd (pgFIRE b) R.FIRE_HARD_TILES = 0) ∧ u.dev.state = .printing)
    (fun u => State.each (fun s b => s.warmSets b (s.barF b).sigma (s.rd (pgHLTH b) R.HLTH_WARM_RESUME : Nat))
      ((u.stopReq false).setSb 4) (barsOf j.bars))) ∧
  (∀ (b : Fin 8) (j : Job), Runs (.sbRetry · b)
    (fun u =>
      let n := satInc 4 (u.rd pgFIREC R.FIRE_SBSTAT_RETRIES)
      let z := (((u.wr pgFIREC R.FIRE_SBSTAT_RETRIES n).inc pgFIREC R.FIRE_SBCNT_RETRY).raise pgFIREC 6 b.val).stopReq true
      u.jobs.cur = some j ∧ (u.sb = 3 ∨ u.sb = 4) ∧ bitOf u.waitBar b.val = true ∧
      ((u.barF b.val).sigma - (u.armGap : Nat)) * 4096 < u.ell j b.val ∧ n < atLeast1 (z.rd pgFIREC R.FIRE_SBCFG_RETRYMAX))
    (fun u =>
      let n := satInc 4 (u.rd pgFIREC R.FIRE_SBSTAT_RETRIES)
      let z := (((u.wr pgFIREC R.FIRE_SBSTAT_RETRIES n).inc pgFIREC R.FIRE_SBCNT_RETRY).raise pgFIREC 6 b.val).stopReq true
      (z.setSb 1).sbStill)) ∧
  (∀ (b : Fin 8) (j : Job), Runs (.sbRetry · b)
    (fun u =>
      let n := satInc 4 (u.rd pgFIREC R.FIRE_SBSTAT_RETRIES)
      let z := (((u.wr pgFIREC R.FIRE_SBSTAT_RETRIES n).inc pgFIREC R.FIRE_SBCNT_RETRY).raise pgFIREC 6 b.val).stopReq true
      u.jobs.cur = some j ∧ (u.sb = 3 ∨ u.sb = 4) ∧ bitOf u.waitBar b.val = true ∧
      ((u.barF b.val).sigma - (u.armGap : Nat)) * 4096 < u.ell j b.val ∧ atLeast1 (z.rd pgFIREC R.FIRE_SBCFG_RETRYMAX) ≤ n)
    (fun u =>
      let n := satInc 4 (u.rd pgFIREC R.FIRE_SBSTAT_RETRIES)
      let z := (((u.wr pgFIREC R.FIRE_SBSTAT_RETRIES n).inc pgFIREC R.FIRE_SBCNT_RETRY).raise pgFIREC 6 b.val).stopReq true
      (z.setSb 5).raise pgFIREC 7)) ∧
  ∀ (m : Master) (v : Word), Runs (.sbRearmCmd · m v)
    (fun u => u.accepts m (fieldAddr pgFIREC R.FIRE_SBCMD) .firec 0 = true ∧
      (u.stored pgFIREC R.FIRE_SBCMD (withBit v R.FIRE_SBCMD_REARM)).sb = 5)
    (fun u =>
      let w := withBit v R.FIRE_SBCMD_REARM
      (((u.stored pgFIREC R.FIRE_SBCMD w).wr pgFIREC R.FIRE_SBSTAT_RETRIES 0).setSb 1).sbStill.acceptedBy u m .firec 0
        (fieldAddr pgFIREC R.FIRE_SBCMD) w)

/-! ### Tile -/

/-- REPORTS OF TILES (R331, R354, R366, R380, R382, R387, R388, R397, R398, R417). A sound STATUS without events renews
temperature, supply, LASTFIRED and the facts of the link, and what follows them; a CAP is kept and its position has answered; a LINK report
is kept and, in training, judged; an ECHO of the open probe gives a delay sample, of which the mean of four goes to the tile; a frame that
does not pass R366 is discarded and counted; one of the other device is counted as such, and a newer EPOCH fences an active device. -/
def Obligations.TileReports : Prop :=
  (∀ (n : Fin 40) (f : List Byte) (p : Nat),
    byteAt (tilePayload f) 5 = 0 → byteAt (tilePayload f) 21 = 0 → leAt (tilePayload f) 24 6 = 2 ^ 48 - 1 →
    bitOf (byteAt (tilePayload f) 4) 7 = false →
    Runs (.tileStatus · n f) (fun u => u.statFor n.val 0 p f)
      (fun u =>
        let st := parseStatus (tilePayload f)
        let b := n.val / 5
        let t := tileOf n.val p
        let z := (u.statSeen n.val p f).statusLink n.val p st
        let y := z.setTile b t { z.tile b t with
          temp := st.temp, volt := st.volt, known := true, stale := false, statAt := z.now, fired := st.lastFired,
          lastFired := if z.inJob then some st.lastFired else none,
          sets := (z.tile b t).sets.filter fun a => decide (st.lastFired < a),
          facs := (z.tile b t).facs.filter fun a => decide (st.lastFired < a) }
        let x := ((y.healthStatus b t st.temp st.volt).pumpTile b t 64).coolDown b t st
        ((((x.statusStep n.val p b t st).fireStat b).warmStat b).healCheck n.val).speedCheck)) ∧
  (∀ (n : Fin 40) (f : List Byte), State.tileGood n.val f = false →
    Runs (.tileStatus · n f) (fun u => u.laneOn n.val = true ∧ u.lstate n.val ≠ 0)
      (fun u => u.inc (pgTLNK n.val) R.TLNK_CRCERR)) ∧
  (∀ (n : Fin 40) (f : List Byte) (p : Nat), Runs (.tileCap · n f) (fun u => u.early = [] ∧ u.statFor n.val 1 p f)
    (fun u =>
      let pl := tilePayload f
      let z := u.statSeen n.val p f
      let y := z.setTpos n.val p { z.tpos n.val p with cap := some pl, answered := true }
      let x := y.wr (pgTLNK n.val) R.TLNK_STAT_NTILES (y.answers n.val)
      ((if bitOf (byteAt pl 7) 2 then x.raise (pgTLNK n.val) 11 p else x).newSerial (n.val / 5) (tileOf n.val p)
        (leAt pl 16 8)).laneAnswered n.val)) ∧
  (∀ (n : Fin 40) (f : List Byte) (p : Nat), Runs (.tileLinkReport · n f) (fun u => u.statFor n.val 3 p f)
    (fun u =>
      let z := u.statSeen n.val p f
      (z.setTpos n.val p { z.tpos n.val p with link := tilePayload f, linked := true }).judgeStep n.val)) ∧
  (∀ (n : Fin 40) (f : List Byte) (t1 : Nat), State.tileGood n.val f = true → tileType f = 4 → tileSub f = 2 →
    tileDest f = 0xE → leAt (tilePayload f) 0 5 = t1 →
    Runs (.timeEcho · n f)
      (fun u => u.laneOn n.val = true ∧ u.lstate n.val ≠ 0 ∧ (u.tl n.val).probed = some (tileSrc f, t1))
      (fun u =>
        let p := tileSrc f
        let z := u.sawEpoch (leAt f 4 4)
        let ds := (z.echoDelay n.val t1 f :: (z.tpos n.val p).samples).take 4
        let m := (sumI ds).fdiv ds.length
        let x := { z.tpos n.val p with samples := ds }
        let y := z.setTpos n.val p (if z.eastEnd then { x with dE := m } else { x with dW := m })
        (y.setTl n.val { y.tl n.val with probed := none }).sendDelay n.val p)) ∧
  (∀ (n : Fin 40) (f : List Byte), State.tileGood n.val f = true → tileType f ≠ 7 → tileType f ≠ 8 →
    Runs (.otherDeviceFrame · n f) (fun u => u.laneOn n.val = true ∧ u.lstate n.val ≠ 0 ∧ u.fromOther f = true)
      (fun u => (u.sawEpoch (leAt f 4 4)).inc (pgTLNK n.val) R.TLNK_DISC_OTHER)) ∧
  ∀ (n : Fin 40) (f : List Byte), State.tileGood n.val f = true → tileType f = 7 →
    Runs (.otherDeviceFrame · n f)
      (fun u => u.laneOn n.val = true ∧ u.lstate n.val ≠ 0 ∧ u.fromOther f = true ∧
        newerEpoch (leAt f 4 4) (u.rd pgTWIN R.TWIN_EPOCH) = true ∧ (u.isActive = true ∨ u.dev.role = .solo))
      (fun u =>
        let z := (u.sawEpoch (leAt f 4 4)).fence 4 (pgTLNK n.val) 13
        (z.setTwin { z.twin with declared := none }).inc (pgTLNK n.val) R.TLNK_DISC_OTHER)

/-- BRING-UP OF A LANE (R350 to R353, R356, R357, R359, R705). BRINGUP starts the lane at rate code 0, hunting, and is refused in
a job; lock in LSTATE 1 sends ENUM and CAPREQ; a loss of lock is counted and flagged; a rate that has not locked in 5 ms counts as failed
and the lane returns to the rate before; after the dwell the lead end asks for the reports; a lane whose tiles are provisioned and in time is UP; a
lane that finds no lock at rate code 0 in 100 ms fails. -/
def Obligations.LaneBringup : Prop :=
  (∀ (m : Master) (n : Fin 40) (v : Word), Runs (.laneBringup · m n v)
    (fun u =>
      let z := u.stored (pgTLNK n.val) R.TLNK_CTL (withBit v R.TLNK_CTL_BRINGUP)
      u.accepts m (fieldAddr (pgTLNK n.val) R.TLNK_CTL) .tlnk n.val = true ∧ u.inJob = false ∧ z.pagesUp = true ∧
        z.laneOn n.val = true ∧ z.barService (n.val / 5) = true)
    (fun u =>
      let w := withBit v R.TLNK_CTL_BRINGUP
      let z := u.stored (pgTLNK n.val) R.TLNK_CTL w
      let old := z.tl n.val
      let y := z.setTl n.val { seq := old.seq, tx := old.tx, txAt := old.txAt,
                               maxRate := z.rd (pgTLNK n.val) R.TLNK_CTL_MAXRATE, huntAt := z.now }
      let x := ((y.setLstate n.val 1).wr (pgTLNK n.val) R.TLNK_STAT_RATE 0).wr (pgTLNK n.val) R.TLNK_STAT_LOCK 0
      (((x.wr (pgTLNK n.val) R.TLNK_STAT_NTILES 0).wr (pgTLNK n.val) R.TLNK_STAT_BREAKHOP 7).wr (pgTLNK n.val)
        R.TLNK_STAT_HEALED 0).acceptedBy u m .tlnk n.val (fieldAddr (pgTLNK n.val) R.TLNK_CTL) w)) ∧
  (∀ n : Fin 40, Runs (.laneLock · n true)
    (fun u => u.laneOn n.val = true ∧ u.lstate n.val = 1 ∧ u.locked n.val = false)
    (fun u =>
      let z := (u.wr (pgTLNK n.val) R.TLNK_STAT_LOCK 1).raise (pgTLNK n.val) 0
        ((u.wr (pgTLNK n.val) R.TLNK_STAT_LOCK 1).rate n.val)
      ((z.setLstate n.val 2).clearAnswers n.val).sendEnum n.val)) ∧
  (∀ n : Fin 40, Runs (.laneLockLoss · n) (fun u => u.locked n.val = true ∧ u.lstate n.val ≠ 2)
    (fun u =>
      let z := (u.wr (pgTLNK n.val) R.TLNK_STAT_LOCK 0).inc (pgTLNK n.val) R.TLNK_LOCKCNT_LOSS
      z.raise (pgTLNK n.val) 1 (z.rate n.val))) ∧
  (∀ n : Fin 40, Runs (.rateSwitchTimeout · n)
    (fun u => u.lstate n.val = 4 ∧ u.locked n.val = false ∧ u.rate n.val ≠ (u.tl n.val).prev ∧
      (u.tl n.val).switchAt + ms 5 ≤ u.now)
    (fun u =>
      let z := (u.rateFail n.val (u.rate n.val)).wr (pgTLNK n.val) R.TLNK_STAT_RATE (u.tl n.val).prev
      z.setTl n.val { z.tl n.val with huntAt := z.now })) ∧
  (∀ (n : Fin 40) (d : Nat), Runs (.trainDwellEnd · n)
    (fun u => (u.tl n.val).dwellAt = some d ∧ u.lstate n.val = 3 ∧ (u.tl n.val).asked = false ∧ u.leadEnd = true ∧
      d + ms (atLeast1 (u.rd (pgTLNK n.val) R.TLNK_TRAIN_PRBSMS)) ≤ u.now)
    (fun u =>
      let z := State.each (fun s p => s.setTpos n.val p { s.tpos n.val p with linked := false }) u (List.range 5)
      (z.setTl n.val { z.tl n.val with asked := true }).sendTest n.val 3 (leBytes 1 1 ++ zeros 3))) ∧
  (∀ n : Fin 40, Runs (.laneUp · n)
    (fun u =>
      let z := u.provision n.val
      u.lstate n.val = 5 ∧ z.lstate n.val = 5 ∧ z.locked n.val = true ∧ 0 < z.answers n.val ∧ z.allAnswered n.val = true ∧
      (∀ p, p < z.nfit n.val → (z.tpos n.val p).setSent = true ∧ (z.tpos n.val p).facSent = true ∧
        (z.tpos n.val p).delaySent = true ∧ (z.tpos n.val p).tlost = some false))
    (fun u => ((u.provision n.val).setLstate n.val 6).raise (pgTLNK n.val) 2 ((u.provision n.val).rate n.val))) ∧
  ∀ n : Fin 40, Runs (.laneHuntTimeout · n)
    (fun u => (u.tl n.val).huntAt + ms 100 ≤ u.now ∧ (u.lstate n.val = 1 ∨ u.lstate n.val = 4) ∧ u.locked n.val = false ∧
      u.rate n.val = 0)
    (fun u => u.setLstate n.val 8)

/-- WHAT A LANE SENDS OF ITSELF (R362, R380, R383, R389, R392). A lane that carries TIME sends SYNC once SYNCINT has
passed and PROBE to the next tile once PROBEINT has, with the pair tick of the launch; an active or solo device in READY or a job sends EPOCH on every lane that is
UP; a lane idle for 10 us carries IDLE with state and role, and PRBS in training. (The slot of an EPOCH without a job and the
state that a PRBS frame starts from are free values, log entry 4.) -/
def Obligations.LaneSends : Prop :=
  (∀ n : Fin 40, Runs (.timeSyncSend · n)
    (fun u => u.timeOpen n.val = true ∧
      (u.tl n.val).syncAt + us (max 8 (u.rd (pgTLNK n.val) R.TLNK_TIMECFG_SYNCINT)) ≤ u.now)
    (fun u =>
      let z := u.setTl n.val { u.tl n.val with syncAt := u.now }
      z.tileSend n.val 4 0 0xF (leBytes (z.pairTick + z.rd (pgTLNK n.val) R.TLNK_LAT_TXLAT) 5 ++ zeros 3))) ∧
  (∀ n : Fin 40, Runs (.timeProbeSend · n)
    (fun u => u.timeOpen n.val = true ∧ 0 < u.nfit n.val ∧ (u.isStandby = false ∨ u.dev.state = .linkup) ∧
      (u.tl n.val).probeAt + ms (atLeast1 (u.rd (pgTLNK n.val) R.TLNK_TIMECFG_PROBEINT)) ≤ u.now)
    (fun u =>
      let p := (u.tl n.val).probe % u.nfit n.val
      let t1 := (u.pairTick + u.rd (pgTLNK n.val) R.TLNK_LAT_TXLAT) % 2 ^ 40
      (u.setTl n.val { u.tl n.val with
        probeAt := u.now, probed := some (p, t1), probe := (p + 1) % u.nfit n.val }).tileSend n.val 4 1 p
          (leBytes t1 5 ++ zeros 3))) ∧
  (∀ j : Job, Runs .epochSend
    (fun u => (u.dev.role = .active ∨ u.dev.role = .solo) ∧ u.inJob = true ∧ u.jobs.cur = some j ∧
      (∀ n, n < 40 → bitOf j.bars (n / 5) = false → u.lstate n ≠ 6 ∧ u.lstate n ≠ 7))
    (fun u => State.each (fun s n =>
        if s.laneUp n && bitOf j.bars (n / 5) then
          s.tileSend n 7 0 0xF (leBytes (b2n s.eastEnd) 1 ++ zeros 7 ++ leBytes (uns 48 (s.barF (n / 5)).next) 6 ++ zeros 2)
        else s) u (List.range 40))) ∧
  (∀ n : Fin 40, Runs (.idleSend · n)
    (fun u => u.pagesUp = true ∧ u.lstate n.val ≠ 0 ∧ (u.tl n.val).txAt + us 10 ≤ u.now)
    (fun u => u.tileSend n.val 0 0 0xF (leBytes u.dev.state.code 1 ++ leBytes u.dev.role.code 1 ++ zeros 2))) ∧
  (∀ n : Fin 42, 40 ≤ n.val → Runs (.idlePrbsSend · n)
    (fun u => u.twinPowered = true ∧ u.twinUp (n.val - 40) = true ∧ mget 0 u.twin.txAt (n.val - 40) + us 10 ≤ u.now)
    (fun u => u.draw.2.twinSendOn (n.val - 40) (.test (leBytes ((Config.freeWord u.draw.1).toNat % 2 ^ 31) 4 ++
      prbsBytes ((Config.freeWord u.draw.1).toNat % 2 ^ 31) 60)))) ∧
  ∀ n : Fin 42, n.val < 40 → Runs (.idlePrbsSend · n)
    (fun u => u.lstate n.val = 3 ∨ (u.lstate n.val = 6 ∧ u.rdb (pgTLNK n.val) R.TLNK_CTL_IDLEPRBS = true ∧
      (u.tl n.val).txAt + us 10 ≤ u.now))
    (fun u => u.draw.2.sendTest n.val 0 (leBytes ((Config.freeWord u.draw.1).toNat % 2 ^ 31) 4 ++
      prbsBytes ((Config.freeWord u.draw.1).toNat % 2 ^ 31) 60))

/-- UPKEEP OF A LANE (R361, R363, R364, R398, R612). The bit errors of a sound PRBS frame add up in TLNK_PRBSERR, for adaptation
and for the health record of the twin; an adaptation step takes over the FOM measured, the least of them and the PRBS count, and a
fall below FOMMIN in UP is flagged; a break that stands is recorded with its hop, flagged, and the lane is DEGRADED, with the relay
where the far end is UP. -/
def Obligations.LaneUpkeep : Prop :=
  (∀ (n : Fin 42) (f : List Byte), 40 ≤ n.val → Runs (.prbsFrameReceive · n f)
    (fun u => u.twinPowered = true ∧ u.twinUp (n.val - 40) = true)
    (fun u =>
      let h := u.twin.health
      u.setTwin { u.twin with health := { h with
        twinPrbs := satAdd 16 h.twinPrbs (bitErrors (f.drop 4) (prbsBytes (leAt f 0 4 % 2 ^ 31) (f.length - 4))) } })) ∧
  (∀ (n : Fin 42) (f : List Byte), n.val < 40 → State.tileFrameOk n.val f = true → tileType f = 8 → tileSub f = 0 →
    tileForm 8 0 ((f.drop 16).take (f.length - 20)) = true →
    Runs (.prbsFrameReceive · n f) (fun u => u.laneOn n.val = true ∧ u.locked n.val = true)
      (fun u =>
        let body := ((f.drop 16).take (f.length - 20)).drop 4
        let e := bitErrors body (prbsBytes (leAt ((f.drop 16).take (f.length - 20)) 0 4 % 2 ^ 31) body.length)
        let z := (u.setTl n.val { u.tl n.val with prbs := (u.tl n.val).prbs + e, prbsAt := u.now }).addTo (pgTLNK n.val)
          R.TLNK_PRBSERR e
        z.setTwin { z.twin with health := { z.twin.health with tilePrbs := satAdd 16 z.twin.health.tilePrbs e } })) ∧
  (∀ (n : Fin 40) (fom : BitVec 8), Runs (.adaptationStep · n fom)
    (fun u => u.laneOn n.val = true ∧ u.locked n.val = true)
    (fun u =>
      let old := u.rd (pgTLNK n.val) R.TLNK_FOM_FOM
      let keep := u.rd (pgTLNK n.val) R.TLNK_CTL_ADAPT ≠ 2 ∧ u.keepStep n.val fom.toNat = true
      let z := (u.setTl n.val { u.tl n.val with
        eqPrbs := (u.tl n.val).prbs, eqStep := if keep then (u.tl n.val).eqStep + 1 else (u.tl n.val).eqStep }).wr
          (pgTLNK n.val) R.TLNK_FOM_FOM fom.toNat
      let y := z.wr (pgTLNK n.val) R.TLNK_FOM_MINFOM (min fom.toNat (z.rd (pgTLNK n.val) R.TLNK_FOM_MINFOM))
      if y.lstate n.val = 6 ∧ fom.toNat < y.rd (pgTLNK n.val) R.TLNK_TRAIN_FOMMIN ∧
        y.rd (pgTLNK n.val) R.TLNK_TRAIN_FOMMIN ≤ old then y.raise (pgTLNK n.val) 10 fom.toNat else y)) ∧
  (∀ (n : Fin 40) (h : Fin 8), Runs (.chainBreak · n h true)
    (fun u => u.laneUp n.val = true ∧ u.rd (pgTLNK n.val) R.TLNK_STAT_BREAKHOP ≠ h.val ∧ u.breakAt n.val h.val = true ∧
      u.isActive = true ∧ u.anyTwin = true)
    (fun u =>
      let z := ((u.wr (pgTLNK n.val) R.TLNK_STAT_BREAKHOP h.val).raise (pgTLNK n.val) 6 h.val).setLstate n.val 7
      z.setTwin { z.twin with relay := z.twin.relay.filter (· ≠ n.val) ++ [n.val] })) ∧
  ∀ (n : Fin 40) (h : Fin 8), Runs (.chainBreak · n h false)
    (fun u => u.laneUp n.val = true ∧ u.rd (pgTLNK n.val) R.TLNK_STAT_BREAKHOP ≠ h.val ∧ u.breakAt n.val h.val = true)
    (fun u => ((u.wr (pgTLNK n.val) R.TLNK_STAT_BREAKHOP h.val).raise (pgTLNK n.val) 6 h.val).setLstate n.val 7)

/-! ### Health -/

/-- HEAD HEALTH (R402 to R407, R410, R416, R418, R423). A due MEAS command names tag, row, column, count and AFTER and is outstanding;
its result gives its readings, column by column, and the scan moves on (a CAP that waits at the same tick comes first, and a result before a rebase, R427), a result of another code only brings the command again,
counted if it was not done; one that is lost is counted and flagged; REBASE makes every n_f of the tile named its baseline, with the DRIFT bits judged anew and a record; CLRSUM
clears the extremes; the first line at W checks the temperatures against TREADY: flag 8 for each colder tile, or flag 9. (Where
a tile has not reported, its temperature is a free value, log entry 4.) -/
def Obligations.HeadHealth : Prop :=
  (∀ (b : Fin 8) (t : Fin 22), Runs (.measIssue · b t)
    (fun u => u.rdb (pgHLTH b.val) R.HLTH_CTL_MEASEN = true ∧ u.tilesOpen = true ∧ u.dev.role ≠ .standby ∧
      u.sideState = false ∧ t.val < u.fitted b.val ∧ u.laneUp (laneOf b.val t.val) = true ∧
      (u.tileH b.val t.val).out = none ∧
      (∀ i, (u.tileH b.val t.val).issued = some i → i + us (max 10 (u.rd (pgHLTH b.val) R.HLTH_MEASCFG_INT)) ≤ u.now))
    (fun u =>
      let x := u.tileH b.val t.val
      let n := u.measCount b.val t.val
      (u.setTileH b.val t.val { x with
        tag := (x.tag + 1) % 65536, issued := some u.now,
        out := some { tag := x.tag, row := x.row, col := x.col, count := n, at_ := u.now } }).tileSend
          (laneOf b.val t.val) 5 0 (posOf t.val) (leBytes x.tag 2 ++ leBytes 1 1 ++ leBytes x.row 1 ++ leBytes x.col 2 ++
            leBytes n 2 ++ leBytes (u.measAfter b.val t.val) 6 ++ zeros 2))) ∧
  (∀ (n : Fin 40) (f : List Byte) (p : Nat) (c : MeasCmd),
    leAt (tilePayload f) 0 2 = c.tag → byteAt (tilePayload f) 2 = 1 → byteAt (tilePayload f) 3 = c.row →
    leAt (tilePayload f) 4 2 = c.col → leAt (tilePayload f) 6 2 = c.count → byteAt (tilePayload f) 8 = 0 →
    Runs (.measResult · n f)
      (fun u => u.early = [] ∧ u.capsFirst.statFor n.val 2 p f ∧ ((u.capsFirst.statSeen n.val p f).tileH (n.val / 5) (tileOf n.val p)).out = some c)
      (fun u =>
        let b := n.val / 5
        let t := tileOf n.val p
        let z := u.capsFirst.statSeen n.val p f
        let y := z.setTileH b t { z.tileH b t with out := none, again := none }
        (y.takeReadings b t c.row (y.tile b t).temp c.col ((List.range c.count).map fun i =>
          leAt (tilePayload f) (16 + 2 * i) 2)).scanNext b t c.count)) ∧
  (∀ (n : Fin 40) (f : List Byte) (p : Nat) (c : MeasCmd),
    leAt (tilePayload f) 0 2 = c.tag → byteAt (tilePayload f) 2 = 1 → byteAt (tilePayload f) 3 = c.row →
    leAt (tilePayload f) 4 2 = c.col → leAt (tilePayload f) 6 2 = c.count → byteAt (tilePayload f) 8 = 1 →
    Runs (.measResult · n f)
      (fun u => u.early = [] ∧ u.capsFirst.statFor n.val 2 p f ∧ ((u.capsFirst.statSeen n.val p f).tileH (n.val / 5) (tileOf n.val p)).out = some c)
      (fun u =>
        let b := n.val / 5
        let t := tileOf n.val p
        let z := u.capsFirst.statSeen n.val p f
        (z.setTileH b t { z.tileH b t with out := none, again := some c.count }).inc (pgHLTH b) R.HLTH_MEASCNT_NOTDONE)) ∧
  (∀ (b : Fin 8) (t : Fin 22) (c : MeasCmd), Runs (.measTimeout · b t)
    (fun u => (u.tileH b.val t.val).out = some c ∧ c.at_ + ms (atLeast1 (u.rd (pgHLTH b.val) R.HLTH_MEASCFG_TMO)) ≤ u.now)
    (fun u => ((u.setTileH b.val t.val { u.tileH b.val t.val with out := none, again := some c.count }).inc (pgHLTH b.val)
      R.HLTH_MEASCNT_LOST).raise (pgHLTH b.val) 6 t.val)) ∧
  (∀ (m : Master) (b : Fin 8) (t : Fin 22) (v : Word), bitOf v.toNat 7 = false →
    Runs (.hlthRebase · m b v)
      (fun u => u.accepts m (fieldAddr (pgHLTH b.val) R.HLTH_CMD) .hlth b.val = true ∧
        (u.stored (pgHLTH b.val) R.HLTH_CMD (withBit v R.HLTH_CMD_REBASE)).resultsFirst.cmdTiles b.val = [t.val])
      (fun u =>
        let w := withBit v R.HLTH_CMD_REBASE
        let z := (u.stored (pgHLTH b.val) R.HLTH_CMD w).resultsFirst.mapHistory b.val t.val fun x =>
          { x with base := x.nf, counts := [0, 0, 0, 0, 0] }
        let y := State.each (State.driftJudge b.val) z (z.readEntries b.val (t.val * 19200) ((t.val + 1) * 19200))
        ((y.setTileH b.val t.val { y.tileH b.val t.val with rebaseTick := y.now, scans := 0 }).tileRecord b.val t.val
          7).acceptedBy u m .hlth b.val (fieldAddr (pgHLTH b.val) R.HLTH_CMD) w)) ∧
  (∀ (m : Master) (b : Fin 8) (v : Word), bitOf v.toNat 6 = false →
    Runs (.hlthClrsum · m b v)
      (fun u => u.accepts m (fieldAddr (pgHLTH b.val) R.HLTH_CMD) .hlth b.val = true)
      (fun u =>
        let w := withBit v R.HLTH_CMD_CLRSUM
        let z := u.stored (pgHLTH b.val) R.HLTH_CMD w
        (State.each (fun s t => s.setTileH b.val t { s.tileH b.val t with tRange := none, vRange := none }) z
          (z.cmdTiles b.val)).acceptedBy u m .hlth b.val (fieldAddr (pgHLTH b.val) R.HLTH_CMD) w)) ∧
  ∀ (b : Fin 8) (j : Job), Runs (.warmupCheck · b)
    (fun u => u.jobs.cur = some j ∧ 0 < u.rd (pgHLTH b.val) R.HLTH_WARM_LINES ∧ bitOf j.bars b.val = true ∧
      (u.barF b.val).warmChecked = false ∧ (u.rd (pgHLTH b.val) R.HLTH_WARM_LINES : Nat) * 4096 ≤ u.ell j b.val)
    (fun u =>
      let z := u.setBarF b.val { u.barF b.val with warmChecked := true }
      let r := (List.range (z.fitted b.val)).foldl (fun (a : List Nat × State) t =>
        (if (a.2.tileReading b.val t).1 < z.rdi (pgHLTH b.val) R.HLTH_TREADY_TREADY then a.1 ++ [t] else a.1,
          (a.2.tileReading b.val t).2.2)) ([], z)
      if r.1 = [] then r.2.raise (pgHLTH b.val) 9 else State.each (fun s t => s.raise (pgHLTH b.val) 8 t) r.2 r.1)

/-! ### Camera -/

/-- CAMERA LINES AND FRAMES (R447 to R451, R457, R458, R462, R465). A line of the right length in a frame enters the line store with
its frame, line number and trigger; one of another length, or without FV, is discarded, counted and flagged; a frame takes the next number, the settings that
wait for FRAME, the exposure of its first trigger and a table swap, and a trigger due at its tick is issued under the old TMODE first; FV inactive ends it, and the next trigger is the first of a frame;
the loss of the pixel clock ends it too, with flag 5, until the clock returns. -/
def Obligations.CameraLines : Prop :=
  (∀ (p : Fin 2) (cy : List CamCycle) (t : CamTrig) (ts : List CamTrig), Runs (.camLineComplete · p cy)
    (fun u =>
      let px := (cy.filter (u.cycleOn p.val)).flatMap (cyclePixels (u.camFmt p.val))
      u.pState p.val = 2 ∧ (u.frMode p.val = true ∨ cy.head?.any (u.fvActive p.val) = true) ∧
        px.length = u.camWidth p.val ∧ (u.camP p.val).trigs = t :: ts ∧
        sumN ((u.camP p.val).store.map CamLine.bytes) + storeBytes (u.camFmt p.val) px.length ≤ 2 ^ 20)
    (fun u =>
      let px := (cy.filter (u.cycleOn p.val)).flatMap (cyclePixels (u.camFmt p.val))
      let c := u.camP p.val
      let z := u.setCamP p.val { c with
        store := c.store ++ [{ frame := c.frames - 1, line := c.line, fmt := u.camFmt p.val, pixels := px,
                               bytes := storeBytes (u.camFmt p.val) px.length, trig := some t, dropped := false,
                               exp := c.frameExp, mode := c.frameMode }],
        trigs := ts, line := c.line + 1 }
      if z.frMode p.val = true ∧ z.frLines p.val ≤ c.line + 1 then z.frameOver p.val else z)) ∧
  (∀ (p : Fin 2) (cy : List CamCycle), Runs (.camLineComplete · p cy)
    (fun u => u.pState p.val ≠ 0 ∧ (u.frMode p.val = true ∨ cy.head?.any (u.fvActive p.val) = true) ∧
      ((cy.filter (u.cycleOn p.val)).flatMap (cyclePixels (u.camFmt p.val))).length ≠ u.camWidth p.val)
    (fun u => (u.inc (pgCAMP p.val) R.CAM_ERR_LENERR).raise (pgCAMP p.val) 3
      ((cy.filter (u.cycleOn p.val)).flatMap (cyclePixels (u.camFmt p.val))).length)) ∧
  (∀ (p : Fin 2) (cy : List CamCycle), Runs (.camLineComplete · p cy)
    (fun u => u.pState p.val ≠ 0 ∧ u.frMode p.val = false ∧ cy.head?.any (u.fvActive p.val) = false)
    (fun u => (u.inc (pgCAMP p.val) R.CAM_ERR_PROTO).raise (pgCAMP p.val) 2)) ∧
  (∀ (p : Fin 2) (t : CamTrig) (ts : List CamTrig), Runs (.camFrameStart · p)
    (fun u =>
      let z := u.frameBoundary p.val
      u.pState p.val = 1 ∧ u.camTMode p.val = z.camTMode p.val ∧ u.camExp p.val = z.camExp p.val ∧
        u.camMode p.val = z.camMode p.val ∧ (z.camP p.val).trigs = t :: ts)
    (fun u =>
      let z := u.frameBoundary p.val
      let y := z.setCamP p.val { z.camP p.val with
        frames := (u.camP p.val).frames + 1, line := 0, frameExp := t.exp, frameMode := t.mode, frameFirst := t.first }
      ((y.setPState p.val 2).raise (pgCAMP p.val) 0 (u.camP p.val).frames).tableSwap p.val)) ∧
  (∀ p : Fin 2, Runs (.camFrameStart · p)
    (fun u => u.pState p.val = 1 ∧ u.camTMode p.val ≠ (u.frameBoundary p.val).camTMode p.val)
    (fun u =>
      let z := u.camTrigger p.val
      (z.setCamP p.val { z.camP p.val with due := some z.now }).openFrame p.val)) ∧
  (∀ p : Fin 2, Runs (.camFrameEnd · p) (fun u => u.pState p.val = 2 ∧ u.frMode p.val = false)
    (fun u =>
      let z := u.setPState p.val 1
      z.setCamP p.val { z.camP p.val with newFrame := true })) ∧
  (∀ p : Fin 2, Runs (.camPclkLoss · p)
    (fun u => u.pState p.val = 2 ∧ u.rdb (pgCAMP p.val) R.CAM_PSTAT_PCLKOK = true)
    (fun u => ((u.setPState p.val 1).wr (pgCAMP p.val) R.CAM_PSTAT_PCLKOK 0).raise (pgCAMP p.val) 5)) ∧
  ∀ p : Fin 2, Runs (.camPclkReturn · p) (fun u => u.pState p.val ≠ 0)
    (fun u => u.wr (pgCAMP p.val) R.CAM_PSTAT_PCLKOK 1)

/-- TRIGGERS AND THE PIPELINE (R453 to R459, R461, R465). A trigger that falls due while the pulse or the gap of the one before
lasts is skipped, counted and flagged; else its tick, position and exposure are kept and the pulse is on for EXP; TMODE 1 triggers at the next multiple of PITCH,
TMODE 2 at each multiple of PERIOD, TMODE 3 by software; the pulse ends with EXP; the pipeline takes the next stored line through its stages, the
tap and the statistics; a swap of the tables waits for the next frame. -/
def Obligations.CameraTriggers : Prop :=
  (∀ (s : State) (p : Nat) (pos : Int), s.camBusy p = true →
    s.issueTrigger p pos =
      ((s.setCamP p { s.camP p with top := max (s.camP p).top pos }).inc (pgCAMP p) R.CAM_TRIGCNT_SKIP).raiseI (pgCAMP p) 4
        (pos.fdiv 256)) ∧
  (∀ (s : State) (p : Nat) (pos : Int), s.camBusy p = false → s.firstTrigger p = true → (s.camP p).expAt ≠ some s.now →
    s.issueTrigger p pos =
      (let c := s.camP p
       let ts := c.trigs ++ [{ tick := s.now, pos := pos, exp := s.camExp p, mode := s.camMode p, first := s.now }]
       s.setCamP p { c with top := max c.top pos, exp := s.camExp p, mode := s.camMode p, first := s.now, trigs := ts.drop (ts.length - 64),
                            pulse := true, pulseEnd := s.now + 160 * s.camExp p, issued := c.issued + 1, newFrame := false })) ∧
  (∀ p : Fin 2, Runs (.camTrigger · p)
    (fun u => u.pState p.val ≠ 0 ∧ u.camTMode p.val = 1 ∧ u.nextPitch p.val ≤ u.camX p.val ∧ u.pos.track.reverse = false ∧
      u.pos.track.valid = true)
    (fun u => u.issueTrigger p.val (u.nextPitch p.val))) ∧
  (∀ p : Fin 2, Runs (.camTrigger · p)
    (fun u => u.pState p.val ≠ 0 ∧ u.camTMode p.val = 2 ∧
      u.now % (160 * atLeast1 (u.rd (pgCAMP p.val) R.CAM_PERIOD_PERIOD)) = 0 ∧ (u.camP p.val).due ≠ some u.now)
    (fun u =>
      let z := u.setCamP p.val { u.camP p.val with due := some u.now }
      z.issueTrigger p.val (z.camX p.val))) ∧
  (∀ (m : Master) (p : Fin 2) (v : Word), Runs (.camSoftwareTrigger · m p v)
    (fun u =>
      let z := u.stored (pgCAMP p.val) R.CAM_SWTRIG (withBit v R.CAM_SWTRIG_GO)
      u.accepts m (fieldAddr (pgCAMP p.val) R.CAM_SWTRIG) .camp p.val = true ∧ z.pState p.val ≠ 0 ∧ z.camTMode p.val = 3)
    (fun u =>
      let w := withBit v R.CAM_SWTRIG_GO
      let z := u.stored (pgCAMP p.val) R.CAM_SWTRIG w
      (z.issueTrigger p.val (z.camX p.val)).acceptedBy u m .camp p.val (fieldAddr (pgCAMP p.val) R.CAM_SWTRIG) w)) ∧
  (∀ p : Fin 2, Runs (.camTriggerPulseEnd · p)
    (fun u => (u.camP p.val).pulse = true ∧ (u.camP p.val).pulseEnd ≤ u.now)
    (fun u => u.setCamP p.val { u.camP p.val with pulse := false })) ∧
  (∀ (p : Fin 2) (l : CamLine) (rest : List CamLine), Runs .pipelineLine
    (fun u => u.nextPort = some p.val ∧ (u.camP p.val).store = l :: rest)
    (fun u =>
      let z := u.setCamP p.val { u.camP p.val with store := rest.dropWhile (·.dropped) }
      let y : State := { z with cam := { z.cam with last := p.val } }
      let mid := y.afterBalance p.val l
      let out := y.afterTone p.val mid
      (((y.camLoad l.pixels.length).camTap p.val l mid out).statLine p.val l out).passDropped p.val
        (rest.takeWhile (·.dropped)))) ∧
  ∀ (m : Master) (v : Word), bitOf v.toNat 0 = true → bitOf v.toNat 1 = false →
    Runs (.camTableSwap · m v)
      (fun u => u.accepts m (fieldAddr pgCAMI R.CAM_TBLSWAP) .cami 0 = true)
      (fun u =>
        let z := u.stored pgCAMI R.CAM_TBLSWAP v
        ((z.setCamP 0 { z.camP 0 with pend := true }).wr pgCAMI R.CAM_TBLSWAP_PENDA 1).acceptedBy u m .cami 0
          (fieldAddr pgCAMI R.CAM_TBLSWAP) v)

/-- THE COLOUR LOOP (R489, R490, R493, R498, R500). A bar whose strip is due runs its correction cycle; while the loop is held it does
not; a strip of which every record was discarded or stale leaves a record of kind 5 alone; RELEARN starts learning anew on every bar of the
loop; RESETINT makes every acc 0; REBASE makes the TRIM in force of every nozzle its base. -/
def Obligations.ColourLoop : Prop :=
  (∀ (b : Fin 8) (j : Job) (k : Nat), Runs (.loopCycle · b)
    (fun u => u.jobs.cur = some j ∧ u.loop.due = [(k, b.val)] ∧ u.loopBlocked = false ∧ (u.loopStrip k b.val).good ≠ 0)
    (fun u =>
      let z := (u.setLoop { u.loop with due := [] }).runCycle j k b.val
      if z.loop.due.any (fun e => decide (e.1 ≤ k)) then z else z.pruneStrips k)) ∧
  (∀ (b : Fin 8) (j : Job) (k : Nat), Runs (.loopCycle · b)
    (fun u => u.jobs.cur = some j ∧ u.loop.due = [(k, b.val)] ∧ u.loopBlocked = true ∧ (u.loopStrip k b.val).good ≠ 0)
    (fun u => (u.setLoop { u.loop with due := [] }).pruneStrips k)) ∧
  (∀ (b : Fin 8) (j : Job) (k : Nat), Runs (.loopCycle · b)
    (fun u => u.jobs.cur = some j ∧ u.loop.due = [(k, b.val)] ∧ (u.loopStrip k b.val).good = 0)
    (fun u =>
      let y := u.loopStrip k b.val
      let z := (u.setLoop { u.loop with due := [] }).loopRecordOut b.val 5 k (leBytes y.disc.length 2 ++ leBytes y.stale 2 ++ zeros 2)
      if z.loop.due.any (fun e => decide (e.1 ≤ k)) then z else z.pruneStrips k)) ∧
  (∀ (m : Master) (v : Word), bitOf v.toNat 2 = false → bitOf v.toNat 3 = false →
    Runs (.loopRelearn · m v)
      (fun u => u.accepts m (fieldAddr pgLOOP R.LOOP_CMD) .loop 0 = true ∧ u.loop.on = true)
      (fun u =>
        let w := withBit v R.LOOP_CMD_RELEARN
        let z := (u.stored pgLOOP R.LOOP_CMD w).cyclesFirst
        let y := State.each (fun s b => s.setLoopBar b { s.loopBar b with
          learn := if s.tMode = 0 then 0 else s.learnN, sum := 0, cnt := 0 }) z z.loop.bars
        ((y.clearLearn z.loop.bars).loopStatus).acceptedBy u m .loop 0 (fieldAddr pgLOOP R.LOOP_CMD) w)) ∧
  (∀ (m : Master) (v : Word), bitOf v.toNat 1 = false → bitOf v.toNat 3 = false →
    Runs (.loopResetint · m v)
      (fun u => u.accepts m (fieldAddr pgLOOP R.LOOP_CMD) .loop 0 = true)
      (fun u =>
        let w := withBit v R.LOOP_CMD_RESETINT
        let z := (u.stored pgLOOP R.LOOP_CMD w).cyclesFirst
        (z.setLoop { z.loop with cells := z.loop.cells.filterMap resetAcc }).acceptedBy u m .loop 0
            (fieldAddr pgLOOP R.LOOP_CMD) w)) ∧
  ∀ (m : Master) (v : Word), bitOf v.toNat 1 = false → bitOf v.toNat 2 = false →
    Runs (.loopRebase · m v)
      (fun u => u.accepts m (fieldAddr pgLOOP R.LOOP_CMD) .loop 0 = true)
      (fun u =>
        let w := withBit v R.LOOP_CMD_REBASE
        let z := (u.stored pgLOOP R.LOOP_CMD w).cyclesFirst
        (z.setLoop { z.loop with base := z.noz.filterMap trimBase }).acceptedBy u m .loop 0
            (fieldAddr pgLOOP R.LOOP_CMD) w)

/-! ### Memory -/

/-- THE WEIR (R141, R506, R509, R510, R514, R516, R518, R521). At a period start the set in force is checked and applied, every bank and
level is refilled and the pauses of retraining start; the speed measured counts once in a period; a set whose sums exceed a floor
is not applied; a word takes a level token, else a bank and a spare token, else it waits and its activity has stalled; an
override of the floor shows at once in UNGUAR. -/
def Obligations.WeirPeriods : Prop :=
  (∀ speed : BitVec 16, Runs (.weirPeriodStart · speed)
    (fun u => u.weir.begun = true ∧ u.weir.start + u.weirPeriod = u.now)
    (fun u =>
      let z := (u.weirBegin u.now).pauseStart 8
      (z.setWeir { z.weir with sped := true }).weirSpeed speed.toNat)) ∧
  (∀ (s : State) (a : Nat), a < 24 → a ≠ 20 → s.actThrottled a = false →
    (s.weirFill 24).act a =
      { s.act a with bank := min ((s.act a).bank + (s.act a).level) (s.burst a), level := s.budget a }) ∧
  (∀ (s : State) (a : Nat), a < 24 → a ≠ 20 → s.actThrottled a = true →
    (s.weirFill 24).act a = { s.act a with level := s.budget a * atLeast1 (s.rd pgWEIR R.WEIR_THROT_SCALE) / 256 }) ∧
  (∀ (s : State) (e : Nat × Word) (p : List (Nat × Word)) (n : Nat), s.dueWords pgWEIR .period = e :: p →
    (let t := s.applyWords (e :: p)
     weirOver (weirSums t.budget) (t.weirFloors t.weirPeriod) = some n) →
    s.weirApply.weir.overSet = true ∧ ∀ a, s.weirApply.budget a = s.budget a) ∧
  (∀ a : Fin 24, a.val ≠ 20 → Runs (.weirAdmit · a none)
    (fun u => u.weir.begun = true ∧ u.now < u.weir.start + u.weirPeriod ∧ 0 < (u.act a.val).level)
    (fun u => u.setAct a.val { u.act a.val with
      level := (u.act a.val).level - 1, admitted := (u.act a.val).admitted + 1 })) ∧
  (∀ a : Fin 24, a.val ≠ 20 → Runs (.weirAdmit · a none)
    (fun u => u.weir.begun = true ∧ u.now < u.weir.start + u.weirPeriod ∧ (u.act a.val).level = 0 ∧ 0 < (u.act a.val).bank ∧
      0 < u.weir.spare ∧ u.actThrottled a.val = false)
    (fun u => (u.setWeir { u.weir with spare := u.weir.spare - 1 }).setAct a.val { u.act a.val with
      bank := (u.act a.val).bank - 1, admitted := (u.act a.val).admitted + 1 })) ∧
  (∀ a : Fin 24, a.val ≠ 20 → Runs (.weirAdmit · a none)
    (fun u => u.weir.begun = true ∧ u.now < u.weir.start + u.weirPeriod ∧ (u.act a.val).level = 0 ∧
      ((u.act a.val).bank = 0 ∨ u.weir.spare = 0 ∨ u.actThrottled a.val = true))
    (fun u => u.setAct a.val { u.act a.val with stalled := true })) ∧
  (∀ (a : Fin 24) (r : DramReq), a.val ≠ 20 → Runs (.weirAdmit · a (some r))
    (fun u => u.weir.begun = true ∧ u.now < u.weir.start + u.weirPeriod ∧ 0 < (u.act a.val).level)
    (fun u => (u.setAct a.val { u.act a.val with
        level := (u.act a.val).level - 1, admitted := (u.act a.val).admitted + 1 }).enqueue
      { pa := r.pa.toNat, port := r.port.val, bursts := r.len.val + 1, write := r.write, rmw := r.write && r.part,
        bar := r.bar.val, admitAt := u.now })) ∧
  ∀ (m : Master) (v : Word), Runs (.weirFloorOverride · m v)
    (fun u => u.accepts m (fieldAddr pgWEIR R.WEIR_FLOOROVR) .weir 0 = true)
    (fun u => (u.stored pgWEIR R.WEIR_FLOOROVR v).weirUnguar.acceptedBy u m .weir 0
      (fieldAddr pgWEIR R.WEIR_FLOOROVR) v)

/-- COMMAND SLOTS, REFRESH AND RETRAINING (R533, R537, R540, R541, R543, R546, R547, R548, R552). At a slot a subchannel
refreshes where it must, else issues its best transaction, a refresh owed going before the lower classes; the debt rises with
each interval; an idle bank is precharged; a step of a pause that passes moves the centre and goes on to the next step, one that fails is
counted and repeated until the subchannel has no working setting; a scrub read takes the next block of its own. -/
def Obligations.DramSlots : Prop :=
  (∀ (sc : Fin 8) (wr rd : List Nat), Runs (.dramCommandSlot · sc wr rd)
    (fun u => u.scState sc.val ≠ 0 ∧ u.scState sc.val ≠ 3 ∧ (u.sc sc.val).busy ≤ u.now ∧
      (u.scRecov sc.val = true ∨ u.debtMax ≤ (u.sc sc.val).debt))
    (fun u => u.refresh sc.val true)) ∧
  (∀ (sc : Fin 8) (wr rd : List Nat) (i key : Nat), Runs (.dramCommandSlot · sc wr rd)
    (fun u => u.scState sc.val = 2 ∧ (u.sc sc.val).busy ≤ u.now ∧ u.scRecov sc.val = false ∧
      (u.sc sc.val).debt < u.debtMax ∧ u.bestTxn sc.val wr rd [] (u.sc sc.val).queue none = some (i, key) ∧
      ((u.sc sc.val).debt = 0 ∨ key / 2 ≤ 5))
    (fun u => u.issue sc.val i)) ∧
  (∀ (sc : Fin 8) (wr rd : List Nat), Runs (.dramCommandSlot · sc wr rd)
    (fun u => u.scState sc.val = 2 ∧ (u.sc sc.val).busy ≤ u.now ∧ u.scRecov sc.val = false ∧
      0 < (u.sc sc.val).debt ∧ (u.sc sc.val).debt < u.debtMax ∧
      ∀ b ∈ u.bestTxn sc.val wr rd [] (u.sc sc.val).queue none, 5 < b.2 / 2)
    (fun u => u.refresh sc.val false)) ∧
  (∀ (sc : Fin 8) (wr rd : List Nat), Runs (.dramCommandSlot · sc wr rd)
    (fun u => (u.scState sc.val = 1 ∨ u.scState sc.val = 4) ∧ (u.sc sc.val).busy ≤ u.now ∧ u.scRecov sc.val = false ∧ 0 < (u.sc sc.val).debt ∧
      (u.sc sc.val).debt < u.debtMax)
    (fun u => u.refresh sc.val false)) ∧
  (∀ sc : Fin 8, Runs (.refreshIntervalEnd · sc) (fun u => u.scState sc.val ≠ 0 ∧ (u.sc sc.val).intEnd ≤ u.now)
    (fun u => u.setSc sc.val { u.sc sc.val with
      debt := (u.sc sc.val).debt + 1, intEnd := (u.sc sc.val).intEnd + u.refInterval sc.val })) ∧
  (∀ (sc : Fin 8) (b : Fin 16), Runs (.pageIdlePrecharge · sc b)
    (fun u => (mfind (u.sc sc.val).rows b.val).isSome = true ∧
      mget 0 (u.sc sc.val).used b.val + ns (atLeast1 (u.rd pgDRAM R.DRAM_CTL_IDLE)) ≤ u.now)
    (fun u => u.setSc sc.val { u.sc sc.val with rows := merase (u.sc sc.val).rows b.val })) ∧
  (∀ (sc : Fin 8) (rd wr vref centre : BitVec 8), Runs (.retrainStepDone · sc true rd wr vref centre)
    (fun u => u.scState sc.val = 3 ∧ (u.sc sc.val).recovAfter = false ∧
      u.rdb (pgSC sc.val) R.DRAM_TRNOVR_FIX = false ∧
      u.rd pgDRAM R.DRAM_RETRAIN_MINMARGIN ≤ rd.toNat ∧ u.rd pgDRAM R.DRAM_RETRAIN_MINMARGIN ≤ wr.toNat ∧
      u.rd pgDRAM R.DRAM_RETRAIN_MINMARGIN ≤ vref.toNat ∧
      u.rd pgDRAM R.DRAM_RETRAIN_MINMARGIN ≤ u.rd (pgSC sc.val) R.DRAM_SCMARGIN_CA)
    (fun u =>
      let c := u.sc sc.val
      let z := ((u.wr (pgSC sc.val) R.DRAM_SCMARGIN_RD rd.toNat).wr (pgSC sc.val) R.DRAM_SCMARGIN_WR wr.toNat).wr
        (pgSC sc.val) R.DRAM_SCMARGIN_VREF vref.toNat
      (z.setScState sc.val 2).setSc sc.val { c with
        step := (c.step + 1) % 4, fails := 0, centres := mset 0 c.centres c.step centre.toNat, recovAfter := false })) ∧
  (∀ (sc : Fin 8) (rd wr vref centre : BitVec 8), Runs (.retrainStepDone · sc false rd wr vref centre)
    (fun u => u.scState sc.val = 3 ∧ (u.sc sc.val).recovAfter = false)
    (fun u =>
      let c := u.sc sc.val
      let z := ((u.wr (pgSC sc.val) R.DRAM_SCMARGIN_RD rd.toNat).wr (pgSC sc.val) R.DRAM_SCMARGIN_WR wr.toNat).wr
        (pgSC sc.val) R.DRAM_SCMARGIN_VREF vref.toNat
      let y := ((z.setScState sc.val 2).setSc sc.val { c with fails := c.fails + 1, recovAfter := false }).inc
        (pgSC sc.val) R.DRAM_SCCNT_RTFAIL
      let most := atLeast1 (u.rd pgDRAM R.DRAM_RETRAIN_RETRYN)
      if c.fails + 1 = most ∨ (most < c.fails + 1 ∧ u.scDegraded sc.val = false) then y.retrainFail sc.val else y)) ∧
  (∀ (s : State) (n : Nat), s.isActive = false →
    s.retrainFail n = (s.setDegraded n true).raise pgDRAM 4 n) ∧
  ∀ sc : Fin 8, Runs (.scrubRead · sc)
    (fun u => u.rdb pgDRAM R.DRAM_CTL_SCRUBEN = true ∧ u.frozenDram = false ∧ 2 ≤ u.scState sc.val ∧
      (u.sc sc.val).scrubAt + us (atLeast1 (u.rd pgDRAM R.DRAM_SCRUB_INT)) / (if u.scDegraded sc.val then 2 else 1) ≤ u.now)
    (fun u =>
      let b := u.ownBlock sc.val (u.sc sc.val).scrub 16
      (u.setSc sc.val { u.sc sc.val with scrub := (b + 1) % 2 ^ 27, scrubAt := u.now }).enqueue
        { pa := b * 256, port := 10, bursts := 4, write := false, rmw := false, bar := 0, admitAt := u.now })

/-- ERRORS, FREEZE AND RELEASE (R21, R22, R25, R551, R554, R555, R557, R558). Sound read data completes its transaction; a correction is
counted, recorded and written back; an uncorrectable error and a parity error freeze the controller with their records, the data error of the lowest subchannel going first, and nothing while it is
frozen returns data; a release discards queues and job basins and trains, and its end leads to READY as a solo device or leaves the device
FROZEN; an uncorrectable SRAM error masks its nozzle entry or is fatal. -/
def Obligations.ErrorsAndRelease : Prop :=
  (∀ (sc : Fin 8) (x : DramTxn) (rest : List DramTxn), Runs (.dramReadData · sc .clean)
    (fun u => (u.sc sc.val).flight = x :: rest ∧ u.frozenDram = false)
    (fun u => (u.setSc sc.val { u.sc sc.val with flight := rest }).flightOver x)) ∧
  (∀ (s : State) (x : DramTxn), x.write = false →
    s.flightOver x = (let back := bySeq x s.dram.back
      State.each State.txnDone (s.setDram { s.dram with back := back.filter s.olderRead })
        (back.filter fun y => !s.olderRead y))) ∧
  (∀ (sc : Fin 8) (b : Fin 4) (w : Fin 8) (two : Bool) (syn : BitVec 16) (x : DramTxn) (rest : List DramTxn),
    Runs (.dramReadData · sc (.corrected b w two syn))
      (fun u => (u.sc sc.val).flight = x :: rest ∧ u.frozenDram = false)
      (fun u => ((u.setSc sc.val { u.sc sc.val with flight := rest }).flightOver x).corrected x b.val w.val syn.toNat two)) ∧
  (∀ (sc : Fin 8) (b : Fin 4) (w : Fin 8) (syn : BitVec 16) (x : DramTxn) (rest : List DramTxn),
    Runs (.dramReadData · sc (.uncorrectable b w syn))
      (fun u => (u.sc sc.val).flight = x :: rest ∧ u.frozenDram = false)
      (fun u => u.freezeBy [(sc.val, u.errRecord x b.val w.val syn.toNat 3)] [])) ∧
  (∀ (s : State) (n : Nat) (e : DramErr), s.pending = [] →
    s.freezeBy [(n, e)] [] = (s.setDram { s.dram with froze := e }).freeze n true) ∧
  (∀ (s : State) (a b c : Nat) (e f : DramErr), s.pending = [] → a < b →
    s.freezeBy [(b, f), (a, e)] [(c, 0)] =
      ((s.setDram { s.dram with parity := (0, c, s.now) }).setDram { s.dram with parity := (0, c, s.now), froze := e }).freeze
        a true) ∧
  (∀ (sc : Fin 8) (x : DramTxn) (rest : List DramTxn), Runs (.dramReadData · sc .clean)
    (fun u => (u.sc sc.val).flight = x :: rest ∧ u.frozenDram = true) id) ∧
  (∀ (sc : Fin 8) (code : Word), Runs (.caParityError · sc code) (fun u => u.frozenDram = false)
    (fun u => u.freezeBy [] [(sc.val, code.toNat)])) ∧
  (∀ (s : State) (n code : Nat), s.pending = [] →
    s.freezeBy [] [(n, code)] = (s.setDram { s.dram with parity := (code, n, s.now) }).freeze n false) ∧
  (∀ (s : State) (n : Nat) (data : Bool), s.dev.state = .ready → s.dev.sideAt = none →
    (s.freeze n data).dev.state = .frozen ∧ (s.freeze n data).dev.cause = if data then 5 else 6) ∧
  (∀ (m : Master) (v : Word), Runs (.freezeRelease · m v)
    (fun u => u.accepts m (fieldAddr pgDRAM R.DRAM_FRZCTL) .dram 0 = true)
    (fun u =>
      let w := withBit v R.DRAM_FRZCTL_RELEASE
      (u.stored pgDRAM R.DRAM_FRZCTL w).freezeRelease.acceptedBy u m .dram 0 (fieldAddr pgDRAM R.DRAM_FRZCTL) w)) ∧
  (∀ (s : State) (n : Nat), s.dev.state = .frozen → n < 8 →
    s.freezeRelease.dram.training = true ∧ (s.freezeRelease.sc n).queue = [] ∧ (s.freezeRelease.sc n).flight = [] ∧
      s.freezeRelease.scState n = 1) ∧
  (∀ (sc : Fin 8) (margins : List (BitVec 32)), Runs (.freezeReleaseDone · (some sc) margins)
    (fun u => u.dram.training = true)
    (fun u =>
      let z := u.setDram { u.dram with training := false }
      (State.each (fun s k => s.setScState k 4) z (List.range 8)).raise pgDRAM 3 sc.val)) ∧
  (∀ margins : List (BitVec 32), Runs (.freezeReleaseDone · none margins)
    (fun u =>
      let z := u.setDram { u.dram with training := false }
      let y := ((z.trained margins).wr pgDRAM R.DRAM_STAT_FROZEN 0).wr pgDRAM R.DRAM_STAT_FRZCAUSE 0
      u.dram.training = true ∧ (y.dropJobs.raise pgDRAM 2).dev.state = .frozen ∧
        (y.dropJobs.raise pgDRAM 2).pairMode = false)
    (fun u =>
      let z := u.setDram { u.dram with training := false }
      let y := ((z.trained margins).wr pgDRAM R.DRAM_STAT_FROZEN 0).wr pgDRAM R.DRAM_STAT_FRZCAUSE 0
      let x := (y.dropJobs.raise pgDRAM 2).setTwinState 0
      x.change .ready .solo x.dev.cause)) ∧
  (∀ site : SramSite, Runs (.sramScrub · site false) (fun _ => True)
    (fun u => { u with twin := { u.twin with health := { u.twin.health with
      sramCorr := satInc 8 u.twin.health.sramCorr } } })) ∧
  Runs (.sramScrub · .other true) (fun _ => True) (fun u => u.enterSide .safe 8) ∧
  ∀ (b : Fin 8) (i : Fin 422400), Runs (.sramScrub · (.nozzle b i) true) (fun _ => True)
    (fun u => (({ u with free := u.free + 1 } : State).nozApply b.val i.val 0xF00 0x300).raise (pgRAST b.val)
      (6 + (Config.freeWord u.free).toNat % 16) i.val)

/-- CHECK VALUES (R559, R562, R563, R565, R566, R570, R571, R573). A byte of a tap goes through every channel attached to it; a unit that ends with another
value than expected is a mismatch; a preset loads its model; the start of a channel loads INIT in every context; a running value may be written at
any time, and the bytes of its tick are applied to the value written. -/
def Obligations.CheckChannels : Prop :=
  (∀ (src inst : BitVec 8) (byte : Byte) (first last : Bool) (expected : Option (BitVec 32)),
    Runs (.chkTapByte · src inst byte first last expected) (fun _ => True)
      (fun u =>
        let r := u.chkTap src.toNat inst.toNat [byte] first last (expected.map BitVec.toNat) 20
        r.2.raiseChk r.1)) ∧
  (∀ (s : State) (n inst : Nat) (byte : Byte), n < 16 → s.rdb pgCHK (R.CHK_CFG_MODE n) = false →
    s.chkFeed n inst [byte] false false none =
      ([], s.setChkCtx n 0 { s.chkCtx n 0 with
        r := chkByte (s.chkWidth n) (s.chkPoly n) (s.rdb pgCHK (R.CHK_CFG_REFIN n)) (s.chkCtx n 0).r byte,
        seenAt := s.now, seen := s.chkSeen (s.chkCtx n 0) ++ [(false, [byte])] })) ∧
  (∀ (s : State) (n inst e : Nat) (byte : Byte), n < 16 → s.rdb pgCHK (R.CHK_CFG_MODE n) = true →
    s.rdb pgCHK (R.CHK_CFG_UNITEV n) = false →
    (let r := chkByte (s.chkWidth n) (s.chkPoly n) (s.rdb pgCHK (R.CHK_CFG_REFIN n)) (s.chkStart n) byte
     let f := chkFinal (s.chkWidth n) (s.rdb pgCHK (R.CHK_CFG_REFOUT n)) (s.rdb pgCHK (R.CHK_CFG_INV n)) r
     f ≠ e →
      s.chkFeed n inst [byte] true true (some e) =
        ([(0, n * 256 + inst)], (s.setChkCtx n 0 {
          r := r, res := f, units := ((s.chkCtx n 0).units + 1) % 2 ^ 32, mis := true, unit := false, seenAt := s.now,
          seen := s.chkSeen (s.chkCtx n 0) ++ [(true, [byte])] }).inc pgCHK R.CHK_MISCNT))) ∧
  (∀ (s : State) (n c v : Nat), (s.chkCtx n c).seenAt ≠ s.now →
    s.chkRewrite n c v = s.setChkCtx n c { s.chkCtx n c with r := v % 2 ^ s.chkWidth n }) ∧
  (∀ (s : State) (n c v : Nat) (byte : Byte), (s.chkCtx n c).seenAt = s.now → (s.chkCtx n c).seen = [(false, [byte])] →
    s.chkRewrite n c v = s.setChkCtx n c { s.chkCtx n c with
      r := chkByte (s.chkWidth n) (s.chkPoly n) (s.rdb pgCHK (R.CHK_CFG_REFIN n)) (v % 2 ^ s.chkWidth n) byte }) ∧
  (∀ (m : Master) (n : Fin 20) (v : Word) (lo a b : Nat), chkPreset (bitsOf v.toNat 12 3) = some (lo, a, b) →
    bitOf v.toNat 16 = false →
    Runs (.chkPreset · m n v)
      (fun u => u.accepts m (fieldAddr pgCHK (R.CHK_CFG n.val)) .chk 0 = true ∧ u.chkReserved n.val = false ∧
        u.rdb pgCHK (R.CHK_CFG_EN n.val) = false)
      (fun u =>
        let w := setBits v.toNat 0 9 lo
        (((u.setChkPoly n.val a).setChkInit n.val b).wr pgCHK (R.CHK_CFG n.val)
          (bitsOf w 0 11 + bitsOf w 16 2 * 2 ^ 16)).acceptedBy u m .chk 0 (fieldAddr pgCHK (R.CHK_CFG n.val)) v)) ∧
  (∀ (m : Master) (n : Fin 20) (v : Word), bitsOf v.toNat 12 3 = 0 → bitOf v.toNat 17 = false →
    Runs (.chkEnable · m n v)
      (fun u => u.accepts m (fieldAddr pgCHK (R.CHK_CFG n.val)) .chk 0 = true ∧ u.chkReserved n.val = false ∧
        u.rdb pgCHK (R.CHK_CFG_EN n.val) = false)
      (fun u =>
        let w := withBit v (R.CHK_CFG_EN n.val)
        ((u.wr pgCHK (R.CHK_CFG n.val) (bitsOf w.toNat 0 11 + bitsOf w.toNat 16 2 * 2 ^ 16)).chkClear n.val).acceptedBy u m
          .chk 0 (fieldAddr pgCHK (R.CHK_CFG n.val)) w)) ∧
  ∀ (m : Master) (n : Fin 16) (value : BitVec 128),
    Runs (.chkValueWrite · m (BitVec.ofNat 12 (4 * n.val + 2)) value)
      (fun u => u.takes m (headAddr pgCHK 0x20) .chk 0 = true)
      (fun u =>
        let z := u.mbxLoaded m pgCHK value.toNat
        let y := z.chkRewrite n.val 0 (value.toNat % 2 ^ 64)
        y.setMbx pgCHK m ((z.mbx pgCHK m).done (4 * n.val + 2) true (z.mbx pgCHK m).data))

/-! ### Twin -/

/-- FRAMES OF THE TWIN (R575, R576, R578, R582, R584, R589, R590, R592, R593, R612, R614). A HELLO that agrees forms the pair, one that does not
sets PAIRFAULT in LINKUP; a HEART of the other standby is noted, one of the active device is followed; SUM, ALIGN and RELAY act on a
standby, and a RELAY of a STAT on the active device; DELTAs apply in sequence, and those past a gap wait for it or for 1 ms; a FETCH is answered from the basin; HELLO goes out every
1 ms until the pair forms; a frame that fails its CRC is counted; a lane gains or loses lock. -/
def Obligations.TwinFrames : Prop :=
  (∀ (l : Fin 2) (h : Hello), Runs (.twinHello · l true h)
    (fun u => u.twinPowered = true ∧ u.twin.paired = false ∧ u.twinState = 1 ∧ u.isActive = false ∧
      newerEpoch h.epoch.toNat u.twin.newest = false ∧ u.pairCode h = 0)
    (fun u =>
      let z := u.peerWord h.sysState
      (z.setTwin { z.twin with paired := true }).wr pgTWIN R.TWIN_STAT_PAIRFAULT 0)) ∧
  (∀ (l : Fin 2) (h : Hello), Runs (.twinHello · l true h)
    (fun u => u.twinPowered = true ∧ u.twin.paired = false ∧ u.isActive = false ∧ u.dev.state = .linkup ∧
      newerEpoch h.epoch.toNat u.twin.newest = false ∧ u.pairCode h ≠ 0)
    (fun u => (((u.peerWord h.sysState).wr pgTWIN R.TWIN_STAT_PAIRFAULT (u.pairCode h)).setTwinState 6).raise pgTWIN 11
      (u.pairCode h))) ∧
  (∀ (l : Fin 2) (h : Heart), Runs (.twinHeart · l true h)
    (fun u => u.twinPowered = true ∧ (u.isStandby = false ∨ wordRole h.sysState ≠ 2))
    (fun u =>
      let z := (u.sawEpoch h.epoch.toNat).heard false
      (z.setTwin { z.twin with heartAt := (u.sawEpoch h.epoch.toNat).pairTick }).peerWord h.sysState)) ∧
  (∀ (l : Fin 2) (h : Heart), h.reason = 0 → wordRole h.sysState = 2 → Runs (.twinHeart · l true h)
    (fun u => u.twinPowered = true ∧ (u.sawEpoch h.epoch.toNat).isStandby = true)
    (fun u =>
      let z := (u.sawEpoch h.epoch.toNat).heard false
      ((z.setTwin { z.twin with heartAt := (u.sawEpoch h.epoch.toNat).pairTick }).peerWord h.sysState).followHeart h)) ∧
  (∀ (b : Fin 8) (first : BitVec 48) (sums : List Word), Runs (.twinSum · true b first sums)
    (fun u => u.twinPowered = true ∧ u.isStandby = true)
    (fun u =>
      let z := u.peerSummaries b.val first.toNat sums
      z.stepCheck z.curBars)) ∧
  (∀ (s : State) (b slot crc o at_ : Nat), mfind s.twin.ownSums (sumKey b slot) = some (o, at_) → crc = o →
    (s.peerSummary b slot crc).twin.health.ok = satInc 32 s.twin.health.ok ∧
      mfind (s.peerSummary b slot crc).twin.ownSums (sumKey b slot) = none) ∧
  (∀ (seq : Word) (d : Delta), Runs (.twinDelta · true seq d)
    (fun u => u.twinPowered = true ∧ seq.toNat = u.twin.deltaRx ∧ u.twin.early = [] ∧
      (({ u with twin := { u.twin with deltaRx := (u.twin.deltaRx + 1) % 2 ^ 32 } } : State).applyDelta d).twin.early = [])
    (fun u =>
      (({ u with twin := { u.twin with deltaRx := (u.twin.deltaRx + 1) % 2 ^ 32 } } : State).applyDelta d).gapOver)) ∧
  (∀ (seq : Word) (d : Delta), Runs (.twinDelta · true seq d)
    (fun u => u.twinPowered = true ∧ seq.toNat = (u.twin.deltaRx + 1) % 2 ^ 32 ∧ u.twin.deltaRx < 2 ^ 32 ∧ u.twin.early = [])
    (fun u => ({ u with twin := { u.twin with early := [(seq.toNat, d)], gapAt := u.twin.gapAt.or (some u.now) } } : State).twinSend
      (.resend u.twin.deltaRx))) ∧
  (∀ (s : State) (addr : BitVec 24) (v : Word), s.isStandby = true →
    s.applyDelta (.mirror addr v) = s.regWrite .twin addr.toNat v) ∧
  (∀ (g q : Nat) (d : Delta), Runs .deltaGapTimeout
    (fun u => u.twin.gapAt = some g ∧ g + ms 1 ≤ u.now ∧ u.isStandby = true ∧ u.twin.early = [(q, d)])
    (fun u =>
      let z := u.setTwin { u.twin with health := { u.twin.health with gap := true } }
      let y := (z.inc pgTWIN R.TWIN_LINKERR_GAP).leaveStep
      ((y.setTwin { y.twin with deltaRx := q, gapAt := some u.now }).drainEarly 1).gapOver)) ∧
  (∀ (b : Fin 32) (first : BitVec 64) (count : Nat), Runs (.twinFetch · true (.request b first count))
    (fun u => u.twinPowered = true ∧ 0 < min count ((u.basin b.val).p - first.toNat) ∧
      (u.basin b.val).p ≤ first.toNat + u.basinSize b.val)
    (fun u => u.twinKeep (.fetch (.data b first (u.basinGet b.val first.toNat
      (min count ((u.basin b.val).p - first.toNat))))))) ∧
  (∀ (b : Fin 32) (first : BitVec 64) (bytes : List Byte), Runs (.twinFetch · true (.data b first bytes))
    (fun u => u.twinPowered = true ∧ u.listening = true ∧ first.toNat ≤ (u.basin b.val).p ∧
      bytes.drop ((u.basin b.val).p - first.toNat) ≠ [] ∧ u.hostBasin b.val = true ∧
      (u.basin b.val).p + (bytes.drop ((u.basin b.val).p - first.toNat)).length ≤ u.basinLimit b.val)
    (fun u => u.takeData b.val (bytes.drop ((u.basin b.val).p - first.toNat)))) ∧
  (∀ (n : Fin 40) (f : List Byte), ¬ (tileType f = 4 ∧ tileSub f = 0) → isPrbs (tileType f) (tileSub f) = false →
    Runs (.twinRelay · true n f)
      (fun u => u.twinPowered = true ∧ u.isStandby = true ∧ u.laneUp n.val = true ∧
        u.rdb (pgTLNK n.val) R.TLNK_STAT_HEALED = true)
      (fun u => u.setTl n.val { u.tl n.val with tx := (u.tl n.val).tx ++ [f], txAt := u.now })) ∧
  (∀ (n : Fin 40) (f : List Byte), tileType f = 6 → Runs (.twinRelay · true n f)
    (fun u => u.twinPowered = true ∧ u.isStandby = false ∧ u.isActive = true ∧ u.twin.relay.contains n.val = true)
    (fun u => u.relayedStat n.val f)) ∧
  (∀ a : Align, Runs (.twinAlign · true a) (fun u => u.twinPowered = true ∧ u.isStandby = true)
    (fun u =>
      let st := a.stretch.toInt * 65536
      let z := u.setPos { u.pos with sFrom := st, sTo := st, sAt := none }
      let y := z.setPos { z.pos with off := z.pos.off + (u.x0 - z.x0) }
      y.setX0 (y.x0 + (a.x0.toInt * 256 - y.x0At (y.ownTick a.tick.toNat))))) ∧
  (∀ m : Master, Runs (.twinAlignCmd · m)
    (fun u => u.accepts m (fieldAddr pgTWIN R.TWIN_CMD) .twin 0 = true ∧ u.isActive = true)
    (fun u => (u.twinSend (.align u.ownAlign)).acceptedBy u m .twin 0 (fieldAddr pgTWIN R.TWIN_CMD)
      (withBit 0#32 R.TWIN_CMD_ALIGN))) ∧
  Runs .helloSend (fun u => u.twinPowered = true ∧ u.twin.paired = false ∧ u.twin.helloAt + ms 1 ≤ u.now)
    (fun u =>
      let z := u.setTwin { u.twin with helloAt := u.now }
      z.twinSendBoth (.hello z.hello)) ∧
  (∀ (l : Fin 2) (h : Hello), Runs (.twinHello · l false h) (fun u => u.twinPowered = true)
    (fun u => u.inc pgTWIN R.TWIN_LINKERR_CRC)) ∧
  (∀ l : Fin 2, Runs (.twinLaneLock · l true)
    (fun u =>
      let f := if l.val = 0 then R.TWIN_STAT_LANE0 else R.TWIN_STAT_LANE1
      u.twinPowered = true ∧ u.rdb pgTWIN f = false ∧ ((u.wr pgTWIN f 1).raise pgTWIN 0 l.val).anyTwin = true)
    (fun u => (u.wr pgTWIN (if l.val = 0 then R.TWIN_STAT_LANE0 else R.TWIN_STAT_LANE1) 1).raise pgTWIN 0 l.val)) ∧
  ∀ l : Fin 2, Runs (.twinLaneLock · l false)
    (fun u =>
      let f := if l.val = 0 then R.TWIN_STAT_LANE0 else R.TWIN_STAT_LANE1
      u.twinPowered = true ∧ u.rdb pgTWIN f = true ∧ ((u.wr pgTWIN f 0).raise pgTWIN 1 l.val).anyTwin = false ∧
        u.isStandby = true)
    (fun u =>
      (((u.wr pgTWIN (if l.val = 0 then R.TWIN_STAT_LANE0 else R.TWIN_STAT_LANE1) 0).raise pgTWIN 1 l.val).leaveStep).relayStop)

/-- HEARTBEATS AND HEALTH (R132, R595, R596, R597, R599, R601, R602). A heartbeat goes out on each lane that is up and holds the Sluice of a live active
device; a path that reaches its deadline alone raises the alarm once; with both silent a standby declares failure and an active device goes on
alone; a pulse ends the silence of its path; a health period writes its counts and starts anew. -/
def Obligations.Heartbeats : Prop :=
  Runs .heartbeatIssue
    (fun u => u.twinPowered = true ∧ (u.twin.beatAt = 0 ∨ u.twin.beatAt + u.beatPeriod ≤ u.now) ∧
      (u.twin.beatAt = 0 ∨ u.now < u.twin.beatAt + u.beatPeriod + 41))
    (fun u =>
      let z := u.setTwin { u.twin with
        beatAt := u.now, heartTx := u.pairTick,
        monoEnd := if u.liveActive = true ∧ u.twin.sluiceOut = true then u.now + us 20 else u.twin.monoEnd }
      z.twinSendBoth (.heart (z.heart 0))) ∧
  Runs (.heartbeatPathSilent · true)
    (fun u => u.twinPowered = true ∧ u.twin.pinLast ≠ none ∧ u.silent true = true ∧ u.silent false = false ∧
      u.twin.pinAlarmed = false)
    (fun u =>
      let z := u.wr pgTWIN R.TWIN_STAT_HBPIN 0
      ((z.setTwin { z.twin with pinAlarmed := true, health := { z.twin.health with alarm := true } }).inc pgTWIN
        R.TWIN_HBCNT_PIN).raise pgTWIN 2 1) ∧
  Runs (.heartbeatPathSilent · false)
    (fun u => u.twinPowered = true ∧ u.twin.linkLast ≠ none ∧ u.silent false = true ∧ u.silent true = false ∧
      u.twin.linkAlarmed = false)
    (fun u =>
      let z := u.wr pgTWIN R.TWIN_STAT_HBLINK 0
      ((z.setTwin { z.twin with linkAlarmed := true, health := { z.twin.health with alarm := true } }).inc pgTWIN
        R.TWIN_HBCNT_LINK).raise pgTWIN 2 0) ∧
  Runs (.heartbeatPathSilent · true)
    (fun u => u.twinPowered = true ∧ u.twin.pinLast ≠ none ∧ u.silent true = true ∧ u.silent false = true ∧
      u.isStandby = true ∧ u.twin.declared = none ∧ u.pagesUp = true)
    (fun u =>
      let z := u.wr pgTWIN R.TWIN_STAT_HBPIN 0
      ((z.setTwin { z.twin with declared := some (1, z.now) }).raise pgTWIN 3 1).inc pgTWIN R.TWIN_TAKECNT_DECL) ∧
  Runs (.heartbeatPathSilent · true)
    (fun u => u.twinPowered = true ∧ u.twin.pinLast ≠ none ∧ u.silent true = true ∧ u.silent false = true ∧
      u.isStandby = false ∧ u.isActive = true ∧ u.twinState = 3)
    (fun u =>
      let z := u.wr pgTWIN R.TWIN_STAT_HBPIN 0
      ((z.setTwin { z.twin with paired := false, peerC := [] }).setTwinState 5).raise pgTWIN 7) ∧
  Runs .hbInPulse
    (fun u => u.twinPowered = true ∧ u.rdb pgTWIN R.TWIN_STAT_HBPIN = false ∧ u.twin.declared = none)
    (fun u => (u.setTwin { u.twin with pinLast := some u.pairTick, pinAlarmed := false }).wr pgTWIN R.TWIN_STAT_HBPIN 1) ∧
  Runs .twinHealthPeriod
    (fun u => u.twinPowered = true ∧ u.twin.healthAt + ms (atLeast1 (u.rd pgTWIN R.TWIN_HLTHCFG_PERIOD)) ≤ u.now)
    (fun u =>
      let z := u.dropOldSums
      let h := z.twin.health
      let y := (((((((z.wr pgTWIN R.TWIN_HEALTH0 h.ok).wr pgTWIN R.TWIN_HEALTH1_SUMBAD h.bad).wr pgTWIN
        R.TWIN_HEALTH1_UNMATCHED h.unmatched).wr pgTWIN R.TWIN_HEALTH2_TILEPRBS h.tilePrbs).wr pgTWIN R.TWIN_HEALTH3_MASK
        z.healthMask).wr pgTWIN R.TWIN_HEALTH3_DRAMCORR h.dramCorr).wr pgTWIN R.TWIN_HEALTH3_SRAMCORR h.sramCorr)
      (y.setTwin { y.twin with health := {}, healthAt := u.now }).raise pgTWIN 8 z.healthMask)

/-- SLUICE, TAKEOVER AND HANDOVER (R25, R579, R602, R604 to R607, R611). With SLUICE_IN low a standby that has declared failure becomes active with a new
epoch, its bars sending again from FROMSLOT, unless a heartbeat of the same tick cancels a declaration for silence; with it high too long SLUICEHELD is set; an active device that sees SLUICE_IN
high for its limit, or whose monostable expires, releases the Sluice and is FENCED; the host release returns a FENCED device to READY; a handover announces reason 6
and fences the device, and is refused while the other device is not in step. -/
def Obligations.SluiceAndTakeover : Prop :=
  Runs .takeover
    (fun u => u.twin.declared ≠ none ∧ u.twin.sluiceIn = false ∧ u.isStandby = true ∧
      (u.dev.state = .ready ∨ u.inJob = true) ∧ u.beatWaits = false ∧ (u.twin.held = false ∨ (u.silent false = true ∧ u.silent true = true)))
    (fun u =>
      let bars := barsOf u.curBars
      let z := State.each State.takeBar u bars
      let y := z.setTwin { z.twin with declared := none, held := false, paired := false, peerC := [] }
      let x := (y.becomeActive y.dev.state).setTwinState 4
      let w := (x.raise pgTWIN 4 (x.rd pgTWIN R.TWIN_EPOCH)).epochSend.outDiff.wrSelf pgYRT R.YRT_CTL_LISTEN 0
      if bars = [] then w.takeoverDone else w) ∧
  Runs .takeover (fun u => u.beatWaits = true) id ∧
  (∀ (s : State) (st : DevState), s.dev.role ≠ .active →
    (s.becomeActive st).dev.role = .active ∧ (s.becomeActive st).twin.sluiceOut = true ∧
      (s.becomeActive st).rd pgTWIN R.TWIN_EPOCH = s.nextEpoch) ∧
  (∀ (r at_ : Nat), Runs .sluiceWaitTimeout
    (fun u => u.twin.declared = some (r, at_) ∧ u.twin.held = false ∧ u.twin.sluiceIn = true ∧
      at_ + us (atLeast1 (u.rd pgTWIN R.TWIN_CFG_SLUICEWAIT)) ≤ u.now)
    (fun u => (u.setTwin { u.twin with held := true }).raise pgTWIN 12)) ∧
  Runs (.sluiceInFence · true)
    (fun u => u.twin.sluiceIn = true ∧ u.isActive = true ∧ (u.dev.state = .ready ∨ u.inJob = true) ∧
      u.twin.sluiceInAt + us (if u.rdb pgSYS R.SYS_STRAP_ROLE_SEL then 2 else 40) ≤ u.now)
    (fun u => u.enterSide .fenced 3) ∧
  Runs (.sluiceInFence · false) (fun u => u.twin.sluiceIn = true)
    (fun u => u.setTwin { u.twin with sluiceIn := false, sluiceInAt := u.now }) ∧
  Runs .sluiceMonostableExpiry
    (fun u => u.twin.sluiceOut = true ∧ u.twin.monoEnd ≤ u.now ∧ u.isActive = true ∧
      u.dev.state ≠ .frozen ∧ u.dev.state ≠ .safe)
    (fun u => u.sluiceLow.enterSide .fenced 3) ∧
  (∀ m : Master, Runs (.hostRelease · m)
    (fun u => u.dev.state = .fenced ∧ u.twin.sluiceIn = false ∧
      u.pairMode = false)
    (fun u =>
      let z := ((u.setTwin { u.twin with declared := none, held := false }).leaveStep).dropJobs
      (z.change .ready .solo u.dev.cause).setTwinState 0)) ∧
  (∀ m : Master, Runs (.hostRelease · m)
    (fun u => u.dev.state = .fenced ∧ u.twin.sluiceIn = false ∧
      u.pairMode = true ∧ u.jobs.cur = none)
    (fun u => (((u.setTwin { u.twin with declared := none, held := false }).leaveStep).setTwinState 2).change .ready
      .standby u.dev.cause)) ∧
  (∀ m : Master, Runs (.twinHandover · m true)
    (fun u => u.accepts m (fieldAddr pgTWIN R.TWIN_CMD) .twin 0 = true ∧ u.liveActive = true)
    (fun u =>
      let w := withBit 0#32 R.TWIN_CMD_HANDOVER
      ((((u.twinSendBoth (.heart (u.heart 6))).sluiceLow.camCut 0).camCut 1).change .fenced u.dev.role 3).acceptedBy u m
        .twin 0 (fieldAddr pgTWIN R.TWIN_CMD) w)) ∧
  ∀ m : Master, Runs (.twinHandover · m false)
    (fun u => u.takes m (fieldAddr pgTWIN R.TWIN_CMD) .twin 0 = true)
    (fun u =>
      let w := withBit 0#32 R.TWIN_CMD_HANDOVER
      ((u.inc pgPRIV R.PRIV_REFUSED).raise (fieldAddr pgTWIN R.TWIN_CMD / 4096) flagRefused).audit m
        (fieldAddr pgTWIN R.TWIN_CMD) w.toNat 0 8)

/-! ### Press -/

/-- SENSORS AND VCORE (R616 to R618, R621, R623, R670, R671, R673 to R675). A sound sample of a sensor that takes part is checked against limits and rate; one
that is out of range or without a reading makes the sensor faulty, and it counts as good again after sixteen; a sample above a limit raises
the level of its group at once; limits out of order are refused; the VCORE loop raises the target of a slow fabric by STEP up to 900 mV, and keeps it
otherwise; an alert reads STATUS_WORD and clears the faults; the override writes the fixed voltage; enabling the loop starts it. -/
def Obligations.SensorsAndVcore : Prop :=
  (∀ (n : Fin 40) (f : BitVec 16) (peer : Bool) (t : Int), -5120 ≤ t → t ≤ 19200 →
    Runs (.thermalSample · n (some f) peer)
      (fun u => u.sensing = true ∧ u.reading n.val f.toNat = some t ∧ (u.sensor n.val).fault = false ∧ n.val < 32)
      (fun u => ((u.setSensor n.val { u.sensor n.val with fault := false, good := 0 }).goodSample n.val f.toNat t peer).thermRegs)) ∧
  (∀ (n : Fin 40) (f : BitVec 16) (peer : Bool) (t : Int), -5120 ≤ t → t ≤ 19200 →
    Runs (.thermalSample · n (some f) peer)
      (fun u => u.sensing = true ∧ u.reading n.val f.toNat = some t ∧ (u.sensor n.val).fault = true ∧
        (u.sensor n.val).good + 1 < 16 ∧ n.val < 32)
      (fun u => (u.setSensor n.val { u.sensor n.val with
        good := (u.sensor n.val).good + 1, temp := t, count := f.toNat, tick := u.now }).thermRegs)) ∧
  (∀ (n : Fin 40) (peer : Bool), Runs (.thermalSample · n none peer) (fun u => u.sensing = true ∧ n.val < 32)
    (fun u => (u.badSample n.val 0 false peer).thermRegs)) ∧
  (∀ (s : State) (g l : Nat) (inStep : Bool), s.level g < l →
    s.raiseLevel g l inStep =
      (State.each (fun s n => s.setSensor n { s.sensor n with below := 0 })
        ((s.setLevel g l).raise pgTHRM 0 (g * 8 + l)) (groupSensors g)).thermEnter s.devLevel inStep) ∧
  (∀ (m : Master) (dram : Bool) (v : Word), limitsOk dram v.toNat = true →
    Runs (.thermalLimitWrite · m dram v)
      (fun u => u.accepts m (fieldAddr pgTHRM (if dram then R.THRM_DRAMLIM else R.THRM_DIELIM)) .thrm 0 = true)
      (fun u => (u.stored pgTHRM (if dram then R.THRM_DRAMLIM else R.THRM_DIELIM) v).acceptedBy u m .thrm 0
        (fieldAddr pgTHRM (if dram then R.THRM_DRAMLIM else R.THRM_DIELIM)) v)) ∧
  (∀ (m : Master) (dram : Bool) (v : Word), limitsOk dram v.toNat = false →
    Runs (.thermalLimitWrite · m dram v)
      (fun u => u.takes m (fieldAddr pgTHRM (if dram then R.THRM_DRAMLIM else R.THRM_DIELIM)) .thrm 0 = true)
      (fun u => ((u.inc pgPRIV R.PRIV_REFUSED).raise
        (fieldAddr pgTHRM (if dram then R.THRM_DRAMLIM else R.THRM_DIELIM) / 4096) flagRefused).audit m
        (fieldAddr pgTHRM (if dram then R.THRM_DRAMLIM else R.THRM_DIELIM)) v.toNat 0 8)) ∧
  (∀ (vout : BitVec 10) (iout : BitVec 16), Runs (.avsInterval · vout iout 0 0)
    (fun u => u.avs.stopped = false ∧ u.avs.lockedOut = false ∧ u.pagesUp = true ∧ u.dev.state ≠ .safe ∧
      u.rdb pgSYS R.SYS_AVSCFG_EN = true ∧ u.vcoreFixed = false ∧
      u.avs.intervalAt + ms (atLeast1 (u.rd pgSYS R.SYS_AVSCFG_INT)) ≤ u.now ∧
      256 + u.rd pgSYS R.SYS_AVSCFG_LOMARG ≤ u.avs.smin ∧
      u.avs.smin ≤ 256 + max (u.rd pgSYS R.SYS_AVSCFG_LOMARG + 1) (u.rd pgSYS R.SYS_AVSCFG_HIMARG))
    (fun u =>
      let z := { u with avs := { u.avs with calm := 0, intervalAt := u.now, smin := u.rd pgWEIR R.WEIR_SPEED } }
      (((z.pmbSend 0x8B 0 1).pmbSend 0x8C 0 1).wr pgSYS R.SYS_VCORE_VOUT vout.toNat).wr pgSYS R.SYS_IOUT_IOUT iout.toNat)) ∧
  (∀ (vout : BitVec 10) (iout : BitVec 16), Runs (.avsInterval · vout iout 0 0)
    (fun u => u.avs.stopped = false ∧ u.avs.lockedOut = false ∧ u.pagesUp = true ∧ u.dev.state ≠ .safe ∧
      u.rdb pgSYS R.SYS_AVSCFG_EN = true ∧ u.vcoreFixed = false ∧
      u.avs.intervalAt + ms (atLeast1 (u.rd pgSYS R.SYS_AVSCFG_INT)) ≤ u.now ∧
      u.avs.smin < 256 + u.rd pgSYS R.SYS_AVSCFG_LOMARG ∧
      u.rd pgSYS R.SYS_VCORE_TARGET + atLeast1 (u.rd pgSYS R.SYS_AVSCFG_STEP) < 900)
    (fun u =>
      let z := { u with avs := { u.avs with calm := 0, intervalAt := u.now, smin := u.rd pgWEIR R.WEIR_SPEED } }
      let r := z.writeVout (u.rd pgSYS R.SYS_VCORE_TARGET + atLeast1 (u.rd pgSYS R.SYS_AVSCFG_STEP)) 0 0
      if r.1 then
        (((r.2.pmbSend 0x8B 0 1).pmbSend 0x8C 0 1).wr pgSYS R.SYS_VCORE_VOUT vout.toNat).wr pgSYS R.SYS_IOUT_IOUT iout.toNat
      else r.2)) ∧
  (∀ status : BitVec 16, Runs (.pmbAlert · status 0 0) (fun u => u.pagesUp = true ∧ u.avs.lockedOut = false)
    (fun u => ((u.pmbSend 0x79 0 1).raise pgSYS 3 status.toNat).pmbSend 0x03 0 1)) ∧
  (∀ (m : Master) (v : Word) (f p : Fin 5), Runs (.avsOverrideWrite · m v f p)
    (fun u => u.accepts m (fieldAddr pgSYS R.SYS_AVSOVR) .sys 0 = true)
    (fun u => ((u.stored pgSYS R.SYS_AVSOVR v).avsOverride f.val p.val).acceptedBy u m .sys 0 (fieldAddr pgSYS R.SYS_AVSOVR) v)) ∧
  ∀ (m : Master) (v : Word), Runs (.avsEnable · m v)
    (fun u => u.accepts m (fieldAddr pgSYS R.SYS_AVSCFG) .sys 0 = true ∧ u.rdb pgSYS R.SYS_AVSCFG_EN = false)
    (fun u =>
      let w := withBit v R.SYS_AVSCFG_EN
      (u.stored pgSYS R.SYS_AVSCFG w).avsStart.acceptedBy u m .sys 0 (fieldAddr pgSYS R.SYS_AVSCFG) w)

/-- PRESS INPUTS (R145, R147, R678 to R681, R686). A transition of an input is held for its filter time, or accepted at once without one;
a return within the hold discards it as a glitch; at the end of the hold the edge is accepted with its captured tick and passed to the input
functions; a stop-request edge halts the job with cause 2. -/
def Obligations.PressInputs : Prop :=
  (∀ (i : Fin 16) (l : Bool), Runs (.pioInputTransition · i l)
    (fun u => u.early = [] ∧ u.edgesFirst.pagesUp = true ∧ (u.edgesFirst.pin i.val).hold = none ∧
      l ≠ (u.edgesFirst.pin i.val).raw ∧ u.edgesFirst.rd pgPIO (R.PIO_ICFG_FILT i.val) ≠ 0)
    (fun u =>
      let z := u.edgesFirst
      let y := z.setPin i.val { z.pin i.val with raw := l, hold := none }
      y.setPin i.val { y.pin i.val with
        hold := some { tick := y.now, endTick := y.now + z.rd pgPIO (R.PIO_ICFG_FILT i.val) * 1600, level := l } })) ∧
  (∀ (i : Fin 16) (l : Bool), Runs (.pioInputTransition · i l)
    (fun u => u.early = [] ∧ u.edgesFirst.pagesUp = true ∧ (u.edgesFirst.pin i.val).hold = none ∧
      l ≠ (u.edgesFirst.pin i.val).raw ∧ u.edgesFirst.rd pgPIO (R.PIO_ICFG_FILT i.val) = 0)
    (fun u =>
      let z := u.edgesFirst
      (z.setPin i.val { z.pin i.val with raw := l, hold := none }).acceptPio i.val z.now l)) ∧
  (∀ (i : Fin 16) (l : Bool) (h : PioHold), Runs (.pioInputTransition · i l)
    (fun u => u.early = [] ∧ u.edgesFirst.pagesUp = true ∧ (u.edgesFirst.pin i.val).hold = some h ∧
      u.edgesFirst.now < h.endTick ∧ l ≠ (u.edgesFirst.pin i.val).raw)
    (fun u =>
      let z := u.edgesFirst
      ((z.setPin i.val { z.pin i.val with raw := l, hold := none }).inc pgPIO R.PIO_GLITCH).raise pgPIO 1 i.val)) ∧
  (∀ (i : Fin 16) (h : PioHold), Runs (.pioEdgeAccept · i)
    (fun u => u.early = [] ∧ (u.edgesFirst.pin i.val).hold = some h ∧ h.endTick ≤ u.edgesFirst.now)
    (fun u => u.edgesFirst.acceptPio i.val h.tick h.level)) ∧
  (∀ (s : State) (i tick : Nat) (l : Bool), s.rdb pgPIO R.PIO_IMAP_STOPEN = false → s.rdb pgPIO R.PIO_IMAP_TRIGEN = false →
    s.rdb pgPIO R.PIO_IMAP_WEBEN = false → s.rdb pgPIO (R.PIO_ICFG_EVEDGE i) = false →
    s.acceptPio i tick l =
      s.setPin i { s.pin i with level := l, hold := none, tick := tick, count := (s.pin i).count + 1#32 }) ∧
  ∀ (s : State) (i tick : Nat), s.rdb pgPIO R.PIO_IMAP_STOPEN = true → s.rd pgPIO R.PIO_IMAP_STOPIN = i →
    s.rdb pgPIO R.PIO_IMAP_TRIGEN = false → s.rdb pgPIO R.PIO_IMAP_WEBEN = false →
    s.inputFunctions i tick true = s.stopRequest i
end

