-- ==== Sys2Proof/Laws/Store.lean ====
section
/-!
SUPPORT. Laws of the sparse stores: reading after writing, and the canonical form.
-/
namespace Sys2Proof.Machine

variable {α : Type}

/-- Finding after listing. -/
theorem mfind_mput (m : NMap α) (k : Nat) (v : α) (j : Nat) :
    mfind (mput m k v) j = if k = j then some v else mfind m j := by
  induction m with
  | nil => simp [mput, mfind]
  | cons e t ih =>
    obtain ⟨a, w⟩ := e
    simp only [mput]
    split
    · simp [mfind]
    · split
      · subst k
        simp only [mfind]; split <;> simp_all
      · simp only [mfind]
        split <;> simp_all

/-- Finding after removing. -/
theorem mfind_merase (m : NMap α) (k j : Nat) : mfind (merase m k) j = if k = j then none else mfind m j := by
  induction m with
  | nil => simp [merase, mfind]
  | cons e t ih =>
    obtain ⟨a, w⟩ := e
    simp only [merase]
    split
    · subst k; rw [ih]; simp only [mfind]; split <;> simp_all
    · simp only [mfind]; split
      · subst j; rw [if_neg (fun h => ‹¬a = k› h.symm)]
      · exact ih

/-- Reading after writing in a store with a default: the value written, every other key as before. -/
@[simp] theorem mget_mset [DecidableEq α] (d d' : α) (m : NMap α) (k : Nat) (v : α) (j : Nat) :
    mget d' (mset d m k v) j = if k = j then (if v = d then d' else v) else mget d' m j := by
  simp only [mget, mset]
  split
  · rw [mfind_merase]; split <;> simp
  · rw [mfind_mput]; split <;> simp

/-- Reading after listing. -/
@[simp] theorem mget_mput (d : α) (m : NMap α) (k : Nat) (v : α) (j : Nat) :
    mget d (mput m k v) j = if k = j then v else mget d m j := by
  simp only [mget, mfind_mput]; split <;> simp

/-- Finding in the entries whose key passes a test. -/
theorem mfind_mfilter (p : Nat → Bool) (m : NMap α) (j : Nat) :
    mfind (mfilter p m) j = if p j then mfind m j else none := by
  induction m with
  | nil => simp [mfilter, mfind]
  | cons e t ih =>
    obtain ⟨a, w⟩ := e
    simp only [mfilter]
    split
    · simp only [mfind]; split <;> simp_all
    · simp only [mfind, ih]; split
      · rename_i hp; rw [if_neg]; rintro rfl; exact ‹¬p a = true› hp
      · rfl

/-- Listing a key outside a test leaves the entries that pass it. -/
theorem mfilter_mput (p : Nat → Bool) (m : NMap α) (k : Nat) (v : α) (h : p k = false) :
    mfilter p (mput m k v) = mfilter p m := by
  induction m with
  | nil => simp [mput, mfilter, h]
  | cons e t ih =>
    obtain ⟨a, w⟩ := e
    simp only [mput]
    split
    · simp [mfilter, h]
    · split
      · subst k; simp [mfilter, h]
      · simp [mfilter, ih]

/-- Removing a key outside a test leaves the entries that pass it. -/
theorem mfilter_merase (p : Nat → Bool) (m : NMap α) (k : Nat) (h : p k = false) :
    mfilter p (merase m k) = mfilter p m := by
  induction m with
  | nil => simp [merase, mfilter]
  | cons e t ih =>
    obtain ⟨a, w⟩ := e
    simp only [merase]
    split
    · subst k; simp [mfilter, h, ih]
    · simp [mfilter, ih]

/-- Writing a key outside a test leaves the entries that pass it. -/
theorem mfilter_mset [DecidableEq α] (p : Nat → Bool) (d : α) (m : NMap α) (k : Nat) (v : α) (h : p k = false) :
    mfilter p (mset d m k v) = mfilter p m := by
  simp only [mset]; split
  · exact mfilter_merase p m k h
  · exact mfilter_mput p m k v h

/-! ### The canonical form -/

/-- A listed entry keeps the form. -/
theorem mwfFrom_mput [DecidableEq α] (d : Nat → α) (k : Nat) (v : α) (hv : v ≠ d k) (m : NMap α) (lo : Nat)
    (hl : lo ≤ k) (h : mwfFrom d lo m = true) : mwfFrom d lo (mput m k v) = true := by
  induction m generalizing lo with
  | nil => simp [mput, mwfFrom, hl, hv]
  | cons e t ih =>
    obtain ⟨a, w⟩ := e
    simp only [mwfFrom, Bool.and_eq_true, decide_eq_true_eq] at h
    simp only [mput]
    split
    · simp only [mwfFrom, Bool.and_eq_true, decide_eq_true_eq]
      refine ⟨⟨hl, by simpa using hv⟩, ⟨⟨by omega, h.1.2⟩, h.2⟩⟩
    · split
      · subst k; simp [mwfFrom, h, hv]
      · simp only [mwfFrom, Bool.and_eq_true, decide_eq_true_eq]
        exact ⟨h.1, ih (a + 1) (by omega) h.2⟩

/-- A lower bound of the keys may fall. -/
theorem mwfFrom_mono [DecidableEq α] (d : Nat → α) (m : NMap α) (lo lo' : Nat) (hl : lo' ≤ lo)
    (h : mwfFrom d lo m = true) : mwfFrom d lo' m = true := by
  cases m with
  | nil => rfl
  | cons e t =>
    obtain ⟨a, w⟩ := e
    simp only [mwfFrom, Bool.and_eq_true, decide_eq_true_eq] at h ⊢
    exact ⟨⟨by omega, h.1.2⟩, h.2⟩

/-- A removed entry keeps the form. -/
theorem mwfFrom_merase [DecidableEq α] (d : Nat → α) (k : Nat) (m : NMap α) (lo : Nat)
    (h : mwfFrom d lo m = true) : mwfFrom d lo (merase m k) = true := by
  induction m generalizing lo with
  | nil => rfl
  | cons e t ih =>
    obtain ⟨a, w⟩ := e
    simp only [mwfFrom, Bool.and_eq_true, decide_eq_true_eq] at h
    simp only [merase]
    split
    · exact mwfFrom_mono d _ (a + 1) lo (by omega) (ih (a + 1) h.2)
    · simp only [mwfFrom, Bool.and_eq_true, decide_eq_true_eq]
      exact ⟨h.1, ih (a + 1) h.2⟩

/-- Writing a key of a store keeps its canonical form. -/
theorem mwf_mset [DecidableEq α] (d : Nat → α) (m : NMap α) (k : Nat) (v : α) (h : mwf d m = true) :
    mwf d (mset (d k) m k v) = true := by
  simp only [mset, mwf] at *; split
  · exact mwfFrom_merase d k m 0 h
  · exact mwfFrom_mput d k v ‹_› m 0 (by omega) h

/-- Keeping the entries that pass a test keeps the canonical form. -/
theorem mwfFrom_mfilter [DecidableEq α] (d : Nat → α) (p : Nat → Bool) (m : NMap α) (lo : Nat)
    (h : mwfFrom d lo m = true) : mwfFrom d lo (mfilter p m) = true := by
  induction m generalizing lo with
  | nil => rfl
  | cons e t ih =>
    obtain ⟨a, w⟩ := e
    simp only [mwfFrom, Bool.and_eq_true, decide_eq_true_eq] at h
    simp only [mfilter]
    split
    · simp only [mwfFrom, Bool.and_eq_true, decide_eq_true_eq]
      exact ⟨h.1, ih (a + 1) h.2⟩
    · exact mwfFrom_mono d _ (a + 1) lo (by omega) (ih (a + 1) h.2)

/-! ### Memory -/

/-- A byte written is read, and no other byte changes. -/
theorem memByte_memPut (m : List Host.Cell) (a : Nat) (x : Byte) (b : Nat) :
    memByte (memPut m a x) b = if a = b then x else memByte m b := by
  simp only [memByte, memPut, mget_mset]
  split
  · split <;> simp_all
  · rfl

/-- Writing a byte keeps the form of the memory. -/
theorem memPut_wf (m : List Host.Cell) (a : Nat) (x : Byte) (h : Memory.wf m = true) : Memory.wf (memPut m a x) = true :=
  mwf_mset (fun _ => memDefault) m a x h

/-- Writing bytes keeps the form of the memory. -/
theorem memPuts_wf (bs : List Byte) (m : List Host.Cell) (a : Nat) (h : Memory.wf m = true) :
    Memory.wf (memPuts m a bs) = true := by
  induction bs generalizing m a with
  | nil => exact h
  | cons b bs ih => exact ih _ _ (memPut_wf m a b h)

/-- A byte outside the bytes written is unchanged. -/
theorem memByte_memPuts (bs : List Byte) (m : List Host.Cell) (a b : Nat) (h : b < a ∨ a + bs.length ≤ b) :
    memByte (memPuts m a bs) b = memByte m b := by
  induction bs generalizing m a with
  | nil => rfl
  | cons x bs ih =>
    simp only [List.length_cons] at h
    rw [memPuts, ih _ _ (by omega), memByte_memPut, if_neg (by omega)]

end Sys2Proof.Machine
end

