-- ==== Sys2Proof/Laws/Inner.lean ====
section
/-!
SUPPORT. Laws of the shared operations: what an event record and the end of a command leave unchanged.
-/
namespace Sys2Proof.Machine

/-! ### Registers -/

/-- A word written is read, and no other word changes. -/
@[simp] theorem word_setWord (s : State) (a : Nat) (v : Word) (b : Nat) :
    (s.setWord a v).word b = if a = b then v else s.word b := by
  simp only [State.word, State.setWord, mget_mset]
  split
  · subst b; split <;> simp_all
  · rfl

/-- The header written is read, and no other header changes. -/
@[simp] theorem head_setHead (s : State) (pg : Nat) (h : Hdr) (q : Nat) :
    (s.setHead pg h).head q = if pg = q then h else s.head q := by
  simp only [State.head, State.setHead, mget_mset]
  split
  · split <;> simp_all
  · rfl

/-- A word outside the side pages is part of `inner`. -/
theorem inner_word (s : State) (a : Nat) (h : sidePage (pageOf a) = false) : s.inner.word a = s.word a := by
  simp [State.word, State.inner, mget, mfind_mfilter, h]

/-- A write of a side page leaves `inner`. -/
theorem inner_setWord (s : State) (a : Nat) (v : Word) (h : sidePage (pageOf a) = true) :
    (s.setWord a v).inner = s.inner := by
  simp only [State.inner, State.setWord]
  rw [mfilter_mset _ _ _ _ _ (by simp [h])]

/-- A page number below 4096 owns the addresses of its registers. -/
theorem pageOf_fld (pg off : Nat) (h1 : pg < 4096) (h2 : off < 4096) : pageOf (pg * 4096 + off) = pg := by
  simp only [pageOf]; rw [if_neg (by omega)]; omega

/-- A write of a field of a side page leaves `inner`. -/
theorem inner_wr (s : State) (pg : Nat) (f : Fld) (v : Nat) (h : sidePage pg = true) (hf : f.off < 4096) :
    (s.wr pg f v).inner = s.inner := by
  apply inner_setWord
  rw [pageOf_fld _ _ _ hf]
  · exact h
  · revert h; simp only [sidePage, pgBASNW, pgCHK, pgLOOP, Bool.or_eq_true, beq_iff_eq]; omega

@[simp] theorem inner_hit (s : State) (a lo w k : Nat) (b : Bool) : (s.hit a lo w k b).inner = s.inner := rfl

/-- A count of a side page leaves `inner`. -/
theorem inner_inc (s : State) (pg : Nat) (f : Fld) (h : sidePage pg = true) (hf : f.off < 4096) :
    (s.inc pg f).inner = s.inner := by
  simp only [State.inc, State.addTo, inner_hit]
  exact inner_wr _ _ _ _ h hf

/-! ### Lanes and sessions -/

@[simp] theorem inner_setHead (s : State) (pg : Nat) (h : Hdr) : (s.setHead pg h).inner = s.inner := rfl
@[simp] theorem inner_setLane (s : State) (n : Nat) (l : HostLane) : (s.setLane n l).inner = s.inner := rfl
@[simp] theorem inner_setSession (s : State) (k : Nat) (x : Session) : (s.setSession k x).inner = s.inner := rfl
@[simp] theorem inner_setBasin (s : State) (b : Nat) (x : Basin) : (s.setBasin b x).inner = s.inner := rfl
@[simp] theorem inner_setChkCtx (s : State) (n c : Nat) (x : ChkCtx) : (s.setChkCtx n c x).inner = s.inner := rfl

@[simp] theorem inner_hostSend (s : State) (n : Nat) (x : HostTx) : (s.hostSend n x).inner = s.inner := by
  simp only [State.hostSend]; repeat' split
  all_goals rfl

@[simp] theorem inner_readOut (s : State) (c : Option (Nat × Nat)) : (s.readOut c).inner = s.inner := by
  cases c with
  | none => rfl
  | some e => simp only [State.readOut]; split <;> simp

@[simp] theorem inner_sendNow (s : State) (k : Nat) (f : ToSend) : (s.sendNow k f).inner = s.inner := by
  simp [State.sendNow]

@[simp] theorem inner_sendSeq (s : State) (k : Nat) (f : ToSend) : (s.sendSeq k f).inner = s.inner := by
  simp only [State.sendSeq]; split <;> simp

@[simp] theorem inner_streamEvent (s : State) (b pos : Nat) (bs : List Byte) (n : Nat) :
    (s.streamEvent b pos bs n).inner = s.inner := by
  induction n with
  | zero => rfl
  | succ n ih => simp only [State.streamEvent]; split <;> simp [ih]

@[simp] theorem inner_stream (s : State) (b pos : Nat) (bs : List Byte) (n : Nat) :
    (s.stream b pos bs n).inner = s.inner := by
  induction n generalizing s pos bs with
  | zero => rfl
  | succ n ih => simp only [State.stream]; split <;> simp [ih]

/-! ### Records and flags -/

@[simp] theorem inner_basinPut (bs : List Byte) (s : State) (b n : Nat) : (s.basinPut b n bs).inner = s.inner := by
  induction bs generalizing s n with
  | nil => rfl
  | cons x xs ih => simp only [State.basinPut, ih]; rfl

@[simp] theorem inner_appendRaw (s : State) (b : Nat) (bs : List Byte) : (s.appendRaw b bs).inner = s.inner := by
  simp [State.appendRaw]

/-- A record of an event basin is written or counted as omitted. -/
theorem inner_recordRaw (s : State) (b : Nat) (bs : List Byte) (h : b < 32) : (s.recordRaw b bs).inner = s.inner := by
  simp only [State.recordRaw]
  split
  · simp
  · exact inner_inc _ _ _ rfl (by simp only [R.BASN_RDROP]; omega)

theorem eventBasin_lt (h : Hdr) : h.eventBasin < 32 := by
  simp only [Hdr.eventBasin]; split <;> omega

@[simp] theorem inner_raiseRaw (s : State) (pg flag detail : Nat) : (s.raiseRaw pg flag detail).2.inner = s.inner := by
  simp only [State.raiseRaw]
  split
  · simp only; rw [inner_recordRaw _ _ _ (eventBasin_lt _)]; rfl
  · rfl

@[simp] theorem inner_raiseChk (fs : List (Nat × Nat)) (s : State) : (s.raiseChk fs).inner = s.inner := by
  induction fs generalizing s with
  | nil => rfl
  | cons e t ih => simp [State.raiseChk, ih]

@[simp] theorem inner_chkFeed (s : State) (n inst : Nat) (bs : List Byte) (first last : Bool) (e : Option Nat) :
    (s.chkFeed n inst bs first last e).2.inner = s.inner := by
  simp only [State.chkFeed]
  repeat' split
  all_goals first
    | rfl
    | (rw [inner_inc _ _ _ rfl (by decide)]; rfl)

@[simp] theorem inner_chkTap (s : State) (src inst : Nat) (bs : List Byte) (first last : Bool) (e : Option Nat)
    (n : Nat) : (s.chkTap src inst bs first last e n).2.inner = s.inner := by
  induction n with
  | zero => rfl
  | succ n ih => simp only [State.chkTap]; split <;> simp [ih]

@[simp] theorem inner_tap (s : State) (src inst : Nat) (bs : List Byte) (first last : Bool) (e : Option Nat) :
    (s.tap src inst bs first last e).inner = s.inner := by simp [State.tap]

/-- An event flag set now, with the record it writes, leaves `inner`. -/
@[simp] theorem inner_raiseNow (s : State) (pg flag detail : Nat) : (s.raiseNow pg flag detail).inner = s.inner := by
  have h := inner_raiseRaw s pg flag detail
  simp only [State.raiseNow]
  split <;> simp [h]

/-- An event flag of the handshake leaves `inner`. -/
@[simp] theorem inner_raise (s : State) (pg flag detail : Nat) : (s.raise pg flag detail).inner = s.inner := rfl

@[simp] theorem inner_raiseList (fs : List (Nat × Nat × Nat)) (s : State) : (s.raiseList fs).inner = s.inner := by
  induction fs generalizing s with
  | nil => rfl
  | cons e t ih => simp [State.raiseList, ih]

/-- The flags of the handshake, with their records, leave `inner`. -/
@[simp] theorem inner_raiseAll (s : State) : s.raiseAll.inner = s.inner := by
  simp only [State.raiseAll, inner_raiseList]; rfl

@[simp] theorem inner_raiseI (s : State) (pg flag : Nat) (d : Int) : (s.raiseI pg flag d).inner = s.inner := by
  simp [State.raiseI]

/-! ### What follows every command -/

@[simp] theorem inner_draw (s : State) : s.draw.2.inner = s.inner := rfl

@[simp] theorem inner_credit (s : State) (n : Nat) (bs : List Nat) : (s.credit n bs).inner = s.inner := by
  simp [State.credit]

@[simp] theorem inner_creditCheck (s : State) (n : Nat) : (s.creditCheck n).inner = s.inner := by
  simp only [State.creditCheck]; split <;> simp

@[simp] theorem inner_credits (s : State) : s.credits.inner = s.inner := by simp [State.credits]

@[simp] theorem inner_twinSendOn (s : State) (n : Nat) (f : TwinFrame) : (s.twinSendOn n f).inner = s.inner := by
  simp only [State.twinSendOn]; split <;> rfl

@[simp] theorem inner_twinSendBoth (s : State) (f : TwinFrame) : (s.twinSendBoth f).inner = s.inner := by
  simp [State.twinSendBoth]

@[simp] theorem inner_twinSend (s : State) (f : TwinFrame) : (s.twinSend f).inner = s.inner := by
  simp only [State.twinSend]; split <;> simp

@[simp] theorem inner_twinKeep (s : State) (f : TwinFrame) : (s.twinKeep f).inner = s.inner := by
  simp only [State.twinKeep, inner_twinSend]; rfl

@[simp] theorem inner_sendDelta (s : State) (d : Delta) : (s.sendDelta d).inner = s.inner := by
  simp only [State.sendDelta, inner_twinKeep]; rfl

@[simp] theorem inner_shareSessions (s old : State) (n : Nat) : (s.shareSessions old n).inner = s.inner := by
  induction n with
  | zero => rfl
  | succ n ih => simp only [State.shareSessions]; split <;> simp [ih]

@[simp] theorem inner_helloChange (s old : State) : (s.helloChange old).inner = s.inner := by
  simp only [State.helloChange]; split <;> simp

@[simp] theorem inner_loopStatus (s : State) : s.loopStatus.inner = s.inner := inner_wr _ _ _ _ rfl (by decide)

@[simp] theorem inner_holdMark (s : State) : s.holdMark.inner = s.inner := by
  simp only [State.holdMark]; repeat' split
  all_goals rfl

theorem inner_setHeld (s : State) (b : Bool) : (s.setLoop { s.loop with held := b }).inner = s.inner := rfl

@[simp] theorem inner_loopHold (s : State) : s.loopHold.inner = s.inner := by
  have h : ∀ v, (s.wr pgLOOP R.LOOP_STAT_HOLDWHY v).inner = s.inner := fun v => inner_wr _ _ _ _ rfl (by decide)
  simp only [State.loopHold]
  split
  · rfl
  · simp only [inner_loopStatus, apply_ite State.inner, inner_holdMark, inner_raise, inner_setHeld, ite_self, h]

theorem inner_setPins (s : State) (v : BitVec 16) (w : Option (Nat × BitVec 16)) :
    ({ s with pio := { s.pio with pins := v, pinsWas := w } } : State).inner = s.inner :=
  rfl

@[simp] theorem inner_settle (s : State) : s.settle.inner = s.inner := by
  simp only [State.settle, apply_ite State.inner, inner_setPins, ite_self]

@[simp] theorem inner_sluiceLow (s : State) : s.sluiceLow.inner = s.inner := rfl

@[simp] theorem inner_sluiceRule (s : State) : s.sluiceRule.inner = s.inner := by
  simp only [State.sluiceRule]; split <;> rfl

@[simp] theorem inner_measDrop (s : State) : s.measDrop.inner = s.inner := by
  simp only [State.measDrop]; split <;> rfl

/-- What follows every command leaves `inner`. -/
@[simp] theorem inner_finish (s old : State) : (s.finish old).inner = s.inner := by simp [State.finish]

theorem inner_setPending (s : State) (q : List Instr) : ({ s with pending := q } : State).inner = s.inner := rfl

/-- The next state of a command agrees with what the command itself made in all of `inner`. -/
@[simp] theorem inner_after (e s : State) : (e.after s).inner = e.inner := by
  simp only [State.after, inner_setPending, inner_finish]

/-- The queue of a next state is the one that the step left. -/
@[simp] theorem after_pending (e s : State) : (e.after s).pending = s.pending := by
  simp only [State.after]

end Sys2Proof.Machine
end

