-- ==== Sys2Proof/Laws/State.lean ====
section
/-!
SUPPORT. Laws of the updates of the state: what each leaves unchanged, field by field.
-/
namespace Sys2Proof.Machine

@[simp] theorem setWord_fields (s : State) (a : Nat) (v : Word) :
    (s.setWord a v).counter = s.counter ∧ (s.setWord a v).staged = s.staged ∧
    (s.setWord a v).waiting = s.waiting ∧ (s.setWord a v).committed = s.committed ∧
    (s.setWord a v).hdr = s.hdr ∧ (s.setWord a v).dev = s.dev ∧ (s.setWord a v).part = s.part ∧
    (s.setWord a v).svc = s.svc ∧ (s.setWord a v).priv = s.priv ∧ (s.setWord a v).sess = s.sess ∧
    (s.setWord a v).lanes = s.lanes ∧ (s.setWord a v).basins = s.basins ∧ (s.setWord a v).time = s.time ∧
    (s.setWord a v).ptp = s.ptp ∧ (s.setWord a v).twin = s.twin ∧ (s.setWord a v).avs = s.avs ∧
    (s.setWord a v).pio = s.pio ∧ (s.setWord a v).rings = s.rings ∧ (s.setWord a v).pos = s.pos ∧
    (s.setWord a v).lines = s.lines ∧ (s.setWord a v).jobs = s.jobs ∧ (s.setWord a v).cmps = s.cmps ∧
    (s.setWord a v).saves = s.saves ∧ (s.setWord a v).noz = s.noz ∧ (s.setWord a v).ntHost = s.ntHost ∧
    (s.setWord a v).ntEngine = s.ntEngine ∧ (s.setWord a v).thr = s.thr ∧ (s.setWord a v).rast = s.rast ∧
    (s.setWord a v).bars = s.bars ∧ (s.setWord a v).tiles = s.tiles ∧ (s.setWord a v).fire = s.fire ∧
    (s.setWord a v).tlnk = s.tlnk ∧ (s.setWord a v).nozHealth = s.nozHealth ∧
    (s.setWord a v).tileHealth = s.tileHealth ∧ (s.setWord a v).cam = s.cam ∧ (s.setWord a v).loop = s.loop ∧
    (s.setWord a v).weir = s.weir ∧ (s.setWord a v).dram = s.dram ∧ (s.setWord a v).chk = s.chk ∧
    (s.setWord a v).therm = s.therm ∧ (s.setWord a v).mem = s.mem ∧ (s.setWord a v).win = s.win ∧
    (s.setWord a v).early = s.early ∧ (s.setWord a v).free = s.free ∧ (s.setWord a v).raised = s.raised ∧
    (s.setWord a v).pending = s.pending := by
  simp only [State.setWord, and_self]

@[simp] theorem wr_fields (s : State) (pg : Nat) (f : Fld) (v : Nat) :
    (s.wr pg f v).counter = s.counter ∧ (s.wr pg f v).staged = s.staged ∧ (s.wr pg f v).waiting = s.waiting ∧
    (s.wr pg f v).committed = s.committed ∧ (s.wr pg f v).hdr = s.hdr ∧ (s.wr pg f v).dev = s.dev ∧
    (s.wr pg f v).part = s.part ∧ (s.wr pg f v).svc = s.svc ∧ (s.wr pg f v).priv = s.priv ∧
    (s.wr pg f v).sess = s.sess ∧ (s.wr pg f v).lanes = s.lanes ∧ (s.wr pg f v).basins = s.basins ∧
    (s.wr pg f v).time = s.time ∧ (s.wr pg f v).ptp = s.ptp ∧ (s.wr pg f v).twin = s.twin ∧
    (s.wr pg f v).avs = s.avs ∧ (s.wr pg f v).pio = s.pio ∧ (s.wr pg f v).rings = s.rings ∧
    (s.wr pg f v).pos = s.pos ∧ (s.wr pg f v).lines = s.lines ∧ (s.wr pg f v).jobs = s.jobs ∧
    (s.wr pg f v).cmps = s.cmps ∧ (s.wr pg f v).saves = s.saves ∧ (s.wr pg f v).noz = s.noz ∧
    (s.wr pg f v).ntHost = s.ntHost ∧ (s.wr pg f v).ntEngine = s.ntEngine ∧ (s.wr pg f v).thr = s.thr ∧
    (s.wr pg f v).rast = s.rast ∧ (s.wr pg f v).bars = s.bars ∧ (s.wr pg f v).tiles = s.tiles ∧
    (s.wr pg f v).fire = s.fire ∧ (s.wr pg f v).tlnk = s.tlnk ∧ (s.wr pg f v).nozHealth = s.nozHealth ∧
    (s.wr pg f v).tileHealth = s.tileHealth ∧ (s.wr pg f v).cam = s.cam ∧ (s.wr pg f v).loop = s.loop ∧
    (s.wr pg f v).weir = s.weir ∧ (s.wr pg f v).dram = s.dram ∧ (s.wr pg f v).chk = s.chk ∧
    (s.wr pg f v).therm = s.therm ∧ (s.wr pg f v).mem = s.mem ∧ (s.wr pg f v).win = s.win ∧
    (s.wr pg f v).early = s.early ∧ (s.wr pg f v).free = s.free ∧ (s.wr pg f v).raised = s.raised ∧
    (s.wr pg f v).pending = s.pending := by
  simp only [State.wr, State.setWord, and_self]

@[simp] theorem hit_fields (s : State) (a lo w k : Nat) (b : Bool) :
    (s.hit a lo w k b).counter = s.counter ∧ (s.hit a lo w k b).regs = s.regs ∧
    (s.hit a lo w k b).staged = s.staged ∧ (s.hit a lo w k b).waiting = s.waiting ∧
    (s.hit a lo w k b).committed = s.committed ∧ (s.hit a lo w k b).hdr = s.hdr ∧
    (s.hit a lo w k b).dev = s.dev ∧ (s.hit a lo w k b).part = s.part ∧ (s.hit a lo w k b).svc = s.svc ∧
    (s.hit a lo w k b).priv = s.priv ∧ (s.hit a lo w k b).sess = s.sess ∧ (s.hit a lo w k b).lanes = s.lanes ∧
    (s.hit a lo w k b).basins = s.basins ∧ (s.hit a lo w k b).time = s.time ∧ (s.hit a lo w k b).ptp = s.ptp ∧
    (s.hit a lo w k b).twin = s.twin ∧ (s.hit a lo w k b).avs = s.avs ∧ (s.hit a lo w k b).pio = s.pio ∧
    (s.hit a lo w k b).rings = s.rings ∧ (s.hit a lo w k b).pos = s.pos ∧ (s.hit a lo w k b).lines = s.lines ∧
    (s.hit a lo w k b).jobs = s.jobs ∧ (s.hit a lo w k b).cmps = s.cmps ∧ (s.hit a lo w k b).saves = s.saves ∧
    (s.hit a lo w k b).noz = s.noz ∧ (s.hit a lo w k b).ntHost = s.ntHost ∧
    (s.hit a lo w k b).ntEngine = s.ntEngine ∧ (s.hit a lo w k b).thr = s.thr ∧
    (s.hit a lo w k b).rast = s.rast ∧ (s.hit a lo w k b).bars = s.bars ∧ (s.hit a lo w k b).tiles = s.tiles ∧
    (s.hit a lo w k b).fire = s.fire ∧ (s.hit a lo w k b).tlnk = s.tlnk ∧
    (s.hit a lo w k b).nozHealth = s.nozHealth ∧ (s.hit a lo w k b).tileHealth = s.tileHealth ∧
    (s.hit a lo w k b).cam = s.cam ∧ (s.hit a lo w k b).loop = s.loop ∧ (s.hit a lo w k b).weir = s.weir ∧
    (s.hit a lo w k b).dram = s.dram ∧ (s.hit a lo w k b).chk = s.chk ∧ (s.hit a lo w k b).therm = s.therm ∧
    (s.hit a lo w k b).mem = s.mem ∧ (s.hit a lo w k b).early = s.early ∧ (s.hit a lo w k b).free = s.free ∧
    (s.hit a lo w k b).raised = s.raised ∧ (s.hit a lo w k b).pending = s.pending := by
  simp only [State.hit, and_self]

@[simp] theorem addTo_fields (s : State) (pg : Nat) (f : Fld) (k : Nat) :
    (s.addTo pg f k).counter = s.counter ∧ (s.addTo pg f k).staged = s.staged ∧
    (s.addTo pg f k).waiting = s.waiting ∧ (s.addTo pg f k).committed = s.committed ∧
    (s.addTo pg f k).hdr = s.hdr ∧ (s.addTo pg f k).dev = s.dev ∧ (s.addTo pg f k).part = s.part ∧
    (s.addTo pg f k).svc = s.svc ∧ (s.addTo pg f k).priv = s.priv ∧ (s.addTo pg f k).sess = s.sess ∧
    (s.addTo pg f k).lanes = s.lanes ∧ (s.addTo pg f k).basins = s.basins ∧ (s.addTo pg f k).time = s.time ∧
    (s.addTo pg f k).ptp = s.ptp ∧ (s.addTo pg f k).twin = s.twin ∧ (s.addTo pg f k).avs = s.avs ∧
    (s.addTo pg f k).pio = s.pio ∧ (s.addTo pg f k).rings = s.rings ∧ (s.addTo pg f k).pos = s.pos ∧
    (s.addTo pg f k).lines = s.lines ∧ (s.addTo pg f k).jobs = s.jobs ∧ (s.addTo pg f k).cmps = s.cmps ∧
    (s.addTo pg f k).saves = s.saves ∧ (s.addTo pg f k).noz = s.noz ∧ (s.addTo pg f k).ntHost = s.ntHost ∧
    (s.addTo pg f k).ntEngine = s.ntEngine ∧ (s.addTo pg f k).thr = s.thr ∧ (s.addTo pg f k).rast = s.rast ∧
    (s.addTo pg f k).bars = s.bars ∧ (s.addTo pg f k).tiles = s.tiles ∧ (s.addTo pg f k).fire = s.fire ∧
    (s.addTo pg f k).tlnk = s.tlnk ∧ (s.addTo pg f k).nozHealth = s.nozHealth ∧
    (s.addTo pg f k).tileHealth = s.tileHealth ∧ (s.addTo pg f k).cam = s.cam ∧ (s.addTo pg f k).loop = s.loop ∧
    (s.addTo pg f k).weir = s.weir ∧ (s.addTo pg f k).dram = s.dram ∧ (s.addTo pg f k).chk = s.chk ∧
    (s.addTo pg f k).therm = s.therm ∧ (s.addTo pg f k).mem = s.mem ∧ (s.addTo pg f k).early = s.early ∧
    (s.addTo pg f k).free = s.free ∧ (s.addTo pg f k).raised = s.raised ∧ (s.addTo pg f k).pending = s.pending := by
  simp only [State.addTo, State.wr, State.setWord, State.hit, and_self]

@[simp] theorem inc_fields (s : State) (pg : Nat) (f : Fld) :
    (s.inc pg f).counter = s.counter ∧ (s.inc pg f).staged = s.staged ∧ (s.inc pg f).waiting = s.waiting ∧
    (s.inc pg f).committed = s.committed ∧ (s.inc pg f).hdr = s.hdr ∧ (s.inc pg f).dev = s.dev ∧
    (s.inc pg f).part = s.part ∧ (s.inc pg f).svc = s.svc ∧ (s.inc pg f).priv = s.priv ∧
    (s.inc pg f).sess = s.sess ∧ (s.inc pg f).lanes = s.lanes ∧ (s.inc pg f).basins = s.basins ∧
    (s.inc pg f).time = s.time ∧ (s.inc pg f).ptp = s.ptp ∧ (s.inc pg f).twin = s.twin ∧
    (s.inc pg f).avs = s.avs ∧ (s.inc pg f).pio = s.pio ∧ (s.inc pg f).rings = s.rings ∧
    (s.inc pg f).pos = s.pos ∧ (s.inc pg f).lines = s.lines ∧ (s.inc pg f).jobs = s.jobs ∧
    (s.inc pg f).cmps = s.cmps ∧ (s.inc pg f).saves = s.saves ∧ (s.inc pg f).noz = s.noz ∧
    (s.inc pg f).ntHost = s.ntHost ∧ (s.inc pg f).ntEngine = s.ntEngine ∧ (s.inc pg f).thr = s.thr ∧
    (s.inc pg f).rast = s.rast ∧ (s.inc pg f).bars = s.bars ∧ (s.inc pg f).tiles = s.tiles ∧
    (s.inc pg f).fire = s.fire ∧ (s.inc pg f).tlnk = s.tlnk ∧ (s.inc pg f).nozHealth = s.nozHealth ∧
    (s.inc pg f).tileHealth = s.tileHealth ∧ (s.inc pg f).cam = s.cam ∧ (s.inc pg f).loop = s.loop ∧
    (s.inc pg f).weir = s.weir ∧ (s.inc pg f).dram = s.dram ∧ (s.inc pg f).chk = s.chk ∧
    (s.inc pg f).therm = s.therm ∧ (s.inc pg f).mem = s.mem ∧ (s.inc pg f).early = s.early ∧
    (s.inc pg f).free = s.free ∧ (s.inc pg f).raised = s.raised ∧ (s.inc pg f).pending = s.pending := by
  simp only [State.inc, State.addTo, State.wr, State.setWord, State.hit, and_self]

@[simp] theorem incWrap_fields (s : State) (pg : Nat) (f : Fld) :
    (s.incWrap pg f).counter = s.counter ∧ (s.incWrap pg f).staged = s.staged ∧
    (s.incWrap pg f).waiting = s.waiting ∧ (s.incWrap pg f).committed = s.committed ∧
    (s.incWrap pg f).hdr = s.hdr ∧ (s.incWrap pg f).dev = s.dev ∧ (s.incWrap pg f).part = s.part ∧
    (s.incWrap pg f).svc = s.svc ∧ (s.incWrap pg f).priv = s.priv ∧ (s.incWrap pg f).sess = s.sess ∧
    (s.incWrap pg f).lanes = s.lanes ∧ (s.incWrap pg f).basins = s.basins ∧ (s.incWrap pg f).time = s.time ∧
    (s.incWrap pg f).ptp = s.ptp ∧ (s.incWrap pg f).twin = s.twin ∧ (s.incWrap pg f).avs = s.avs ∧
    (s.incWrap pg f).pio = s.pio ∧ (s.incWrap pg f).rings = s.rings ∧ (s.incWrap pg f).pos = s.pos ∧
    (s.incWrap pg f).lines = s.lines ∧ (s.incWrap pg f).jobs = s.jobs ∧ (s.incWrap pg f).cmps = s.cmps ∧
    (s.incWrap pg f).saves = s.saves ∧ (s.incWrap pg f).noz = s.noz ∧ (s.incWrap pg f).ntHost = s.ntHost ∧
    (s.incWrap pg f).ntEngine = s.ntEngine ∧ (s.incWrap pg f).thr = s.thr ∧ (s.incWrap pg f).rast = s.rast ∧
    (s.incWrap pg f).bars = s.bars ∧ (s.incWrap pg f).tiles = s.tiles ∧ (s.incWrap pg f).fire = s.fire ∧
    (s.incWrap pg f).tlnk = s.tlnk ∧ (s.incWrap pg f).nozHealth = s.nozHealth ∧
    (s.incWrap pg f).tileHealth = s.tileHealth ∧ (s.incWrap pg f).cam = s.cam ∧ (s.incWrap pg f).loop = s.loop ∧
    (s.incWrap pg f).weir = s.weir ∧ (s.incWrap pg f).dram = s.dram ∧ (s.incWrap pg f).chk = s.chk ∧
    (s.incWrap pg f).therm = s.therm ∧ (s.incWrap pg f).mem = s.mem ∧ (s.incWrap pg f).early = s.early ∧
    (s.incWrap pg f).free = s.free ∧ (s.incWrap pg f).raised = s.raised ∧ (s.incWrap pg f).pending = s.pending := by
  simp only [State.incWrap, State.wr, State.setWord, State.hit, and_self]

@[simp] theorem raise_fields (s : State) (pg f d : Nat) :
    (s.raise pg f d).counter = s.counter ∧ (s.raise pg f d).regs = s.regs ∧ (s.raise pg f d).staged = s.staged ∧
    (s.raise pg f d).waiting = s.waiting ∧ (s.raise pg f d).committed = s.committed ∧
    (s.raise pg f d).hdr = s.hdr ∧ (s.raise pg f d).dev = s.dev ∧ (s.raise pg f d).part = s.part ∧
    (s.raise pg f d).svc = s.svc ∧ (s.raise pg f d).priv = s.priv ∧ (s.raise pg f d).sess = s.sess ∧
    (s.raise pg f d).lanes = s.lanes ∧ (s.raise pg f d).basins = s.basins ∧ (s.raise pg f d).time = s.time ∧
    (s.raise pg f d).ptp = s.ptp ∧ (s.raise pg f d).twin = s.twin ∧ (s.raise pg f d).avs = s.avs ∧
    (s.raise pg f d).pio = s.pio ∧ (s.raise pg f d).rings = s.rings ∧ (s.raise pg f d).pos = s.pos ∧
    (s.raise pg f d).lines = s.lines ∧ (s.raise pg f d).jobs = s.jobs ∧ (s.raise pg f d).cmps = s.cmps ∧
    (s.raise pg f d).saves = s.saves ∧ (s.raise pg f d).noz = s.noz ∧ (s.raise pg f d).ntHost = s.ntHost ∧
    (s.raise pg f d).ntEngine = s.ntEngine ∧ (s.raise pg f d).thr = s.thr ∧ (s.raise pg f d).rast = s.rast ∧
    (s.raise pg f d).bars = s.bars ∧ (s.raise pg f d).tiles = s.tiles ∧ (s.raise pg f d).fire = s.fire ∧
    (s.raise pg f d).tlnk = s.tlnk ∧ (s.raise pg f d).nozHealth = s.nozHealth ∧
    (s.raise pg f d).tileHealth = s.tileHealth ∧ (s.raise pg f d).cam = s.cam ∧ (s.raise pg f d).loop = s.loop ∧
    (s.raise pg f d).weir = s.weir ∧ (s.raise pg f d).dram = s.dram ∧ (s.raise pg f d).chk = s.chk ∧
    (s.raise pg f d).therm = s.therm ∧ (s.raise pg f d).mem = s.mem ∧ (s.raise pg f d).win = s.win ∧
    (s.raise pg f d).early = s.early ∧ (s.raise pg f d).free = s.free ∧ (s.raise pg f d).pending = s.pending := by
  simp only [State.raise, and_self]

@[simp] theorem setHead_fields (s : State) (pg : Nat) (h : Hdr) :
    (s.setHead pg h).counter = s.counter ∧ (s.setHead pg h).regs = s.regs ∧ (s.setHead pg h).staged = s.staged ∧
    (s.setHead pg h).waiting = s.waiting ∧ (s.setHead pg h).committed = s.committed ∧
    (s.setHead pg h).dev = s.dev ∧ (s.setHead pg h).part = s.part ∧ (s.setHead pg h).svc = s.svc ∧
    (s.setHead pg h).priv = s.priv ∧ (s.setHead pg h).sess = s.sess ∧ (s.setHead pg h).lanes = s.lanes ∧
    (s.setHead pg h).basins = s.basins ∧ (s.setHead pg h).time = s.time ∧ (s.setHead pg h).ptp = s.ptp ∧
    (s.setHead pg h).twin = s.twin ∧ (s.setHead pg h).avs = s.avs ∧ (s.setHead pg h).pio = s.pio ∧
    (s.setHead pg h).rings = s.rings ∧ (s.setHead pg h).pos = s.pos ∧ (s.setHead pg h).lines = s.lines ∧
    (s.setHead pg h).jobs = s.jobs ∧ (s.setHead pg h).cmps = s.cmps ∧ (s.setHead pg h).saves = s.saves ∧
    (s.setHead pg h).noz = s.noz ∧ (s.setHead pg h).ntHost = s.ntHost ∧ (s.setHead pg h).ntEngine = s.ntEngine ∧
    (s.setHead pg h).thr = s.thr ∧ (s.setHead pg h).rast = s.rast ∧ (s.setHead pg h).bars = s.bars ∧
    (s.setHead pg h).tiles = s.tiles ∧ (s.setHead pg h).fire = s.fire ∧ (s.setHead pg h).tlnk = s.tlnk ∧
    (s.setHead pg h).nozHealth = s.nozHealth ∧ (s.setHead pg h).tileHealth = s.tileHealth ∧
    (s.setHead pg h).cam = s.cam ∧ (s.setHead pg h).loop = s.loop ∧ (s.setHead pg h).weir = s.weir ∧
    (s.setHead pg h).dram = s.dram ∧ (s.setHead pg h).chk = s.chk ∧ (s.setHead pg h).therm = s.therm ∧
    (s.setHead pg h).mem = s.mem ∧ (s.setHead pg h).win = s.win ∧ (s.setHead pg h).early = s.early ∧
    (s.setHead pg h).free = s.free ∧ (s.setHead pg h).raised = s.raised ∧ (s.setHead pg h).pending = s.pending := by
  simp only [State.setHead, and_self]

@[simp] theorem setLane_fields (s : State) (n : Nat) (x : HostLane) :
    (s.setLane n x).counter = s.counter ∧ (s.setLane n x).regs = s.regs ∧ (s.setLane n x).staged = s.staged ∧
    (s.setLane n x).waiting = s.waiting ∧ (s.setLane n x).committed = s.committed ∧
    (s.setLane n x).hdr = s.hdr ∧ (s.setLane n x).dev = s.dev ∧ (s.setLane n x).part = s.part ∧
    (s.setLane n x).svc = s.svc ∧ (s.setLane n x).priv = s.priv ∧ (s.setLane n x).sess = s.sess ∧
    (s.setLane n x).basins = s.basins ∧ (s.setLane n x).time = s.time ∧ (s.setLane n x).ptp = s.ptp ∧
    (s.setLane n x).twin = s.twin ∧ (s.setLane n x).avs = s.avs ∧ (s.setLane n x).pio = s.pio ∧
    (s.setLane n x).rings = s.rings ∧ (s.setLane n x).pos = s.pos ∧ (s.setLane n x).lines = s.lines ∧
    (s.setLane n x).jobs = s.jobs ∧ (s.setLane n x).cmps = s.cmps ∧ (s.setLane n x).saves = s.saves ∧
    (s.setLane n x).noz = s.noz ∧ (s.setLane n x).ntHost = s.ntHost ∧ (s.setLane n x).ntEngine = s.ntEngine ∧
    (s.setLane n x).thr = s.thr ∧ (s.setLane n x).rast = s.rast ∧ (s.setLane n x).bars = s.bars ∧
    (s.setLane n x).tiles = s.tiles ∧ (s.setLane n x).fire = s.fire ∧ (s.setLane n x).tlnk = s.tlnk ∧
    (s.setLane n x).nozHealth = s.nozHealth ∧ (s.setLane n x).tileHealth = s.tileHealth ∧
    (s.setLane n x).cam = s.cam ∧ (s.setLane n x).loop = s.loop ∧ (s.setLane n x).weir = s.weir ∧
    (s.setLane n x).dram = s.dram ∧ (s.setLane n x).chk = s.chk ∧ (s.setLane n x).therm = s.therm ∧
    (s.setLane n x).mem = s.mem ∧ (s.setLane n x).win = s.win ∧ (s.setLane n x).early = s.early ∧
    (s.setLane n x).free = s.free ∧ (s.setLane n x).raised = s.raised ∧ (s.setLane n x).pending = s.pending := by
  simp only [State.setLane, and_self]

@[simp] theorem setSession_fields (s : State) (k : Nat) (x : Session) :
    (s.setSession k x).counter = s.counter ∧ (s.setSession k x).regs = s.regs ∧
    (s.setSession k x).staged = s.staged ∧ (s.setSession k x).waiting = s.waiting ∧
    (s.setSession k x).committed = s.committed ∧ (s.setSession k x).hdr = s.hdr ∧
    (s.setSession k x).dev = s.dev ∧ (s.setSession k x).part = s.part ∧ (s.setSession k x).svc = s.svc ∧
    (s.setSession k x).priv = s.priv ∧ (s.setSession k x).lanes = s.lanes ∧
    (s.setSession k x).basins = s.basins ∧ (s.setSession k x).time = s.time ∧ (s.setSession k x).ptp = s.ptp ∧
    (s.setSession k x).twin = s.twin ∧ (s.setSession k x).avs = s.avs ∧ (s.setSession k x).pio = s.pio ∧
    (s.setSession k x).rings = s.rings ∧ (s.setSession k x).pos = s.pos ∧ (s.setSession k x).lines = s.lines ∧
    (s.setSession k x).jobs = s.jobs ∧ (s.setSession k x).cmps = s.cmps ∧ (s.setSession k x).saves = s.saves ∧
    (s.setSession k x).noz = s.noz ∧ (s.setSession k x).ntHost = s.ntHost ∧
    (s.setSession k x).ntEngine = s.ntEngine ∧ (s.setSession k x).thr = s.thr ∧
    (s.setSession k x).rast = s.rast ∧ (s.setSession k x).bars = s.bars ∧ (s.setSession k x).tiles = s.tiles ∧
    (s.setSession k x).fire = s.fire ∧ (s.setSession k x).tlnk = s.tlnk ∧
    (s.setSession k x).nozHealth = s.nozHealth ∧ (s.setSession k x).tileHealth = s.tileHealth ∧
    (s.setSession k x).cam = s.cam ∧ (s.setSession k x).loop = s.loop ∧ (s.setSession k x).weir = s.weir ∧
    (s.setSession k x).dram = s.dram ∧ (s.setSession k x).chk = s.chk ∧ (s.setSession k x).therm = s.therm ∧
    (s.setSession k x).mem = s.mem ∧ (s.setSession k x).win = s.win ∧ (s.setSession k x).early = s.early ∧
    (s.setSession k x).free = s.free ∧ (s.setSession k x).raised = s.raised ∧
    (s.setSession k x).pending = s.pending := by
  simp only [State.setSession, and_self]

@[simp] theorem setBasin_fields (s : State) (b : Nat) (x : Basin) :
    (s.setBasin b x).counter = s.counter ∧ (s.setBasin b x).regs = s.regs ∧ (s.setBasin b x).staged = s.staged ∧
    (s.setBasin b x).waiting = s.waiting ∧ (s.setBasin b x).committed = s.committed ∧
    (s.setBasin b x).hdr = s.hdr ∧ (s.setBasin b x).dev = s.dev ∧ (s.setBasin b x).part = s.part ∧
    (s.setBasin b x).svc = s.svc ∧ (s.setBasin b x).priv = s.priv ∧ (s.setBasin b x).sess = s.sess ∧
    (s.setBasin b x).lanes = s.lanes ∧ (s.setBasin b x).time = s.time ∧ (s.setBasin b x).ptp = s.ptp ∧
    (s.setBasin b x).twin = s.twin ∧ (s.setBasin b x).avs = s.avs ∧ (s.setBasin b x).pio = s.pio ∧
    (s.setBasin b x).rings = s.rings ∧ (s.setBasin b x).pos = s.pos ∧ (s.setBasin b x).lines = s.lines ∧
    (s.setBasin b x).jobs = s.jobs ∧ (s.setBasin b x).cmps = s.cmps ∧ (s.setBasin b x).saves = s.saves ∧
    (s.setBasin b x).noz = s.noz ∧ (s.setBasin b x).ntHost = s.ntHost ∧ (s.setBasin b x).ntEngine = s.ntEngine ∧
    (s.setBasin b x).thr = s.thr ∧ (s.setBasin b x).rast = s.rast ∧ (s.setBasin b x).bars = s.bars ∧
    (s.setBasin b x).tiles = s.tiles ∧ (s.setBasin b x).fire = s.fire ∧ (s.setBasin b x).tlnk = s.tlnk ∧
    (s.setBasin b x).nozHealth = s.nozHealth ∧ (s.setBasin b x).tileHealth = s.tileHealth ∧
    (s.setBasin b x).cam = s.cam ∧ (s.setBasin b x).loop = s.loop ∧ (s.setBasin b x).weir = s.weir ∧
    (s.setBasin b x).dram = s.dram ∧ (s.setBasin b x).chk = s.chk ∧ (s.setBasin b x).therm = s.therm ∧
    (s.setBasin b x).mem = s.mem ∧ (s.setBasin b x).win = s.win ∧ (s.setBasin b x).early = s.early ∧
    (s.setBasin b x).free = s.free ∧ (s.setBasin b x).raised = s.raised ∧ (s.setBasin b x).pending = s.pending := by
  simp only [State.setBasin, and_self]

@[simp] theorem setRing_fields (s : State) (r : SpillRing) (x : Ring) :
    (s.setRing r x).counter = s.counter ∧ (s.setRing r x).regs = s.regs ∧ (s.setRing r x).staged = s.staged ∧
    (s.setRing r x).waiting = s.waiting ∧ (s.setRing r x).committed = s.committed ∧
    (s.setRing r x).hdr = s.hdr ∧ (s.setRing r x).dev = s.dev ∧ (s.setRing r x).part = s.part ∧
    (s.setRing r x).svc = s.svc ∧ (s.setRing r x).priv = s.priv ∧ (s.setRing r x).sess = s.sess ∧
    (s.setRing r x).lanes = s.lanes ∧ (s.setRing r x).basins = s.basins ∧ (s.setRing r x).time = s.time ∧
    (s.setRing r x).ptp = s.ptp ∧ (s.setRing r x).twin = s.twin ∧ (s.setRing r x).avs = s.avs ∧
    (s.setRing r x).pio = s.pio ∧ (s.setRing r x).pos = s.pos ∧ (s.setRing r x).lines = s.lines ∧
    (s.setRing r x).jobs = s.jobs ∧ (s.setRing r x).cmps = s.cmps ∧ (s.setRing r x).saves = s.saves ∧
    (s.setRing r x).noz = s.noz ∧ (s.setRing r x).ntHost = s.ntHost ∧ (s.setRing r x).ntEngine = s.ntEngine ∧
    (s.setRing r x).thr = s.thr ∧ (s.setRing r x).rast = s.rast ∧ (s.setRing r x).bars = s.bars ∧
    (s.setRing r x).tiles = s.tiles ∧ (s.setRing r x).fire = s.fire ∧ (s.setRing r x).tlnk = s.tlnk ∧
    (s.setRing r x).nozHealth = s.nozHealth ∧ (s.setRing r x).tileHealth = s.tileHealth ∧
    (s.setRing r x).cam = s.cam ∧ (s.setRing r x).loop = s.loop ∧ (s.setRing r x).weir = s.weir ∧
    (s.setRing r x).dram = s.dram ∧ (s.setRing r x).chk = s.chk ∧ (s.setRing r x).therm = s.therm ∧
    (s.setRing r x).mem = s.mem ∧ (s.setRing r x).win = s.win ∧ (s.setRing r x).early = s.early ∧
    (s.setRing r x).free = s.free ∧ (s.setRing r x).raised = s.raised ∧ (s.setRing r x).pending = s.pending := by
  simp only [State.setRing, and_self]

@[simp] theorem setTime_fields (s : State) (x : TimeS) :
    (s.setTime x).counter = s.counter ∧ (s.setTime x).regs = s.regs ∧ (s.setTime x).staged = s.staged ∧
    (s.setTime x).waiting = s.waiting ∧ (s.setTime x).committed = s.committed ∧ (s.setTime x).hdr = s.hdr ∧
    (s.setTime x).dev = s.dev ∧ (s.setTime x).part = s.part ∧ (s.setTime x).svc = s.svc ∧
    (s.setTime x).priv = s.priv ∧ (s.setTime x).sess = s.sess ∧ (s.setTime x).lanes = s.lanes ∧
    (s.setTime x).basins = s.basins ∧ (s.setTime x).ptp = s.ptp ∧ (s.setTime x).twin = s.twin ∧
    (s.setTime x).avs = s.avs ∧ (s.setTime x).pio = s.pio ∧ (s.setTime x).rings = s.rings ∧
    (s.setTime x).pos = s.pos ∧ (s.setTime x).lines = s.lines ∧ (s.setTime x).jobs = s.jobs ∧
    (s.setTime x).cmps = s.cmps ∧ (s.setTime x).saves = s.saves ∧ (s.setTime x).noz = s.noz ∧
    (s.setTime x).ntHost = s.ntHost ∧ (s.setTime x).ntEngine = s.ntEngine ∧ (s.setTime x).thr = s.thr ∧
    (s.setTime x).rast = s.rast ∧ (s.setTime x).bars = s.bars ∧ (s.setTime x).tiles = s.tiles ∧
    (s.setTime x).fire = s.fire ∧ (s.setTime x).tlnk = s.tlnk ∧ (s.setTime x).nozHealth = s.nozHealth ∧
    (s.setTime x).tileHealth = s.tileHealth ∧ (s.setTime x).cam = s.cam ∧ (s.setTime x).loop = s.loop ∧
    (s.setTime x).weir = s.weir ∧ (s.setTime x).dram = s.dram ∧ (s.setTime x).chk = s.chk ∧
    (s.setTime x).therm = s.therm ∧ (s.setTime x).mem = s.mem ∧ (s.setTime x).win = s.win ∧
    (s.setTime x).early = s.early ∧ (s.setTime x).free = s.free ∧ (s.setTime x).raised = s.raised ∧
    (s.setTime x).pending = s.pending := by
  simp only [State.setTime, and_self]

@[simp] theorem setPtp_fields (s : State) (x : PtpS) :
    (s.setPtp x).counter = s.counter ∧ (s.setPtp x).regs = s.regs ∧ (s.setPtp x).staged = s.staged ∧
    (s.setPtp x).waiting = s.waiting ∧ (s.setPtp x).committed = s.committed ∧ (s.setPtp x).hdr = s.hdr ∧
    (s.setPtp x).dev = s.dev ∧ (s.setPtp x).part = s.part ∧ (s.setPtp x).svc = s.svc ∧
    (s.setPtp x).priv = s.priv ∧ (s.setPtp x).sess = s.sess ∧ (s.setPtp x).lanes = s.lanes ∧
    (s.setPtp x).basins = s.basins ∧ (s.setPtp x).time = s.time ∧ (s.setPtp x).twin = s.twin ∧
    (s.setPtp x).avs = s.avs ∧ (s.setPtp x).pio = s.pio ∧ (s.setPtp x).rings = s.rings ∧
    (s.setPtp x).pos = s.pos ∧ (s.setPtp x).lines = s.lines ∧ (s.setPtp x).jobs = s.jobs ∧
    (s.setPtp x).cmps = s.cmps ∧ (s.setPtp x).saves = s.saves ∧ (s.setPtp x).noz = s.noz ∧
    (s.setPtp x).ntHost = s.ntHost ∧ (s.setPtp x).ntEngine = s.ntEngine ∧ (s.setPtp x).thr = s.thr ∧
    (s.setPtp x).rast = s.rast ∧ (s.setPtp x).bars = s.bars ∧ (s.setPtp x).tiles = s.tiles ∧
    (s.setPtp x).fire = s.fire ∧ (s.setPtp x).tlnk = s.tlnk ∧ (s.setPtp x).nozHealth = s.nozHealth ∧
    (s.setPtp x).tileHealth = s.tileHealth ∧ (s.setPtp x).cam = s.cam ∧ (s.setPtp x).loop = s.loop ∧
    (s.setPtp x).weir = s.weir ∧ (s.setPtp x).dram = s.dram ∧ (s.setPtp x).chk = s.chk ∧
    (s.setPtp x).therm = s.therm ∧ (s.setPtp x).mem = s.mem ∧ (s.setPtp x).win = s.win ∧
    (s.setPtp x).early = s.early ∧ (s.setPtp x).free = s.free ∧ (s.setPtp x).raised = s.raised ∧
    (s.setPtp x).pending = s.pending := by
  simp only [State.setPtp, and_self]

@[simp] theorem setTwin_fields (s : State) (x : TwinS) :
    (s.setTwin x).counter = s.counter ∧ (s.setTwin x).regs = s.regs ∧ (s.setTwin x).staged = s.staged ∧
    (s.setTwin x).waiting = s.waiting ∧ (s.setTwin x).committed = s.committed ∧ (s.setTwin x).hdr = s.hdr ∧
    (s.setTwin x).dev = s.dev ∧ (s.setTwin x).part = s.part ∧ (s.setTwin x).svc = s.svc ∧
    (s.setTwin x).priv = s.priv ∧ (s.setTwin x).sess = s.sess ∧ (s.setTwin x).lanes = s.lanes ∧
    (s.setTwin x).basins = s.basins ∧ (s.setTwin x).time = s.time ∧ (s.setTwin x).ptp = s.ptp ∧
    (s.setTwin x).avs = s.avs ∧ (s.setTwin x).pio = s.pio ∧ (s.setTwin x).rings = s.rings ∧
    (s.setTwin x).pos = s.pos ∧ (s.setTwin x).lines = s.lines ∧ (s.setTwin x).jobs = s.jobs ∧
    (s.setTwin x).cmps = s.cmps ∧ (s.setTwin x).saves = s.saves ∧ (s.setTwin x).noz = s.noz ∧
    (s.setTwin x).ntHost = s.ntHost ∧ (s.setTwin x).ntEngine = s.ntEngine ∧ (s.setTwin x).thr = s.thr ∧
    (s.setTwin x).rast = s.rast ∧ (s.setTwin x).bars = s.bars ∧ (s.setTwin x).tiles = s.tiles ∧
    (s.setTwin x).fire = s.fire ∧ (s.setTwin x).tlnk = s.tlnk ∧ (s.setTwin x).nozHealth = s.nozHealth ∧
    (s.setTwin x).tileHealth = s.tileHealth ∧ (s.setTwin x).cam = s.cam ∧ (s.setTwin x).loop = s.loop ∧
    (s.setTwin x).weir = s.weir ∧ (s.setTwin x).dram = s.dram ∧ (s.setTwin x).chk = s.chk ∧
    (s.setTwin x).therm = s.therm ∧ (s.setTwin x).mem = s.mem ∧ (s.setTwin x).win = s.win ∧
    (s.setTwin x).early = s.early ∧ (s.setTwin x).free = s.free ∧ (s.setTwin x).raised = s.raised ∧
    (s.setTwin x).pending = s.pending := by
  simp only [State.setTwin, and_self]

@[simp] theorem setPos_fields (s : State) (x : PosS) :
    (s.setPos x).counter = s.counter ∧ (s.setPos x).regs = s.regs ∧ (s.setPos x).staged = s.staged ∧
    (s.setPos x).waiting = s.waiting ∧ (s.setPos x).committed = s.committed ∧ (s.setPos x).hdr = s.hdr ∧
    (s.setPos x).dev = s.dev ∧ (s.setPos x).part = s.part ∧ (s.setPos x).svc = s.svc ∧
    (s.setPos x).priv = s.priv ∧ (s.setPos x).sess = s.sess ∧ (s.setPos x).lanes = s.lanes ∧
    (s.setPos x).basins = s.basins ∧ (s.setPos x).time = s.time ∧ (s.setPos x).ptp = s.ptp ∧
    (s.setPos x).twin = s.twin ∧ (s.setPos x).avs = s.avs ∧ (s.setPos x).pio = s.pio ∧
    (s.setPos x).rings = s.rings ∧ (s.setPos x).lines = s.lines ∧ (s.setPos x).jobs = s.jobs ∧
    (s.setPos x).cmps = s.cmps ∧ (s.setPos x).saves = s.saves ∧ (s.setPos x).noz = s.noz ∧
    (s.setPos x).ntHost = s.ntHost ∧ (s.setPos x).ntEngine = s.ntEngine ∧ (s.setPos x).thr = s.thr ∧
    (s.setPos x).rast = s.rast ∧ (s.setPos x).bars = s.bars ∧ (s.setPos x).tiles = s.tiles ∧
    (s.setPos x).fire = s.fire ∧ (s.setPos x).tlnk = s.tlnk ∧ (s.setPos x).nozHealth = s.nozHealth ∧
    (s.setPos x).tileHealth = s.tileHealth ∧ (s.setPos x).cam = s.cam ∧ (s.setPos x).loop = s.loop ∧
    (s.setPos x).weir = s.weir ∧ (s.setPos x).dram = s.dram ∧ (s.setPos x).chk = s.chk ∧
    (s.setPos x).therm = s.therm ∧ (s.setPos x).mem = s.mem ∧ (s.setPos x).win = s.win ∧
    (s.setPos x).early = s.early ∧ (s.setPos x).free = s.free ∧ (s.setPos x).raised = s.raised ∧
    (s.setPos x).pending = s.pending := by
  simp only [State.setPos, and_self]

@[simp] theorem setJobs_fields (s : State) (x : JobsS) :
    (s.setJobs x).counter = s.counter ∧ (s.setJobs x).regs = s.regs ∧ (s.setJobs x).staged = s.staged ∧
    (s.setJobs x).waiting = s.waiting ∧ (s.setJobs x).committed = s.committed ∧ (s.setJobs x).hdr = s.hdr ∧
    (s.setJobs x).dev = s.dev ∧ (s.setJobs x).part = s.part ∧ (s.setJobs x).svc = s.svc ∧
    (s.setJobs x).priv = s.priv ∧ (s.setJobs x).sess = s.sess ∧ (s.setJobs x).lanes = s.lanes ∧
    (s.setJobs x).basins = s.basins ∧ (s.setJobs x).time = s.time ∧ (s.setJobs x).ptp = s.ptp ∧
    (s.setJobs x).twin = s.twin ∧ (s.setJobs x).avs = s.avs ∧ (s.setJobs x).pio = s.pio ∧
    (s.setJobs x).rings = s.rings ∧ (s.setJobs x).pos = s.pos ∧ (s.setJobs x).lines = s.lines ∧
    (s.setJobs x).cmps = s.cmps ∧ (s.setJobs x).saves = s.saves ∧ (s.setJobs x).noz = s.noz ∧
    (s.setJobs x).ntHost = s.ntHost ∧ (s.setJobs x).ntEngine = s.ntEngine ∧ (s.setJobs x).thr = s.thr ∧
    (s.setJobs x).rast = s.rast ∧ (s.setJobs x).bars = s.bars ∧ (s.setJobs x).tiles = s.tiles ∧
    (s.setJobs x).fire = s.fire ∧ (s.setJobs x).tlnk = s.tlnk ∧ (s.setJobs x).nozHealth = s.nozHealth ∧
    (s.setJobs x).tileHealth = s.tileHealth ∧ (s.setJobs x).cam = s.cam ∧ (s.setJobs x).loop = s.loop ∧
    (s.setJobs x).weir = s.weir ∧ (s.setJobs x).dram = s.dram ∧ (s.setJobs x).chk = s.chk ∧
    (s.setJobs x).therm = s.therm ∧ (s.setJobs x).mem = s.mem ∧ (s.setJobs x).win = s.win ∧
    (s.setJobs x).early = s.early ∧ (s.setJobs x).free = s.free ∧ (s.setJobs x).raised = s.raised ∧
    (s.setJobs x).pending = s.pending := by
  simp only [State.setJobs, and_self]

@[simp] theorem setCmp_fields (s : State) (n : Nat) (x : Cmp) :
    (s.setCmp n x).counter = s.counter ∧ (s.setCmp n x).regs = s.regs ∧ (s.setCmp n x).staged = s.staged ∧
    (s.setCmp n x).waiting = s.waiting ∧ (s.setCmp n x).committed = s.committed ∧ (s.setCmp n x).hdr = s.hdr ∧
    (s.setCmp n x).dev = s.dev ∧ (s.setCmp n x).part = s.part ∧ (s.setCmp n x).svc = s.svc ∧
    (s.setCmp n x).priv = s.priv ∧ (s.setCmp n x).sess = s.sess ∧ (s.setCmp n x).lanes = s.lanes ∧
    (s.setCmp n x).basins = s.basins ∧ (s.setCmp n x).time = s.time ∧ (s.setCmp n x).ptp = s.ptp ∧
    (s.setCmp n x).twin = s.twin ∧ (s.setCmp n x).avs = s.avs ∧ (s.setCmp n x).pio = s.pio ∧
    (s.setCmp n x).rings = s.rings ∧ (s.setCmp n x).pos = s.pos ∧ (s.setCmp n x).lines = s.lines ∧
    (s.setCmp n x).jobs = s.jobs ∧ (s.setCmp n x).saves = s.saves ∧ (s.setCmp n x).noz = s.noz ∧
    (s.setCmp n x).ntHost = s.ntHost ∧ (s.setCmp n x).ntEngine = s.ntEngine ∧ (s.setCmp n x).thr = s.thr ∧
    (s.setCmp n x).rast = s.rast ∧ (s.setCmp n x).bars = s.bars ∧ (s.setCmp n x).tiles = s.tiles ∧
    (s.setCmp n x).fire = s.fire ∧ (s.setCmp n x).tlnk = s.tlnk ∧ (s.setCmp n x).nozHealth = s.nozHealth ∧
    (s.setCmp n x).tileHealth = s.tileHealth ∧ (s.setCmp n x).cam = s.cam ∧ (s.setCmp n x).loop = s.loop ∧
    (s.setCmp n x).weir = s.weir ∧ (s.setCmp n x).dram = s.dram ∧ (s.setCmp n x).chk = s.chk ∧
    (s.setCmp n x).therm = s.therm ∧ (s.setCmp n x).mem = s.mem ∧ (s.setCmp n x).win = s.win ∧
    (s.setCmp n x).early = s.early ∧ (s.setCmp n x).free = s.free ∧ (s.setCmp n x).raised = s.raised ∧
    (s.setCmp n x).pending = s.pending := by
  simp only [State.setCmp, and_self]

@[simp] theorem setNozzle_fields (s : State) (b i v : Nat) :
    (s.setNozzle b i v).counter = s.counter ∧ (s.setNozzle b i v).regs = s.regs ∧
    (s.setNozzle b i v).staged = s.staged ∧ (s.setNozzle b i v).waiting = s.waiting ∧
    (s.setNozzle b i v).committed = s.committed ∧ (s.setNozzle b i v).hdr = s.hdr ∧
    (s.setNozzle b i v).dev = s.dev ∧ (s.setNozzle b i v).part = s.part ∧ (s.setNozzle b i v).svc = s.svc ∧
    (s.setNozzle b i v).priv = s.priv ∧ (s.setNozzle b i v).sess = s.sess ∧
    (s.setNozzle b i v).lanes = s.lanes ∧ (s.setNozzle b i v).basins = s.basins ∧
    (s.setNozzle b i v).time = s.time ∧ (s.setNozzle b i v).ptp = s.ptp ∧ (s.setNozzle b i v).twin = s.twin ∧
    (s.setNozzle b i v).avs = s.avs ∧ (s.setNozzle b i v).pio = s.pio ∧ (s.setNozzle b i v).rings = s.rings ∧
    (s.setNozzle b i v).pos = s.pos ∧ (s.setNozzle b i v).lines = s.lines ∧ (s.setNozzle b i v).jobs = s.jobs ∧
    (s.setNozzle b i v).cmps = s.cmps ∧ (s.setNozzle b i v).saves = s.saves ∧
    (s.setNozzle b i v).ntHost = s.ntHost ∧ (s.setNozzle b i v).ntEngine = s.ntEngine ∧
    (s.setNozzle b i v).thr = s.thr ∧ (s.setNozzle b i v).rast = s.rast ∧ (s.setNozzle b i v).bars = s.bars ∧
    (s.setNozzle b i v).tiles = s.tiles ∧ (s.setNozzle b i v).fire = s.fire ∧
    (s.setNozzle b i v).tlnk = s.tlnk ∧ (s.setNozzle b i v).nozHealth = s.nozHealth ∧
    (s.setNozzle b i v).tileHealth = s.tileHealth ∧ (s.setNozzle b i v).cam = s.cam ∧
    (s.setNozzle b i v).loop = s.loop ∧ (s.setNozzle b i v).weir = s.weir ∧ (s.setNozzle b i v).dram = s.dram ∧
    (s.setNozzle b i v).chk = s.chk ∧ (s.setNozzle b i v).therm = s.therm ∧ (s.setNozzle b i v).mem = s.mem ∧
    (s.setNozzle b i v).win = s.win ∧ (s.setNozzle b i v).early = s.early ∧ (s.setNozzle b i v).free = s.free ∧
    (s.setNozzle b i v).raised = s.raised ∧ (s.setNozzle b i v).pending = s.pending := by
  simp only [State.setNozzle, and_self]

@[simp] theorem setBarRast_fields (s : State) (b : Nat) (x : BarRast) :
    (s.setBarRast b x).counter = s.counter ∧ (s.setBarRast b x).regs = s.regs ∧
    (s.setBarRast b x).staged = s.staged ∧ (s.setBarRast b x).waiting = s.waiting ∧
    (s.setBarRast b x).committed = s.committed ∧ (s.setBarRast b x).hdr = s.hdr ∧
    (s.setBarRast b x).dev = s.dev ∧ (s.setBarRast b x).part = s.part ∧ (s.setBarRast b x).svc = s.svc ∧
    (s.setBarRast b x).priv = s.priv ∧ (s.setBarRast b x).sess = s.sess ∧ (s.setBarRast b x).lanes = s.lanes ∧
    (s.setBarRast b x).basins = s.basins ∧ (s.setBarRast b x).time = s.time ∧ (s.setBarRast b x).ptp = s.ptp ∧
    (s.setBarRast b x).twin = s.twin ∧ (s.setBarRast b x).avs = s.avs ∧ (s.setBarRast b x).pio = s.pio ∧
    (s.setBarRast b x).rings = s.rings ∧ (s.setBarRast b x).pos = s.pos ∧ (s.setBarRast b x).lines = s.lines ∧
    (s.setBarRast b x).jobs = s.jobs ∧ (s.setBarRast b x).cmps = s.cmps ∧ (s.setBarRast b x).saves = s.saves ∧
    (s.setBarRast b x).noz = s.noz ∧ (s.setBarRast b x).ntHost = s.ntHost ∧
    (s.setBarRast b x).ntEngine = s.ntEngine ∧ (s.setBarRast b x).thr = s.thr ∧
    (s.setBarRast b x).bars = s.bars ∧ (s.setBarRast b x).tiles = s.tiles ∧ (s.setBarRast b x).fire = s.fire ∧
    (s.setBarRast b x).tlnk = s.tlnk ∧ (s.setBarRast b x).nozHealth = s.nozHealth ∧
    (s.setBarRast b x).tileHealth = s.tileHealth ∧ (s.setBarRast b x).cam = s.cam ∧
    (s.setBarRast b x).loop = s.loop ∧ (s.setBarRast b x).weir = s.weir ∧ (s.setBarRast b x).dram = s.dram ∧
    (s.setBarRast b x).chk = s.chk ∧ (s.setBarRast b x).therm = s.therm ∧ (s.setBarRast b x).mem = s.mem ∧
    (s.setBarRast b x).win = s.win ∧ (s.setBarRast b x).early = s.early ∧ (s.setBarRast b x).free = s.free ∧
    (s.setBarRast b x).raised = s.raised ∧ (s.setBarRast b x).pending = s.pending := by
  simp only [State.setBarRast, and_self]

@[simp] theorem setBarF_fields (s : State) (b : Nat) (x : BarFire) :
    (s.setBarF b x).counter = s.counter ∧ (s.setBarF b x).regs = s.regs ∧ (s.setBarF b x).staged = s.staged ∧
    (s.setBarF b x).waiting = s.waiting ∧ (s.setBarF b x).committed = s.committed ∧
    (s.setBarF b x).hdr = s.hdr ∧ (s.setBarF b x).dev = s.dev ∧ (s.setBarF b x).part = s.part ∧
    (s.setBarF b x).svc = s.svc ∧ (s.setBarF b x).priv = s.priv ∧ (s.setBarF b x).sess = s.sess ∧
    (s.setBarF b x).lanes = s.lanes ∧ (s.setBarF b x).basins = s.basins ∧ (s.setBarF b x).time = s.time ∧
    (s.setBarF b x).ptp = s.ptp ∧ (s.setBarF b x).twin = s.twin ∧ (s.setBarF b x).avs = s.avs ∧
    (s.setBarF b x).pio = s.pio ∧ (s.setBarF b x).rings = s.rings ∧ (s.setBarF b x).pos = s.pos ∧
    (s.setBarF b x).lines = s.lines ∧ (s.setBarF b x).jobs = s.jobs ∧ (s.setBarF b x).cmps = s.cmps ∧
    (s.setBarF b x).saves = s.saves ∧ (s.setBarF b x).noz = s.noz ∧ (s.setBarF b x).ntHost = s.ntHost ∧
    (s.setBarF b x).ntEngine = s.ntEngine ∧ (s.setBarF b x).thr = s.thr ∧ (s.setBarF b x).rast = s.rast ∧
    (s.setBarF b x).tiles = s.tiles ∧ (s.setBarF b x).fire = s.fire ∧ (s.setBarF b x).tlnk = s.tlnk ∧
    (s.setBarF b x).nozHealth = s.nozHealth ∧ (s.setBarF b x).tileHealth = s.tileHealth ∧
    (s.setBarF b x).cam = s.cam ∧ (s.setBarF b x).loop = s.loop ∧ (s.setBarF b x).weir = s.weir ∧
    (s.setBarF b x).dram = s.dram ∧ (s.setBarF b x).chk = s.chk ∧ (s.setBarF b x).therm = s.therm ∧
    (s.setBarF b x).mem = s.mem ∧ (s.setBarF b x).win = s.win ∧ (s.setBarF b x).early = s.early ∧
    (s.setBarF b x).free = s.free ∧ (s.setBarF b x).raised = s.raised ∧ (s.setBarF b x).pending = s.pending := by
  simp only [State.setBarF, and_self]

@[simp] theorem setTile_fields (s : State) (b t : Nat) (x : TileFire) :
    (s.setTile b t x).counter = s.counter ∧ (s.setTile b t x).regs = s.regs ∧
    (s.setTile b t x).staged = s.staged ∧ (s.setTile b t x).waiting = s.waiting ∧
    (s.setTile b t x).committed = s.committed ∧ (s.setTile b t x).hdr = s.hdr ∧ (s.setTile b t x).dev = s.dev ∧
    (s.setTile b t x).part = s.part ∧ (s.setTile b t x).svc = s.svc ∧ (s.setTile b t x).priv = s.priv ∧
    (s.setTile b t x).sess = s.sess ∧ (s.setTile b t x).lanes = s.lanes ∧ (s.setTile b t x).basins = s.basins ∧
    (s.setTile b t x).time = s.time ∧ (s.setTile b t x).ptp = s.ptp ∧ (s.setTile b t x).twin = s.twin ∧
    (s.setTile b t x).avs = s.avs ∧ (s.setTile b t x).pio = s.pio ∧ (s.setTile b t x).rings = s.rings ∧
    (s.setTile b t x).pos = s.pos ∧ (s.setTile b t x).lines = s.lines ∧ (s.setTile b t x).jobs = s.jobs ∧
    (s.setTile b t x).cmps = s.cmps ∧ (s.setTile b t x).saves = s.saves ∧ (s.setTile b t x).noz = s.noz ∧
    (s.setTile b t x).ntHost = s.ntHost ∧ (s.setTile b t x).ntEngine = s.ntEngine ∧
    (s.setTile b t x).thr = s.thr ∧ (s.setTile b t x).rast = s.rast ∧ (s.setTile b t x).bars = s.bars ∧
    (s.setTile b t x).fire = s.fire ∧ (s.setTile b t x).tlnk = s.tlnk ∧
    (s.setTile b t x).nozHealth = s.nozHealth ∧ (s.setTile b t x).tileHealth = s.tileHealth ∧
    (s.setTile b t x).cam = s.cam ∧ (s.setTile b t x).loop = s.loop ∧ (s.setTile b t x).weir = s.weir ∧
    (s.setTile b t x).dram = s.dram ∧ (s.setTile b t x).chk = s.chk ∧ (s.setTile b t x).therm = s.therm ∧
    (s.setTile b t x).mem = s.mem ∧ (s.setTile b t x).win = s.win ∧ (s.setTile b t x).early = s.early ∧
    (s.setTile b t x).free = s.free ∧ (s.setTile b t x).raised = s.raised ∧
    (s.setTile b t x).pending = s.pending := by
  simp only [State.setTile, and_self]

@[simp] theorem setFire_fields (s : State) (x : FireS) :
    (s.setFire x).counter = s.counter ∧ (s.setFire x).regs = s.regs ∧ (s.setFire x).staged = s.staged ∧
    (s.setFire x).waiting = s.waiting ∧ (s.setFire x).committed = s.committed ∧ (s.setFire x).hdr = s.hdr ∧
    (s.setFire x).dev = s.dev ∧ (s.setFire x).part = s.part ∧ (s.setFire x).svc = s.svc ∧
    (s.setFire x).priv = s.priv ∧ (s.setFire x).sess = s.sess ∧ (s.setFire x).lanes = s.lanes ∧
    (s.setFire x).basins = s.basins ∧ (s.setFire x).time = s.time ∧ (s.setFire x).ptp = s.ptp ∧
    (s.setFire x).twin = s.twin ∧ (s.setFire x).avs = s.avs ∧ (s.setFire x).pio = s.pio ∧
    (s.setFire x).rings = s.rings ∧ (s.setFire x).pos = s.pos ∧ (s.setFire x).lines = s.lines ∧
    (s.setFire x).jobs = s.jobs ∧ (s.setFire x).cmps = s.cmps ∧ (s.setFire x).saves = s.saves ∧
    (s.setFire x).noz = s.noz ∧ (s.setFire x).ntHost = s.ntHost ∧ (s.setFire x).ntEngine = s.ntEngine ∧
    (s.setFire x).thr = s.thr ∧ (s.setFire x).rast = s.rast ∧ (s.setFire x).bars = s.bars ∧
    (s.setFire x).tiles = s.tiles ∧ (s.setFire x).tlnk = s.tlnk ∧ (s.setFire x).nozHealth = s.nozHealth ∧
    (s.setFire x).tileHealth = s.tileHealth ∧ (s.setFire x).cam = s.cam ∧ (s.setFire x).loop = s.loop ∧
    (s.setFire x).weir = s.weir ∧ (s.setFire x).dram = s.dram ∧ (s.setFire x).chk = s.chk ∧
    (s.setFire x).therm = s.therm ∧ (s.setFire x).mem = s.mem ∧ (s.setFire x).win = s.win ∧
    (s.setFire x).early = s.early ∧ (s.setFire x).free = s.free ∧ (s.setFire x).raised = s.raised ∧
    (s.setFire x).pending = s.pending := by
  simp only [State.setFire, and_self]

@[simp] theorem setTl_fields (s : State) (n : Nat) (x : TileLane) :
    (s.setTl n x).counter = s.counter ∧ (s.setTl n x).regs = s.regs ∧ (s.setTl n x).staged = s.staged ∧
    (s.setTl n x).waiting = s.waiting ∧ (s.setTl n x).committed = s.committed ∧ (s.setTl n x).hdr = s.hdr ∧
    (s.setTl n x).dev = s.dev ∧ (s.setTl n x).part = s.part ∧ (s.setTl n x).svc = s.svc ∧
    (s.setTl n x).priv = s.priv ∧ (s.setTl n x).sess = s.sess ∧ (s.setTl n x).lanes = s.lanes ∧
    (s.setTl n x).basins = s.basins ∧ (s.setTl n x).time = s.time ∧ (s.setTl n x).ptp = s.ptp ∧
    (s.setTl n x).twin = s.twin ∧ (s.setTl n x).avs = s.avs ∧ (s.setTl n x).pio = s.pio ∧
    (s.setTl n x).rings = s.rings ∧ (s.setTl n x).pos = s.pos ∧ (s.setTl n x).lines = s.lines ∧
    (s.setTl n x).jobs = s.jobs ∧ (s.setTl n x).cmps = s.cmps ∧ (s.setTl n x).saves = s.saves ∧
    (s.setTl n x).noz = s.noz ∧ (s.setTl n x).ntHost = s.ntHost ∧ (s.setTl n x).ntEngine = s.ntEngine ∧
    (s.setTl n x).thr = s.thr ∧ (s.setTl n x).rast = s.rast ∧ (s.setTl n x).bars = s.bars ∧
    (s.setTl n x).tiles = s.tiles ∧ (s.setTl n x).fire = s.fire ∧ (s.setTl n x).nozHealth = s.nozHealth ∧
    (s.setTl n x).tileHealth = s.tileHealth ∧ (s.setTl n x).cam = s.cam ∧ (s.setTl n x).loop = s.loop ∧
    (s.setTl n x).weir = s.weir ∧ (s.setTl n x).dram = s.dram ∧ (s.setTl n x).chk = s.chk ∧
    (s.setTl n x).therm = s.therm ∧ (s.setTl n x).mem = s.mem ∧ (s.setTl n x).win = s.win ∧
    (s.setTl n x).early = s.early ∧ (s.setTl n x).free = s.free ∧ (s.setTl n x).raised = s.raised ∧
    (s.setTl n x).pending = s.pending := by
  simp only [State.setTl, and_self]

@[simp] theorem setNozH_fields (s : State) (b i : Nat) (x : NozHealth) :
    (s.setNozH b i x).counter = s.counter ∧ (s.setNozH b i x).regs = s.regs ∧
    (s.setNozH b i x).staged = s.staged ∧ (s.setNozH b i x).waiting = s.waiting ∧
    (s.setNozH b i x).committed = s.committed ∧ (s.setNozH b i x).hdr = s.hdr ∧ (s.setNozH b i x).dev = s.dev ∧
    (s.setNozH b i x).part = s.part ∧ (s.setNozH b i x).svc = s.svc ∧ (s.setNozH b i x).priv = s.priv ∧
    (s.setNozH b i x).sess = s.sess ∧ (s.setNozH b i x).lanes = s.lanes ∧ (s.setNozH b i x).basins = s.basins ∧
    (s.setNozH b i x).time = s.time ∧ (s.setNozH b i x).ptp = s.ptp ∧ (s.setNozH b i x).twin = s.twin ∧
    (s.setNozH b i x).avs = s.avs ∧ (s.setNozH b i x).pio = s.pio ∧ (s.setNozH b i x).rings = s.rings ∧
    (s.setNozH b i x).pos = s.pos ∧ (s.setNozH b i x).lines = s.lines ∧ (s.setNozH b i x).jobs = s.jobs ∧
    (s.setNozH b i x).cmps = s.cmps ∧ (s.setNozH b i x).saves = s.saves ∧ (s.setNozH b i x).noz = s.noz ∧
    (s.setNozH b i x).ntHost = s.ntHost ∧ (s.setNozH b i x).ntEngine = s.ntEngine ∧
    (s.setNozH b i x).thr = s.thr ∧ (s.setNozH b i x).rast = s.rast ∧ (s.setNozH b i x).bars = s.bars ∧
    (s.setNozH b i x).tiles = s.tiles ∧ (s.setNozH b i x).fire = s.fire ∧ (s.setNozH b i x).tlnk = s.tlnk ∧
    (s.setNozH b i x).tileHealth = s.tileHealth ∧ (s.setNozH b i x).cam = s.cam ∧
    (s.setNozH b i x).loop = s.loop ∧ (s.setNozH b i x).weir = s.weir ∧ (s.setNozH b i x).dram = s.dram ∧
    (s.setNozH b i x).chk = s.chk ∧ (s.setNozH b i x).therm = s.therm ∧ (s.setNozH b i x).mem = s.mem ∧
    (s.setNozH b i x).win = s.win ∧ (s.setNozH b i x).early = s.early ∧ (s.setNozH b i x).free = s.free ∧
    (s.setNozH b i x).raised = s.raised ∧ (s.setNozH b i x).pending = s.pending := by
  simp only [State.setNozH, and_self]

@[simp] theorem setTileH_fields (s : State) (b t : Nat) (x : TileHealth) :
    (s.setTileH b t x).counter = s.counter ∧ (s.setTileH b t x).regs = s.regs ∧
    (s.setTileH b t x).staged = s.staged ∧ (s.setTileH b t x).waiting = s.waiting ∧
    (s.setTileH b t x).committed = s.committed ∧ (s.setTileH b t x).hdr = s.hdr ∧
    (s.setTileH b t x).dev = s.dev ∧ (s.setTileH b t x).part = s.part ∧ (s.setTileH b t x).svc = s.svc ∧
    (s.setTileH b t x).priv = s.priv ∧ (s.setTileH b t x).sess = s.sess ∧ (s.setTileH b t x).lanes = s.lanes ∧
    (s.setTileH b t x).basins = s.basins ∧ (s.setTileH b t x).time = s.time ∧ (s.setTileH b t x).ptp = s.ptp ∧
    (s.setTileH b t x).twin = s.twin ∧ (s.setTileH b t x).avs = s.avs ∧ (s.setTileH b t x).pio = s.pio ∧
    (s.setTileH b t x).rings = s.rings ∧ (s.setTileH b t x).pos = s.pos ∧ (s.setTileH b t x).lines = s.lines ∧
    (s.setTileH b t x).jobs = s.jobs ∧ (s.setTileH b t x).cmps = s.cmps ∧ (s.setTileH b t x).saves = s.saves ∧
    (s.setTileH b t x).noz = s.noz ∧ (s.setTileH b t x).ntHost = s.ntHost ∧
    (s.setTileH b t x).ntEngine = s.ntEngine ∧ (s.setTileH b t x).thr = s.thr ∧
    (s.setTileH b t x).rast = s.rast ∧ (s.setTileH b t x).bars = s.bars ∧ (s.setTileH b t x).tiles = s.tiles ∧
    (s.setTileH b t x).fire = s.fire ∧ (s.setTileH b t x).tlnk = s.tlnk ∧
    (s.setTileH b t x).nozHealth = s.nozHealth ∧ (s.setTileH b t x).cam = s.cam ∧
    (s.setTileH b t x).loop = s.loop ∧ (s.setTileH b t x).weir = s.weir ∧ (s.setTileH b t x).dram = s.dram ∧
    (s.setTileH b t x).chk = s.chk ∧ (s.setTileH b t x).therm = s.therm ∧ (s.setTileH b t x).mem = s.mem ∧
    (s.setTileH b t x).win = s.win ∧ (s.setTileH b t x).early = s.early ∧ (s.setTileH b t x).free = s.free ∧
    (s.setTileH b t x).raised = s.raised ∧ (s.setTileH b t x).pending = s.pending := by
  simp only [State.setTileH, and_self]

@[simp] theorem setLoop_fields (s : State) (x : LoopS) :
    (s.setLoop x).counter = s.counter ∧ (s.setLoop x).regs = s.regs ∧ (s.setLoop x).staged = s.staged ∧
    (s.setLoop x).waiting = s.waiting ∧ (s.setLoop x).committed = s.committed ∧ (s.setLoop x).hdr = s.hdr ∧
    (s.setLoop x).dev = s.dev ∧ (s.setLoop x).part = s.part ∧ (s.setLoop x).svc = s.svc ∧
    (s.setLoop x).priv = s.priv ∧ (s.setLoop x).sess = s.sess ∧ (s.setLoop x).lanes = s.lanes ∧
    (s.setLoop x).basins = s.basins ∧ (s.setLoop x).time = s.time ∧ (s.setLoop x).ptp = s.ptp ∧
    (s.setLoop x).twin = s.twin ∧ (s.setLoop x).avs = s.avs ∧ (s.setLoop x).pio = s.pio ∧
    (s.setLoop x).rings = s.rings ∧ (s.setLoop x).pos = s.pos ∧ (s.setLoop x).lines = s.lines ∧
    (s.setLoop x).jobs = s.jobs ∧ (s.setLoop x).cmps = s.cmps ∧ (s.setLoop x).saves = s.saves ∧
    (s.setLoop x).noz = s.noz ∧ (s.setLoop x).ntHost = s.ntHost ∧ (s.setLoop x).ntEngine = s.ntEngine ∧
    (s.setLoop x).thr = s.thr ∧ (s.setLoop x).rast = s.rast ∧ (s.setLoop x).bars = s.bars ∧
    (s.setLoop x).tiles = s.tiles ∧ (s.setLoop x).fire = s.fire ∧ (s.setLoop x).tlnk = s.tlnk ∧
    (s.setLoop x).nozHealth = s.nozHealth ∧ (s.setLoop x).tileHealth = s.tileHealth ∧
    (s.setLoop x).cam = s.cam ∧ (s.setLoop x).weir = s.weir ∧ (s.setLoop x).dram = s.dram ∧
    (s.setLoop x).chk = s.chk ∧ (s.setLoop x).therm = s.therm ∧ (s.setLoop x).mem = s.mem ∧
    (s.setLoop x).win = s.win ∧ (s.setLoop x).early = s.early ∧ (s.setLoop x).free = s.free ∧
    (s.setLoop x).raised = s.raised ∧ (s.setLoop x).pending = s.pending := by
  simp only [State.setLoop, and_self]

@[simp] theorem setWeir_fields (s : State) (x : WeirS) :
    (s.setWeir x).counter = s.counter ∧ (s.setWeir x).regs = s.regs ∧ (s.setWeir x).staged = s.staged ∧
    (s.setWeir x).waiting = s.waiting ∧ (s.setWeir x).committed = s.committed ∧ (s.setWeir x).hdr = s.hdr ∧
    (s.setWeir x).dev = s.dev ∧ (s.setWeir x).part = s.part ∧ (s.setWeir x).svc = s.svc ∧
    (s.setWeir x).priv = s.priv ∧ (s.setWeir x).sess = s.sess ∧ (s.setWeir x).lanes = s.lanes ∧
    (s.setWeir x).basins = s.basins ∧ (s.setWeir x).time = s.time ∧ (s.setWeir x).ptp = s.ptp ∧
    (s.setWeir x).twin = s.twin ∧ (s.setWeir x).avs = s.avs ∧ (s.setWeir x).pio = s.pio ∧
    (s.setWeir x).rings = s.rings ∧ (s.setWeir x).pos = s.pos ∧ (s.setWeir x).lines = s.lines ∧
    (s.setWeir x).jobs = s.jobs ∧ (s.setWeir x).cmps = s.cmps ∧ (s.setWeir x).saves = s.saves ∧
    (s.setWeir x).noz = s.noz ∧ (s.setWeir x).ntHost = s.ntHost ∧ (s.setWeir x).ntEngine = s.ntEngine ∧
    (s.setWeir x).thr = s.thr ∧ (s.setWeir x).rast = s.rast ∧ (s.setWeir x).bars = s.bars ∧
    (s.setWeir x).tiles = s.tiles ∧ (s.setWeir x).fire = s.fire ∧ (s.setWeir x).tlnk = s.tlnk ∧
    (s.setWeir x).nozHealth = s.nozHealth ∧ (s.setWeir x).tileHealth = s.tileHealth ∧
    (s.setWeir x).cam = s.cam ∧ (s.setWeir x).loop = s.loop ∧ (s.setWeir x).dram = s.dram ∧
    (s.setWeir x).chk = s.chk ∧ (s.setWeir x).therm = s.therm ∧ (s.setWeir x).mem = s.mem ∧
    (s.setWeir x).win = s.win ∧ (s.setWeir x).early = s.early ∧ (s.setWeir x).free = s.free ∧
    (s.setWeir x).raised = s.raised ∧ (s.setWeir x).pending = s.pending := by
  simp only [State.setWeir, and_self]

@[simp] theorem setDram_fields (s : State) (x : DramS) :
    (s.setDram x).counter = s.counter ∧ (s.setDram x).regs = s.regs ∧ (s.setDram x).staged = s.staged ∧
    (s.setDram x).waiting = s.waiting ∧ (s.setDram x).committed = s.committed ∧ (s.setDram x).hdr = s.hdr ∧
    (s.setDram x).dev = s.dev ∧ (s.setDram x).part = s.part ∧ (s.setDram x).svc = s.svc ∧
    (s.setDram x).priv = s.priv ∧ (s.setDram x).sess = s.sess ∧ (s.setDram x).lanes = s.lanes ∧
    (s.setDram x).basins = s.basins ∧ (s.setDram x).time = s.time ∧ (s.setDram x).ptp = s.ptp ∧
    (s.setDram x).twin = s.twin ∧ (s.setDram x).avs = s.avs ∧ (s.setDram x).pio = s.pio ∧
    (s.setDram x).rings = s.rings ∧ (s.setDram x).pos = s.pos ∧ (s.setDram x).lines = s.lines ∧
    (s.setDram x).jobs = s.jobs ∧ (s.setDram x).cmps = s.cmps ∧ (s.setDram x).saves = s.saves ∧
    (s.setDram x).noz = s.noz ∧ (s.setDram x).ntHost = s.ntHost ∧ (s.setDram x).ntEngine = s.ntEngine ∧
    (s.setDram x).thr = s.thr ∧ (s.setDram x).rast = s.rast ∧ (s.setDram x).bars = s.bars ∧
    (s.setDram x).tiles = s.tiles ∧ (s.setDram x).fire = s.fire ∧ (s.setDram x).tlnk = s.tlnk ∧
    (s.setDram x).nozHealth = s.nozHealth ∧ (s.setDram x).tileHealth = s.tileHealth ∧
    (s.setDram x).cam = s.cam ∧ (s.setDram x).loop = s.loop ∧ (s.setDram x).weir = s.weir ∧
    (s.setDram x).chk = s.chk ∧ (s.setDram x).therm = s.therm ∧ (s.setDram x).mem = s.mem ∧
    (s.setDram x).win = s.win ∧ (s.setDram x).early = s.early ∧ (s.setDram x).free = s.free ∧
    (s.setDram x).raised = s.raised ∧ (s.setDram x).pending = s.pending := by
  simp only [State.setDram, and_self]

@[simp] theorem setChkCtx_fields (s : State) (n c : Nat) (x : ChkCtx) :
    (s.setChkCtx n c x).counter = s.counter ∧ (s.setChkCtx n c x).regs = s.regs ∧
    (s.setChkCtx n c x).staged = s.staged ∧ (s.setChkCtx n c x).waiting = s.waiting ∧
    (s.setChkCtx n c x).committed = s.committed ∧ (s.setChkCtx n c x).hdr = s.hdr ∧
    (s.setChkCtx n c x).dev = s.dev ∧ (s.setChkCtx n c x).part = s.part ∧ (s.setChkCtx n c x).svc = s.svc ∧
    (s.setChkCtx n c x).priv = s.priv ∧ (s.setChkCtx n c x).sess = s.sess ∧
    (s.setChkCtx n c x).lanes = s.lanes ∧ (s.setChkCtx n c x).basins = s.basins ∧
    (s.setChkCtx n c x).time = s.time ∧ (s.setChkCtx n c x).ptp = s.ptp ∧ (s.setChkCtx n c x).twin = s.twin ∧
    (s.setChkCtx n c x).avs = s.avs ∧ (s.setChkCtx n c x).pio = s.pio ∧ (s.setChkCtx n c x).rings = s.rings ∧
    (s.setChkCtx n c x).pos = s.pos ∧ (s.setChkCtx n c x).lines = s.lines ∧ (s.setChkCtx n c x).jobs = s.jobs ∧
    (s.setChkCtx n c x).cmps = s.cmps ∧ (s.setChkCtx n c x).saves = s.saves ∧ (s.setChkCtx n c x).noz = s.noz ∧
    (s.setChkCtx n c x).ntHost = s.ntHost ∧ (s.setChkCtx n c x).ntEngine = s.ntEngine ∧
    (s.setChkCtx n c x).thr = s.thr ∧ (s.setChkCtx n c x).rast = s.rast ∧ (s.setChkCtx n c x).bars = s.bars ∧
    (s.setChkCtx n c x).tiles = s.tiles ∧ (s.setChkCtx n c x).fire = s.fire ∧
    (s.setChkCtx n c x).tlnk = s.tlnk ∧ (s.setChkCtx n c x).nozHealth = s.nozHealth ∧
    (s.setChkCtx n c x).tileHealth = s.tileHealth ∧ (s.setChkCtx n c x).cam = s.cam ∧
    (s.setChkCtx n c x).loop = s.loop ∧ (s.setChkCtx n c x).weir = s.weir ∧ (s.setChkCtx n c x).dram = s.dram ∧
    (s.setChkCtx n c x).therm = s.therm ∧ (s.setChkCtx n c x).mem = s.mem ∧ (s.setChkCtx n c x).win = s.win ∧
    (s.setChkCtx n c x).early = s.early ∧ (s.setChkCtx n c x).free = s.free ∧
    (s.setChkCtx n c x).raised = s.raised ∧ (s.setChkCtx n c x).pending = s.pending := by
  simp only [State.setChkCtx, and_self]

@[simp] theorem setSensor_fields (s : State) (n : Nat) (x : ThermSensor) :
    (s.setSensor n x).counter = s.counter ∧ (s.setSensor n x).regs = s.regs ∧
    (s.setSensor n x).staged = s.staged ∧ (s.setSensor n x).waiting = s.waiting ∧
    (s.setSensor n x).committed = s.committed ∧ (s.setSensor n x).hdr = s.hdr ∧ (s.setSensor n x).dev = s.dev ∧
    (s.setSensor n x).part = s.part ∧ (s.setSensor n x).svc = s.svc ∧ (s.setSensor n x).priv = s.priv ∧
    (s.setSensor n x).sess = s.sess ∧ (s.setSensor n x).lanes = s.lanes ∧ (s.setSensor n x).basins = s.basins ∧
    (s.setSensor n x).time = s.time ∧ (s.setSensor n x).ptp = s.ptp ∧ (s.setSensor n x).twin = s.twin ∧
    (s.setSensor n x).avs = s.avs ∧ (s.setSensor n x).pio = s.pio ∧ (s.setSensor n x).rings = s.rings ∧
    (s.setSensor n x).pos = s.pos ∧ (s.setSensor n x).lines = s.lines ∧ (s.setSensor n x).jobs = s.jobs ∧
    (s.setSensor n x).cmps = s.cmps ∧ (s.setSensor n x).saves = s.saves ∧ (s.setSensor n x).noz = s.noz ∧
    (s.setSensor n x).ntHost = s.ntHost ∧ (s.setSensor n x).ntEngine = s.ntEngine ∧
    (s.setSensor n x).thr = s.thr ∧ (s.setSensor n x).rast = s.rast ∧ (s.setSensor n x).bars = s.bars ∧
    (s.setSensor n x).tiles = s.tiles ∧ (s.setSensor n x).fire = s.fire ∧ (s.setSensor n x).tlnk = s.tlnk ∧
    (s.setSensor n x).nozHealth = s.nozHealth ∧ (s.setSensor n x).tileHealth = s.tileHealth ∧
    (s.setSensor n x).cam = s.cam ∧ (s.setSensor n x).loop = s.loop ∧ (s.setSensor n x).weir = s.weir ∧
    (s.setSensor n x).dram = s.dram ∧ (s.setSensor n x).chk = s.chk ∧ (s.setSensor n x).mem = s.mem ∧
    (s.setSensor n x).win = s.win ∧ (s.setSensor n x).early = s.early ∧ (s.setSensor n x).free = s.free ∧
    (s.setSensor n x).raised = s.raised ∧ (s.setSensor n x).pending = s.pending := by
  simp only [State.setSensor, and_self]

@[simp] theorem setPin_fields (s : State) (n : Nat) (x : PioIn) :
    (s.setPin n x).counter = s.counter ∧ (s.setPin n x).regs = s.regs ∧ (s.setPin n x).staged = s.staged ∧
    (s.setPin n x).waiting = s.waiting ∧ (s.setPin n x).committed = s.committed ∧ (s.setPin n x).hdr = s.hdr ∧
    (s.setPin n x).dev = s.dev ∧ (s.setPin n x).part = s.part ∧ (s.setPin n x).svc = s.svc ∧
    (s.setPin n x).priv = s.priv ∧ (s.setPin n x).sess = s.sess ∧ (s.setPin n x).lanes = s.lanes ∧
    (s.setPin n x).basins = s.basins ∧ (s.setPin n x).time = s.time ∧ (s.setPin n x).ptp = s.ptp ∧
    (s.setPin n x).twin = s.twin ∧ (s.setPin n x).avs = s.avs ∧ (s.setPin n x).rings = s.rings ∧
    (s.setPin n x).pos = s.pos ∧ (s.setPin n x).lines = s.lines ∧ (s.setPin n x).jobs = s.jobs ∧
    (s.setPin n x).cmps = s.cmps ∧ (s.setPin n x).saves = s.saves ∧ (s.setPin n x).noz = s.noz ∧
    (s.setPin n x).ntHost = s.ntHost ∧ (s.setPin n x).ntEngine = s.ntEngine ∧ (s.setPin n x).thr = s.thr ∧
    (s.setPin n x).rast = s.rast ∧ (s.setPin n x).bars = s.bars ∧ (s.setPin n x).tiles = s.tiles ∧
    (s.setPin n x).fire = s.fire ∧ (s.setPin n x).tlnk = s.tlnk ∧ (s.setPin n x).nozHealth = s.nozHealth ∧
    (s.setPin n x).tileHealth = s.tileHealth ∧ (s.setPin n x).cam = s.cam ∧ (s.setPin n x).loop = s.loop ∧
    (s.setPin n x).weir = s.weir ∧ (s.setPin n x).dram = s.dram ∧ (s.setPin n x).chk = s.chk ∧
    (s.setPin n x).therm = s.therm ∧ (s.setPin n x).mem = s.mem ∧ (s.setPin n x).win = s.win ∧
    (s.setPin n x).early = s.early ∧ (s.setPin n x).free = s.free ∧ (s.setPin n x).raised = s.raised ∧
    (s.setPin n x).pending = s.pending := by
  simp only [State.setPin, and_self]

/-- The counter takes the tick of a command; nothing else changes. -/
@[simp] theorem atTick_fields (s : State) (t : Tick) :
    (s.atTick t).regs = s.regs ∧ (s.atTick t).staged = s.staged ∧ (s.atTick t).waiting = s.waiting ∧
    (s.atTick t).committed = s.committed ∧ (s.atTick t).hdr = s.hdr ∧ (s.atTick t).dev = s.dev ∧
    (s.atTick t).part = s.part ∧ (s.atTick t).svc = s.svc ∧ (s.atTick t).priv = s.priv ∧
    (s.atTick t).sess = s.sess ∧ (s.atTick t).lanes = s.lanes ∧ (s.atTick t).basins = s.basins ∧
    (s.atTick t).time = s.time ∧ (s.atTick t).ptp = s.ptp ∧ (s.atTick t).twin = s.twin ∧
    (s.atTick t).avs = s.avs ∧ (s.atTick t).pio = s.pio ∧ (s.atTick t).rings = s.rings ∧
    (s.atTick t).pos = s.pos ∧ (s.atTick t).lines = s.lines ∧ (s.atTick t).jobs = s.jobs ∧
    (s.atTick t).cmps = s.cmps ∧ (s.atTick t).saves = s.saves ∧ (s.atTick t).noz = s.noz ∧
    (s.atTick t).ntHost = s.ntHost ∧ (s.atTick t).ntEngine = s.ntEngine ∧ (s.atTick t).thr = s.thr ∧
    (s.atTick t).rast = s.rast ∧ (s.atTick t).bars = s.bars ∧ (s.atTick t).tiles = s.tiles ∧
    (s.atTick t).fire = s.fire ∧ (s.atTick t).tlnk = s.tlnk ∧ (s.atTick t).nozHealth = s.nozHealth ∧
    (s.atTick t).tileHealth = s.tileHealth ∧ (s.atTick t).cam = s.cam ∧ (s.atTick t).loop = s.loop ∧
    (s.atTick t).weir = s.weir ∧ (s.atTick t).dram = s.dram ∧ (s.atTick t).chk = s.chk ∧
    (s.atTick t).therm = s.therm ∧ (s.atTick t).mem = s.mem ∧ (s.atTick t).win = s.win ∧
    (s.atTick t).early = s.early ∧ (s.atTick t).free = s.free ∧ (s.atTick t).raised = s.raised ∧
    (s.atTick t).pending = s.pending := by
  simp only [State.atTick]; split <;> simp only [and_self]

end Sys2Proof.Machine
end

