-- ==== Sys2Proof/Laws/Runs.lean ====
section
/-!
SUPPORT. How a command's effect is read off its operation: `runs_of` for `Runs`, and the checks of a register write.
-/
namespace Sys2Proof.Machine

/-- A command whose meaning is an operation runs with any effect equal to the operation under the condition. -/
theorem runs_of {c : Tick → Instr} {cond : State → Prop} {eff f : State → State}
    (h : ∀ t s, exec (c t) s = s.does t f) (g : ∀ u, cond u → f u = eff u) : Runs c cond eff := by
  intro t s hc
  rw [h, State.does, g _ hc]

/-- A write that passes the checks of the master is performed. -/
theorem accessWrite_takes {s : State} {m : Master} {addr : Nat} {k : PageKind} {inst : Nat} (env : WriteEnv) (v : Word)
    (h : s.takes m addr k inst = true) : s.accessWrite env m addr v = s.performWrite env m k inst addr v := by
  simp only [State.takes, Bool.and_eq_true, beq_iff_eq, Bool.not_eq_true'] at h
  obtain ⟨⟨⟨⟨⟨⟨h1, h2⟩, h3⟩, h4⟩, h5⟩, h6⟩, h7⟩ := h
  have h5' : ¬ (m = .twin ∧ k.mirror = false) := by
    rintro ⟨rfl, h⟩; simp [h] at h5
  simp only [State.accessWrite, h1, h2, h3, h4, h5', h6, h7]
  simp

/-- A write of a block register that passes the checks, that its block accepts, and that no audit entry follows: what the
block does, the advance of a table window, and the mirror. -/
theorem regWrite_block {s t : State} {m : Master} {addr : Nat} {k : PageKind} {inst i : Nat} {env : WriteEnv} {v : Word}
    {d : RegDef} {l : Bool} (h : s.takes m addr k inst = true) (ho : 0x40 ≤ pageOff addr)
    (hf : findReg k.regs (pageOff addr) = some (d, i)) (hp : privOffset k (pageOff addr) = false)
    (hw : s.writeBlock env m k inst addr d i v = (0, l, t)) :
    s.regWrite m addr v env = (t.windowNext k addr).mirrorWrite m k addr v.toNat s.isActive := by
  have h20 : (pageOff addr == 32) = false := by simp; omega
  simp only [State.regWrite, accessWrite_takes env v h, State.performWrite, hf, hw, hp, h20]
  simp [Nat.not_lt.mpr ho]

/-- No page marks the group of its header as privileged. -/
theorem privOffset_head (k : PageKind) (off : Nat) (h : off < 0x40) : privOffset k off = false := by
  have h0 : off / 0x80 = 0 := by omega
  simp only [privOffset, h0]
  cases k <;> decide

/-- A write of a header register that passes the checks, that the page accepts, and that no audit entry follows. -/
theorem regWrite_head {s t : State} {m : Master} {addr : Nat} {k : PageKind} {inst : Nat} {env : WriteEnv} {v : Word}
    {l : Bool} (h : s.takes m addr k inst = true) (ho : pageOff addr < 0x40)
    (hw : s.writeHead m (pageNo addr) k inst (pageOff addr) v.toNat = (0, l, t))
    (hl : (l && pageOff addr == 0x20) = false) :
    s.regWrite m addr v env = t.mirrorWrite m k addr v.toNat s.isActive := by
  have hp := privOffset_head k _ ho
  simp only [State.regWrite, accessWrite_takes env v h, State.performWrite, hw, hp, if_pos ho, Bool.false_or]
  simp [hl]

/-- A write of a block register that is accepted and that its block performs as `t`. -/
theorem regWrite_accept {s t : State} {m : Master} {addr : Nat} {k : PageKind} {inst i c : Nat} {env : WriteEnv}
    {v : Word} {d : RegDef} (h : s.accepts m addr k inst = true) (ho : 0x40 ≤ pageOff addr)
    (hf : findReg k.regs (pageOff addr) = some (d, i)) (hc : c = 0 ∨ c = 5)
    (hw : s.writeBlock env m k inst addr d i v = (c, true, t)) :
    s.regWrite m addr v env = t.acceptedBy s m k inst addr v := by
  simp only [State.accepts, Bool.and_eq_true, Bool.not_eq_true'] at h
  obtain ⟨h, ha⟩ := h
  have h20 : (pageOff addr == 32) = false := by simp; omega
  simp only [State.regWrite, accessWrite_takes env v h, State.performWrite, hf, hw, State.acceptedBy, h20, Bool.or_false,
    Bool.true_and, ha, if_neg (Nat.not_lt.mpr ho)]
  rcases hc with rfl | rfl <;> simp

/-- The same where the block writes a register outside the privileged groups, whatever it says of the audit log. -/
theorem regWrite_accept_plain {s t : State} {m : Master} {addr : Nat} {k : PageKind} {inst i : Nat} {env : WriteEnv}
    {v : Word} {d : RegDef} {l : Bool} (h : s.accepts m addr k inst = true) (ho : 0x40 ≤ pageOff addr)
    (hf : findReg k.regs (pageOff addr) = some (d, i)) (hp : privOffset k (pageOff addr) = false)
    (hw : s.writeBlock env m k inst addr d i v = (0, l, t)) :
    s.regWrite m addr v env = t.acceptedBy s m k inst addr v := by
  simp only [State.accepts, Bool.and_eq_true, Bool.not_eq_true'] at h
  rw [regWrite_block h.1 ho hf hp hw]
  simp [State.acceptedBy, hp]

/-- A page without a twin image does not mirror. -/
theorem mirrorWrite_off (s : State) (m : Master) (k : PageKind) (addr v : Nat) (a : Bool) (h : k.mirror = false) :
    s.mirrorWrite m k addr v a = s := by
  simp [State.mirrorWrite, h]

/-- A register without a window leaves every address register. -/
theorem windowNext_none (s : State) (k : PageKind) (addr : Nat) (h : windowOf k (pageOff addr) = none) :
    s.windowNext k addr = s := by
  simp [State.windowNext, h]

theorem pageNo_headAddr (pg off : Nat) (h : off < 4096) : pageNo (headAddr pg off) = pg := by
  simp only [pageNo, headAddr]; omega

theorem pageOff_headAddr (pg off : Nat) (h : off < 4096) : pageOff (headAddr pg off) = off := by
  simp only [pageOff, headAddr]; omega

/-- A data word of the mailbox changes the header of its page only. -/
@[simp] theorem writeData_fields (s : State) (m : Master) (pg i v : Nat) :
    (s.writeData m pg i v).regs = s.regs ∧ (s.writeData m pg i v).dev = s.dev ∧
    (s.writeData m pg i v).part = s.part ∧ (s.writeData m pg i v).sess = s.sess := by
  simp only [State.writeData, State.setMbx, setHead_fields, and_self]

/-- The checks of a header register are the same for all of them, and do not read the mailbox. -/
theorem takes_head {s z : State} {m : Master} {pg a b : Nat} {k : PageKind} {inst : Nat} (ha : a < 0x40) (hb : b < 0x40)
    (hb4 : b % 4 = 0) (h1 : z.regs = s.regs) (h2 : z.dev = s.dev) (h3 : z.part = s.part) (h4 : z.sess = s.sess)
    (h : s.takes m (headAddr pg a) k inst = true) : z.takes m (headAddr pg b) k inst = true := by
  have hp : z.pagesUp = s.pagesUp := by
    simp only [State.pagesUp, State.rd, State.word, h1, h2]; rfl
  have hq : z.privileged m = s.privileged m := by simp only [State.privileged, State.session, h4]
  have hx : z.absent k inst b true = s.absent k inst a true := by cases k <;> simp [State.absent, h3]
  have h4a : headAddr pg b % 4 = 0 := by simp only [headAddr]; omega
  simp only [State.takes, pageNo_headAddr pg _ (show a < 4096 by omega), pageNo_headAddr pg _ (show b < 4096 by omega),
    pageOff_headAddr pg _ (show a < 4096 by omega), pageOff_headAddr pg _ (show b < 4096 by omega),
    privOffset_head k _ ha, privOffset_head k _ hb, State.pageAnswers, State.isStandby, hp, hq, hx, h2, h4a] at h ⊢
  simp only [Bool.and_eq_true] at h ⊢
  simp_all

/-- The four data words of a mailbox write on a page without a twin image. -/
theorem mbxWrite_data {s : State} {m : Master} {pg : Nat} {k : PageKind} {inst : Nat} (hk : k.mirror = false)
    (h : s.takes m (headAddr pg 0x20) k inst = true) (i v : Nat) (hi : i < 4) (hv : v < 2 ^ 32) :
    s.regWrite m (headAddr pg (0x28 + 4 * i)) (BitVec.ofNat 32 v) = s.writeData m pg i v := by
  have ht : s.takes m (headAddr pg (0x28 + 4 * i)) k inst = true :=
    takes_head (a := 0x20) (by omega) (by omega) (by omega) rfl rfl rfl rfl h
  have hv' : (BitVec.ofNat 32 v).toNat = v := by simp; omega
  rw [regWrite_head (t := s.writeData m pg i v) (l := true) ht (by rw [pageOff_headAddr] <;> omega),
    mirrorWrite_off _ _ _ _ _ _ hk]
  · rw [pageOff_headAddr _ _ (by omega), pageNo_headAddr _ _ (by omega), hv']
    rcases i with _ | _ | _ | _ | _ <;> first | rfl | omega
  · rw [pageOff_headAddr _ _ (by omega)]; simp; omega

/-- A mailbox write of an item that its block accepts. -/
theorem mbxWrite_done {s : State} {m : Master} {pg item value : Nat} {k : PageKind} {inst : Nat} (hk : k.mirror = false)
    (hi : item < 2 ^ 12) (hp : itemPriv k item = false) (h : s.takes m (headAddr pg 0x20) k inst = true)
    (hu : (s.mbxLoaded m pg value).itemUse k item = .writeOnly ∨ (s.mbxLoaded m pg value).itemUse k item = .readWrite)
    (hw : ((s.mbxLoaded m pg value).itemWrite k inst item ((s.mbxLoaded m pg value).mbx pg m).data.toNat).1 = true) :
    s.mbxWrite m pg item value = (s.mbxLoaded m pg value).mbxDone m pg k inst item := by
  have hb : ∀ i, bitsOf value (32 * i) 32 < 2 ^ 32 := fun i => by simp only [bitsOf]; exact Nat.mod_lt _ (by decide)
  have step : ∀ (z : State) (i v : Nat), z.takes m (headAddr pg 0x20) k inst = true →
      (z.writeData m pg i v).takes m (headAddr pg 0x20) k inst = true := fun z i v hz =>
    takes_head (a := 0x20) (by omega) (by omega) (by omega) (by simp) (by simp) (by simp) (by simp) hz
  have hl : s.mbxWrite m pg item value =
      (s.mbxLoaded m pg value).regWrite m (headAddr pg 0x20) (selWord item true) ∧
      (s.mbxLoaded m pg value).takes m (headAddr pg 0x20) k inst = true := by
    simp only [State.mbxWrite, State.mbxLoaded, show List.range 4 = [0, 1, 2, 3] from rfl, List.foldl]
    have t0 := step s 0 (bitsOf value (32 * 0) 32) h
    have t1 := step _ 1 (bitsOf value (32 * 1) 32) t0
    have t2 := step _ 2 (bitsOf value (32 * 2) 32) t1
    have t3 := step _ 3 (bitsOf value (32 * 3) 32) t2
    rw [mbxWrite_data hk h 0 _ (by omega) (hb 0), mbxWrite_data hk t0 1 _ (by omega) (hb 1),
      mbxWrite_data hk t1 2 _ (by omega) (hb 2), mbxWrite_data hk t2 3 _ (by omega) (hb 3)]
    exact ⟨rfl, t3⟩
  rw [hl.1]
  generalize s.mbxLoaded m pg value = z at hl hu hw
  have e1 : bitsOf (selWord item true).toNat 0 12 = item := by simp [selWord, bitsOf]; omega
  have e2 : bitOf (selWord item true).toNat 15 = true := by simp [selWord, bitOf]; omega
  rw [regWrite_head (l := false) (t := z.mbxDone m pg k inst item) hl.2 (by rw [pageOff_headAddr] <;> omega) ?_ (by simp),
    mirrorWrite_off _ _ _ _ _ _ hk]
  rw [pageOff_headAddr _ _ (by omega), pageNo_headAddr _ _ (by omega)]
  rcases hu with hu | hu <;> simp [State.writeHead, State.writeSel, e1, e2, hp, hu, hw, State.mbxDone]

end Sys2Proof.Machine
end

