-- ==== Sys2Proof/Machine/Package.lean ====
section
/-!
DEFINITION. The package (19): the signals, their balls, the net of every ball, and what each ball does from PWRGOOD high
until its block is enabled.
-/
namespace Sys2Proof.Machine

/-! ### Signals (R633) -/

/-- A leg of a differential pair. -/
inductive Leg where
  | p
  | n
  deriving DecidableEq, Repr

/-- A camera port. -/
inductive CamBank where
  | a
  | b
  deriving DecidableEq, Repr

/-- The signals of the package (R633). A lane, bit or input stands as the number that the manual gives it. -/
inductive Signal where
  | tlTx (lane : Fin 40) (leg : Leg)
  | tlRx (lane : Fin 40) (leg : Leg)
  | hlTx (lane : Fin 4) (leg : Leg)
  | hlRx (lane : Fin 4) (leg : Leg)
  | twTx (lane : Fin 2) (leg : Leg)
  | twRx (lane : Fin 2) (leg : Leg)
  | lref (leg : Leg)
  | serCal (k : Fin 2)
  | tref
  | hbOut (leg : Leg)
  | hbIn (leg : Leg)
  | resetN
  | pwrgood
  | irqN
  | svcClk
  | svcCsN
  | svcDi
  | svcDo
  | tck
  | tms
  | tdi
  | tdo
  | trstN
  | bootMode (k : Fin 2)
  | netpriv
  | roleSel
  | vsel (port : CamBank)
  | camD (port : CamBank) (bit : Fin 24)
  | camPclk (port : CamBank)
  | camFv (port : CamBank)
  | camLv (port : CamBank)
  | camDv (port : CamBank)
  | camTrig (port : CamBank)
  | pioI (n : Fin 16)
  | pioO (n : Fin 16)
  | encA (e : Fin 2)
  | encB (e : Fin 2)
  | encZ (e : Fin 2)
  | hall (n : Fin 3)
  | ssnClk (n : Fin 2)
  | ssnDat (n : Fin 2)
  | thermN
  | faultN
  | ppsIn
  | ppsOut
  | pmbClk
  | pmbDat
  | pmbAlertN
  | sluiceOut
  | sluiceIn
  deriving DecidableEq, Repr

/-- The 19 letters that name the rows of each third of the array (R629). -/
def rowLetters : List String :=
  ["A", "B", "C", "D", "E", "F", "G", "H", "J", "K", "L", "M", "N", "P", "T", "U", "V", "W", "Y"]

/-- The name of the row of an index from 1 to 57 (R629). -/
def rowName (i : Nat) : String :=
  (if i ≤ 19 then "" else if i ≤ 38 then "A" else "B") ++ rowLetters.getD ((i - 1) % 19) ""

/-- The name of a ball (R629). -/
def ballName (i j : Nat) : String := rowName i ++ toString j

/-- The second leg of a pair stands one column on. -/
def legStep : Leg → Nat
  | .p => 0
  | .n => 1

/-- The columns of a tile lane's legs: on the west edge they count away from it, on the east edge towards the middle. -/
def tileBallCol (lane west east : Nat) (leg : Leg) : Nat := if lane < 20 then west + legStep leg else east - legStep leg

/-- The first column of a camera port (R633). -/
def camCol : CamBank → Nat
  | .a => 8
  | .b => 38

/-- Row index and column of the ball of a signal (R633). -/
def signalBall : Signal → Nat × Nat
  | .tlTx n g => (9 + 2 * (n.val % 20), tileBallCol n.val 2 56 g)
  | .tlRx n g => (9 + 2 * (n.val % 20), tileBallCol n.val 5 53 g)
  | .hlTx h g => (2, 9 + 4 * h.val + legStep g)
  | .hlRx h g => (5, 9 + 4 * h.val + legStep g)
  | .twTx k g => (2, 31 + 4 * k.val + legStep g)
  | .twRx k g => (5, 31 + 4 * k.val + legStep g)
  | .lref g => (3, 26 + legStep g)
  | .serCal k => (3, 28 + k.val)
  | .tref => (2, 41)
  | .hbOut g => (2, 43 + legStep g)
  | .hbIn g => (2, 46 + legStep g)
  | .resetN => (2, 49)
  | .pwrgood => (2, 50)
  | .irqN => (2, 51)
  | .svcClk => (4, 41)
  | .svcCsN => (4, 42)
  | .svcDi => (4, 43)
  | .svcDo => (4, 44)
  | .tck => (4, 46)
  | .tms => (4, 47)
  | .tdi => (4, 48)
  | .tdo => (4, 49)
  | .trstN => (4, 50)
  | .bootMode k => (6, 41 + k.val)
  | .netpriv => (6, 43)
  | .roleSel => (6, 44)
  | .vsel .a => (6, 45)
  | .vsel .b => (6, 46)
  | .camD x k => (if k.val < 12 then 53 else 55, camCol x + k.val % 12)
  | .camPclk x => (54, camCol x)
  | .camFv x => (54, camCol x + 2)
  | .camLv x => (54, camCol x + 4)
  | .camDv x => (54, camCol x + 6)
  | .camTrig x => (54, camCol x + 8)
  | .pioI n => (53, 21 + n.val)
  | .pioO n => (55, 21 + n.val)
  | .encA e => (52, 21 + 3 * e.val)
  | .encB e => (52, 22 + 3 * e.val)
  | .encZ e => (52, 23 + 3 * e.val)
  | .hall n => (52, 27 + n.val)
  | .ssnClk n => (52, 30 + 2 * n.val)
  | .ssnDat n => (52, 31 + 2 * n.val)
  | .thermN => (57, 21)
  | .faultN => (57, 22)
  | .ppsIn => (57, 23)
  | .ppsOut => (57, 24)
  | .pmbClk => (57, 25)
  | .pmbDat => (57, 26)
  | .pmbAlertN => (57, 27)
  | .sluiceOut => (57, 28)
  | .sluiceIn => (57, 29)

/-- Both legs of a pair. -/
def legs : List Leg := [.p, .n]

/-- Both camera ports. -/
def camBanks : List CamBank := [.a, .b]

/-- The serial and differential signals. -/
def serialSignals : List Signal :=
  (List.finRange 40).flatMap (fun n => legs.flatMap fun g => [.tlTx n g, .tlRx n g]) ++
  (List.finRange 4).flatMap (fun n => legs.flatMap fun g => [.hlTx n g, .hlRx n g]) ++
  (List.finRange 2).flatMap (fun n => legs.flatMap fun g => [.twTx n g, .twRx n g]) ++
  legs.flatMap (fun g => [.lref g, .hbOut g, .hbIn g]) ++ [.serCal 0, .serCal 1]

/-- The signals of the north management block and the straps. -/
def northSignals : List Signal :=
  [.tref, .resetN, .pwrgood, .irqN, .svcClk, .svcCsN, .svcDi, .svcDo, .tck, .tms, .tdi, .tdo, .trstN, .bootMode 0,
   .bootMode 1, .netpriv, .roleSel, .vsel .a, .vsel .b]

/-- The signals of the south strip. -/
def southSignals : List Signal :=
  camBanks.flatMap (fun x => (List.finRange 24).map (Signal.camD x) ++
    [.camPclk x, .camFv x, .camLv x, .camDv x, .camTrig x]) ++
  (List.finRange 16).flatMap (fun n => [.pioI n, .pioO n]) ++
  (List.finRange 2).flatMap (fun n => [.encA n, .encB n, .encZ n, .ssnClk n, .ssnDat n]) ++
  (List.finRange 3).map Signal.hall ++
  [.thermN, .faultN, .ppsIn, .ppsOut, .pmbClk, .pmbDat, .pmbAlertN, .sluiceOut, .sluiceIn]

/-- The signals of the package (R633). -/
def allSignals : List Signal := serialSignals ++ northSignals ++ southSignals

/-! ### Nets (R630, R631) -/

/-- The supplies, the ground and the signals. -/
inductive Net where
  | vss
  | vcore
  | vsram
  | vserA
  | vserH
  | vdram
  | vpp
  | vio18
  | vio33
  | vcamA
  | vcamB
  | avddPll
  | signal (x : Signal)
  deriving DecidableEq, Repr

/-- The supply of a ring ball that R631 names. -/
def ringNet (i j : Nat) : Option Net :=
  let within := fun x lo hi : Nat => decide (lo ≤ x) && decide (x ≤ hi)
  if (j = 1 ∨ j = 57) ∧ i % 2 = 0 ∧ within i 10 46 then some .vserH
  else if i = 4 ∧ j % 2 = 1 ∧ within j 7 39 then some .vserH
  else if (i = 3 ∨ i = 5) ∧ within j 41 51 then some .vio18
  else if (i = 54 ∨ i = 56) ∧ within j 21 36 then some .vio33
  else if (i = 52 ∨ i = 56) ∧ j % 2 = 0 ∧ within j 8 18 then some .vcamA
  else if (i = 52 ∨ i = 56) ∧ j % 2 = 0 ∧ within j 38 48 then some .vcamB
  else if i = 1 ∧ (within j 24 31 || within j 41 48) then some .avddPll
  else none

/-- The supply that R630 gives the odd balls of a location, read top to bottom. -/
def zoneNet (i j : Nat) : Net :=
  let within := fun x lo hi : Nat => decide (lo ≤ x) && decide (x ≤ hi)
  let inner := within i 7 51 && within j 7 51
  if within i 16 42 && within j 16 42 then .vcore
  else if within i 14 44 && within j 14 44 then .vsram
  else if inner && (within j 7 8 || within j 50 51) && within i 9 49 then .vserA
  else if inner then .vdram
  else if (decide (i ≤ 6) || decide (52 ≤ i)) && (decide (j ≤ 6) || decide (52 ≤ j)) then .vpp
  else .vss

/-- The net of the ball in row `i` and column `j`: its signal, else its ring supply, else by zone and parity
(R630, R631, R633). -/
def netOf (i j : Nat) : Net :=
  match allSignals.find? fun x => signalBall x == (i, j) with
  | some x => .signal x
  | none =>
    match ringNet i j with
    | some n => n
    | none => if (i + j) % 2 = 0 then .vss else zoneNet i j

/-! ### Directions, banks and reset states (R634) -/

/-- The bank of a signal ball (R634). The lanes stand in VSER_A and VSER_H. -/
inductive Bank where
  | lanes
  | serA
  | pll
  | io18
  | io33
  | cam (port : CamBank)
  deriving DecidableEq, Repr

/-- The direction of a signal ball (R634). -/
inductive PinDir where
  | input
  | output
  | openDrain
  | analogue
  deriving DecidableEq, Repr

/-- The state of a signal ball from PWRGOOD high until its block is enabled (R634). -/
inductive PinReset where
  | electricalIdle
  | terminated
  | low
  | high
  | input
  | released
  | undriven
  | external
  deriving DecidableEq, Repr

/-- The internal pull or keeper of a signal ball (R634). -/
inductive PinPull where
  | none
  | up
  | down
  | keeper
  deriving DecidableEq, Repr

/-- A row of the table of R634. -/
structure PinSpec where
  dir : PinDir
  bank : Bank
  reset : PinReset
  pull : PinPull := .none
  deriving DecidableEq, Repr

/-- Direction, bank, reset state and internal pull of a signal (R634). SVC_DO and TDO are undriven while they are not
selected. -/
def pinSpec : Signal → PinSpec
  | .tlTx _ _ => { dir := .output, bank := .lanes, reset := .electricalIdle }
  | .hlTx _ _ => { dir := .output, bank := .lanes, reset := .electricalIdle }
  | .twTx _ _ => { dir := .output, bank := .lanes, reset := .electricalIdle }
  | .tlRx _ _ => { dir := .input, bank := .lanes, reset := .terminated }
  | .hlRx _ _ => { dir := .input, bank := .lanes, reset := .terminated }
  | .twRx _ _ => { dir := .input, bank := .lanes, reset := .terminated }
  | .lref _ => { dir := .input, bank := .pll, reset := .terminated }
  | .serCal _ => { dir := .analogue, bank := .serA, reset := .external }
  | .tref => { dir := .input, bank := .io18, reset := .input }
  | .hbOut .p => { dir := .output, bank := .io18, reset := .low }
  | .hbOut .n => { dir := .output, bank := .io18, reset := .high }
  | .hbIn _ => { dir := .input, bank := .io18, reset := .terminated }
  | .resetN => { dir := .input, bank := .io18, reset := .input, pull := .down }
  | .pwrgood => { dir := .input, bank := .io18, reset := .input, pull := .down }
  | .irqN => { dir := .openDrain, bank := .io18, reset := .released }
  | .svcClk => { dir := .input, bank := .io18, reset := .input, pull := .down }
  | .svcDi => { dir := .input, bank := .io18, reset := .input, pull := .down }
  | .svcCsN => { dir := .input, bank := .io18, reset := .input, pull := .up }
  | .svcDo => { dir := .output, bank := .io18, reset := .undriven }
  | .tck => { dir := .input, bank := .io18, reset := .input, pull := .down }
  | .trstN => { dir := .input, bank := .io18, reset := .input, pull := .down }
  | .tms => { dir := .input, bank := .io18, reset := .input, pull := .up }
  | .tdi => { dir := .input, bank := .io18, reset := .input, pull := .up }
  | .tdo => { dir := .output, bank := .io18, reset := .undriven }
  | .bootMode _ => { dir := .input, bank := .io18, reset := .input, pull := .down }
  | .netpriv => { dir := .input, bank := .io18, reset := .input, pull := .down }
  | .roleSel => { dir := .input, bank := .io18, reset := .input, pull := .down }
  | .vsel _ => { dir := .input, bank := .io18, reset := .input, pull := .down }
  | .encA _ => { dir := .input, bank := .io33, reset := .input, pull := .up }
  | .encB _ => { dir := .input, bank := .io33, reset := .input, pull := .up }
  | .encZ _ => { dir := .input, bank := .io33, reset := .input, pull := .up }
  | .hall _ => { dir := .input, bank := .io33, reset := .input, pull := .up }
  | .ssnDat _ => { dir := .input, bank := .io33, reset := .input, pull := .up }
  | .pmbAlertN => { dir := .input, bank := .io33, reset := .input, pull := .up }
  | .ssnClk _ => { dir := .output, bank := .io33, reset := .undriven, pull := .up }
  | .pioI _ => { dir := .input, bank := .io33, reset := .input, pull := .down }
  | .ppsIn => { dir := .input, bank := .io33, reset := .input, pull := .down }
  | .pioO _ => { dir := .output, bank := .io33, reset := .undriven, pull := .keeper }
  | .ppsOut => { dir := .output, bank := .io33, reset := .low }
  | .sluiceOut => { dir := .output, bank := .io33, reset := .low }
  | .sluiceIn => { dir := .input, bank := .io33, reset := .input }
  | .thermN => { dir := .openDrain, bank := .io33, reset := .released }
  | .faultN => { dir := .openDrain, bank := .io33, reset := .released }
  | .pmbClk => { dir := .openDrain, bank := .io33, reset := .released }
  | .pmbDat => { dir := .openDrain, bank := .io33, reset := .released }
  | .camPclk x => { dir := .input, bank := .cam x, reset := .input }
  | .camFv x => { dir := .input, bank := .cam x, reset := .input }
  | .camLv x => { dir := .input, bank := .cam x, reset := .input }
  | .camDv x => { dir := .input, bank := .cam x, reset := .input }
  | .camD x _ => { dir := .input, bank := .cam x, reset := .input }
  | .camTrig x => { dir := .output, bank := .cam x, reset := .undriven }

end Sys2Proof.Machine
end

