-- ==== Sys2Proof/WellFormed.lean ====
section
/-!
DEFINITION. Well-formed commands: what an operand must satisfy beside its type. The operand types carry every bound on
bars, lanes, tiles, channels, sessions, ports and field widths; a check here ties operands to each other or bounds a
list. A command that fails its check describes no act of the outside that the manual knows; the machine runs it all
the same.
-/
namespace Sys2Proof

/-- A BUILD step: DRAM training reports a margin word for each of the eight subchannels (R663). -/
def buildOk : BuildResult → Bool
  | .calibrated _ => true
  | .sram _ _ _ => true
  | .dram _ margins => decide (margins.length = 8)
  | .fabric _ _ => true
  | .initialised _ => true

/-- A DELTA: a nozzle entry and a nozzle column exist, an address is a word address (R33, R300, R584, R588). -/
def deltaOk : Delta → Bool
  | .mirror addr _ => decide (addr.toNat % 4 = 0)
  | .nozzle _ index _ _ _ => decide (index.toNat < 422400)
  | .reading r => decide (r.col.toNat < 4800)
  | .consumed _ => true
  | .session _ _ _ _ _ _ => true

/-- Whether a command is well formed. -/
def Instr.wellFormed (i : Instr) : Bool :=
  match i with
  | .buildStepComplete _t r => buildOk r
  | .svcAbort _t req nbits => decide (nbits < 8 * req.length)
  | .ssnWordReceive t _sensor w => decide (w.first.toNat ≤ t.toNat)
  | .dramCommandSlot _t _sc wr rd => decide (wr.length = 8) && decide (rd.length = 8)
  | .freezeReleaseDone _t _fail margins => decide (margins.length = 8)
  | .twinHeart _t _lane _crcOk h => decide (h.committed = [] ∨ h.committed.length = 8)
  | .twinSum _t _crcOk _bar _first sums => !sums.isEmpty
  | .twinDelta _t _crcOk _seq d => deltaOk d
  | .avsInterval _t _mv _i failures pec => decide (pec.val ≤ failures.val)
  | .pmbAlert _t _st failures pec => decide (pec.val ≤ failures.val)
  | .avsOverrideWrite _t _m _v failures pec => decide (pec.val ≤ failures.val)
  | .pwrgoodRise .. => true
  | .pwrgoodFall .. => true
  | .resetNFall .. => true
  | .resetNRise .. => true
  | .loadStepComplete .. => true
  | .enterReady .. => true
  | .registerWrite .. => true
  | .auditSpillCopy .. => true
  | .blockReset .. => true
  | .eventClear .. => true
  | .applyCommit .. => true
  | .applyDiscard .. => true
  | .mailboxSnapshot .. => true
  | .mailboxWrite .. => true
  | .svcRead .. => true
  | .svcWrite .. => true
  | .svcUnknownOp .. => true
  | .hostFrameReceive .. => true
  | .pauseReceive .. => true
  | .pauseEnd .. => true
  | .hostLaneUp .. => true
  | .hostLaneDown .. => true
  | .hostLaneReconfig .. => true
  | .ingestDrain .. => true
  | .creditPeriodic .. => true
  | .yrtOpen .. => true
  | .yrtProve .. => true
  | .proveTimeout .. => true
  | .authfailHoldExpiry .. => true
  | .yrtClose .. => true
  | .yrtData .. => true
  | .yrtRegreq .. => true
  | .yrtRead .. => true
  | .yrtNakReceive .. => true
  | .yrtAckReceive .. => true
  | .yrtInvalidFrame .. => true
  | .gapNakRepeat .. => true
  | .yrtRetransmitTimeout .. => true
  | .delayedAck .. => true
  | .sessionIdleTimeout .. => true
  | .sessionCloseCmd .. => true
  | .otpChangeGo .. => true
  | .otpRecordDone .. => true
  | .ptpSyncReceive .. => true
  | .ptpFollowUpReceive .. => true
  | .ptpDelayRespReceive .. => true
  | .ptpAnnounceReceive .. => true
  | .delayReqSend .. => true
  | .followUpTimeout .. => true
  | .syncTimeout .. => true
  | .announceTimeout .. => true
  | .delayRespTimeout .. => true
  | .ppsInEdge .. => true
  | .ppsMissTimeout .. => true
  | .timeArm .. => true
  | .timeFree .. => true
  | .timeModeChange .. => true
  | .hostTimeStep .. => true
  | .hostRateWrite .. => true
  | .tickConvert .. => true
  | .trefLoss .. => true
  | .ppsOutPulseStart .. => true
  | .ppsOutPulseEnd .. => true
  | .captureCellEdge .. => true
  | .frameLaunch .. => true
  | .posEdgeCapture .. => true
  | .edgeHoldExpiry .. => true
  | .standstillTimeout .. => true
  | .standstillDeclare .. => true
  | .stretchWindow .. => true
  | .ssnRequest .. => true
  | .ssnWordTimeout .. => true
  | .clearEncoderFault .. => true
  | .clearHallFault .. => true
  | .clearSsnFault .. => true
  | .posEnableWrite .. => true
  | .posX0Write .. => true
  | .commandRecordWait .. => true
  | .jobRecord .. => true
  | .haltRecord .. => true
  | .resumeRecord .. => true
  | .abortRecord .. => true
  | .endRecord .. => true
  | .hostHalt .. => true
  | .hostResume .. => true
  | .hostAbort .. => true
  | .jobStart .. => true
  | .jobEnd .. => true
  | .basinEnable .. => true
  | .basinDisable .. => true
  | .basinConsume .. => true
  | .bandLand .. => true
  | .decodeLine .. => true
  | .lineDue .. => true
  | .cmpStart .. => true
  | .cmpResume .. => true
  | .cmpAbort .. => true
  | .cmpSave .. => true
  | .cmpRestore .. => true
  | .cmpSaveDone .. => true
  | .cmpRestoreDone .. => true
  | .cmpBlockDone .. => true
  | .mapBarLine .. => true
  | .nozzleTableWrite .. => true
  | .thresholdTableWrite .. => true
  | .fireFrameSend .. => true
  | .paceFrameLaunch .. => true
  | .tileStatus .. => true
  | .tempStale .. => true
  | .inspectionMarkStart .. => true
  | .inspectionMarkEnd .. => true
  | .tileCap .. => true
  | .tileLinkReport .. => true
  | .timeEcho .. => true
  | .otherDeviceFrame .. => true
  | .laneBringup .. => true
  | .laneLock .. => true
  | .laneLockLoss .. => true
  | .rateSwitchTimeout .. => true
  | .trainDwellEnd .. => true
  | .laneUp .. => true
  | .timeSyncSend .. => true
  | .timeProbeSend .. => true
  | .epochSend .. => true
  | .idleSend .. => true
  | .idlePrbsSend .. => true
  | .chainBreak .. => true
  | .measIssue .. => true
  | .measResult .. => true
  | .measTimeout .. => true
  | .hlthRebase .. => true
  | .hlthClrsum .. => true
  | .warmupCheck .. => true
  | .sbBacked .. => true
  | .sbReturning .. => true
  | .sbRetry .. => true
  | .sbRearmCmd .. => true
  | .camLineComplete .. => true
  | .camFrameStart .. => true
  | .camPclkLoss .. => true
  | .camTrigger .. => true
  | .camSoftwareTrigger .. => true
  | .camTriggerPulseEnd .. => true
  | .pipelineLine .. => true
  | .camTableSwap .. => true
  | .loopCycle .. => true
  | .loopRelearn .. => true
  | .loopResetint .. => true
  | .loopRebase .. => true
  | .weirPeriodStart .. => true
  | .weirAdmit .. => true
  | .weirFloorOverride .. => true
  | .dramReadData .. => true
  | .caParityError .. => true
  | .refreshIntervalEnd .. => true
  | .retrainStepDone .. => true
  | .scrubRead .. => true
  | .pageIdlePrecharge .. => true
  | .freezeRelease .. => true
  | .sramScrub .. => true
  | .chkTapByte .. => true
  | .chkPreset .. => true
  | .chkEnable .. => true
  | .chkValueWrite .. => true
  | .twinHello .. => true
  | .twinFetch .. => true
  | .twinRelay .. => true
  | .twinAlign .. => true
  | .twinAlignCmd .. => true
  | .deltaGapTimeout .. => true
  | .heartbeatIssue .. => true
  | .heartbeatPathSilent .. => true
  | .takeover .. => true
  | .sluiceWaitTimeout .. => true
  | .sluiceInFence .. => true
  | .sluiceMonostableExpiry .. => true
  | .hostRelease .. => true
  | .twinHandover .. => true
  | .twinHealthPeriod .. => true
  | .twinLaneLock .. => true
  | .thermalSample .. => true
  | .thermalLimitWrite .. => true
  | .avsEnable .. => true
  | .pioInputTransition .. => true
  | .pioEdgeAccept .. => true
  | .hbInPulse .. => true
  | .trefReturn .. => true
  | .camPclkReturn .. => true
  | .camFrameEnd .. => true
  | .laneHuntTimeout .. => true
  | .prbsFrameReceive .. => true
  | .adaptationStep .. => true
  | .helloSend .. => true
  | .vio33Rise .. => true

end Sys2Proof
end

