-- ==== Sys2Proof/Tests/Slice0.lean ====
section
/-!
SUPPORT. Tests of this model: ill-formed commands refused by each check of WellFormed, a few values of the manual, and for
every statement with hypotheses a witness that meets them.
-/
open Sys2Proof Sys2Proof.Machine

/-! ### Each check of WellFormed refuses an ill-formed command -/

theorem test_wf_dram_margins : (Instr.buildStepComplete 0#80 (.dram none [0#32])).wellFormed = false := by decide
theorem test_wf_abort_length : (Instr.svcAbort 0#80 [0#8] 8).wellFormed = false := by decide
theorem test_wf_ssn_word_tick :
    (Instr.ssnWordReceive 4#80 0 ⟨5#80, true, 0#40, false, false, 0#16⟩).wellFormed = false := by decide
theorem test_wf_slot_writes : (Instr.dramCommandSlot 0#80 0 [] (List.replicate 8 0)).wellFormed = false := by decide
theorem test_wf_slot_reads : (Instr.dramCommandSlot 0#80 0 (List.replicate 8 0) []).wellFormed = false := by decide
theorem test_wf_release_margins : (Instr.freezeReleaseDone 0#80 none []).wellFormed = false := by decide
theorem test_wf_heart_slots : (Instr.twinHeart 0#80 0 true ⟨0#80, 0#32, 0#32, 0#80, [0#48], 0#64, 0#4⟩).wellFormed = false := by decide
theorem test_wf_sum_empty : (Instr.twinSum 0#80 true 0 0#48 []).wellFormed = false := by decide
theorem test_wf_delta_address : (Instr.twinDelta 0#80 true 0#32 (.mirror 2#24 0#32)).wellFormed = false := by decide
theorem test_wf_delta_nozzle :
    (Instr.twinDelta 0#80 true 0#32 (.nozzle 0 (BitVec.ofNat 19 422400) 0#32 0#32 0#48)).wellFormed = false := by decide
theorem test_wf_delta_column : (Instr.twinDelta 0#80 true 0#32 (.reading ⟨0, 0, 0, 4800#13, 0#16, 0#16⟩)).wellFormed = false := by decide
theorem test_wf_avs_pec : (Instr.avsInterval 0#80 0#10 0#16 1 2).wellFormed = false := by decide
theorem test_wf_alert_pec : (Instr.pmbAlert 0#80 0#16 1 2).wellFormed = false := by decide
theorem test_wf_override_pec : (Instr.avsOverrideWrite 0#80 .svc 0#32 1 2).wellFormed = false := by decide
theorem test_wf_accepts : (Instr.twinDelta 0#80 true 0#32 (.mirror 4#24 0#32)).wellFormed = true := by decide

/-! ### Values of the manual -/

/-- The worked example of R74: flag 5 remembers 0x42, flag 3 remembers 0x43. A write of 0x41000028 clears neither. -/
theorem test_clear_older_seq : (Hdr.clear { flags := 0x28#24, seq := 0x43#8, rem := [(3, 0x43#8), (5, 0x42#8)] }
    0x41000028).flags = 0x28#24 := by decide
/-- A write with the newest SEQ clears both (R74). -/
theorem test_clear_newest_seq : (Hdr.clear { flags := 0x28#24, seq := 0x43#8, rem := [(3, 0x43#8), (5, 0x42#8)] }
    0x43000028).flags = 0x0#24 := by decide
/-- RESET_N falling in READY enters RESET (R25). -/
theorem test_reset_state :
    ({ State.reset with dev := { State.reset.dev with state := .ready } } : State).resetLow.dev.state = .reset := by decide
/-- It counts in SYS_RSTCNT (R659). -/
theorem test_reset_counts :
    ({ State.reset with dev := { State.reset.dev with state := .ready } } : State).resetLow.rd pgSYS R.SYS_RSTCNT_PIN = 1 := by
  decide
/-- A step takes the command at the front and leaves the rest. -/
theorem test_step_takes_front : (match step { State.reset with pending := [.pwrgoodFall 0#80, .vio33Rise 0#80] } with
    | .next w => w.pending | _ => []) = [.vio33Rise 0#80] := rfl
/-- The worked example of R633: tile lane 27 transmits at AD56 and AD55 and receives at AD53 and AD52. -/
theorem test_lane27_balls : [ballName 23 56, ballName 23 55, ballName 23 53, ballName 23 52] =
    ["AD56", "AD55", "AD53", "AD52"] ∧
    [Signal.tlTx 27 .p, .tlTx 27 .n, .tlRx 27 .p, .tlRx 27 .n].map signalBall = [(23, 56), (23, 55), (23, 53), (23, 52)] := by
  decide
/-- The worked examples of R630 and R631: AK30 is VCORE, BE8 is VSER_A and C12 is VSS. -/
theorem test_default_nets : [netOf 29 30, netOf 43 8, netOf 3 12] = [.vcore, .vserA, .vss] := by decide +kernel
/-- The package has 323 signal balls (R633). -/
theorem test_signal_count : allSignals.length = 323 := by decide +kernel

/-! ### States of the witnesses -/

/-- A state in a device state, from reset, with SYS_START at its end. -/
def stIn (d : DevState) : State := { State.reset with dev := { State.reset.dev with state := d } }
/-- A witness of a condition on a state whose counter does not run. -/
theorem possible_of {cond : State → Prop} (s : State) (h : cond (s.atTick 0#80)) : Possible cond := ⟨0#80, s, h⟩
/-- The four host lanes are up. -/
def hostUp (s : State) : State :=
  (((s.wr (pgHLNK 0) R.HLNK_STAT_UP 1).wr (pgHLNK 1) R.HLNK_STAT_UP 1).wr (pgHLNK 2) R.HLNK_STAT_UP 1).wr (pgHLNK 3)
    R.HLNK_STAT_UP 1
/-- A device of a pair with both twin lanes up. -/
def stPair (d : DevState) (sel : Nat) : State :=
  { (((stIn d).wr pgTWIN R.TWIN_STAT_LANE0 1).wr pgTWIN R.TWIN_STAT_LANE1 1).wr pgSYS R.SYS_STRAP_ROLE_SEL sel with
    twin := { State.reset.twin with paired := true, pairedId := 1 } }
/-- A band of four lines with one segment for channel 0 of bar 0, one column of 1 bit. -/
def bandW : Band :=
  { number := 0, first := 0, nlines := 4, pos := 0, len := 128, hist := false, last := false, bad := false, gone := false,
    segs := [{ bar := 0, chain := 0, colStart := 0, colCount := 1, off := 64, clen := 21, dcrc := 0, bad := false }] }
/-- A live job with that band. -/
def jobW : Job :=
  { id := 1, kind := 1, bars := 1, depth2 := false, lpi600 := false, basin := 0, lpb := 4, passes := 0, start := 0,
    passBytes := 0, xstart := 0, lines := 0, bands := [bandW] }
/-- A live job of unknown length. -/
def jobL (id : Nat) : Job := { jobW with id := id, bars := 1, kind := 1, bands := [] }
/-- A device in a job, with a bar of one tile. -/
def stJob (d : DevState) (j : JobsS) : State :=
  let s := ((((stIn d).wr (pgRAST 0) R.RAST_CTL_NTILES 1).wr (pgTLNK 0) R.TLNK_STAT_LSTATE 6).wr (pgRAST 0) (R.RAST_UOFF 0) 300)
  { ((s.wr (pgRAST 0) (R.RAST_UOFF 1) 200).wr (pgRAST 0) (R.RAST_UOFF 2) 100) with jobs := j }
/-- A tile-link frame of a lane with its CRC. -/
def frameW (type sub dest src n epoch : Nat) (pl : List Byte) : List Byte :=
  let body := leBytes (type + 16) 1 ++ leBytes (dest + 16 * src) 1 ++ leBytes sub 1 ++ leBytes n 1 ++ leBytes epoch 4 ++
    leBytes pl.length 2 ++ leBytes 0 6 ++ pl
  body ++ leBytes (crc32c body) 4

/-! ### Witnesses: the hypotheses of each statement are met -/

theorem witness_StepTakesFront : State.reset.pending = [] := by decide
theorem witness_StepKeepsSafe : State.reset.safe ∧ step State.reset = .next State.reset := by
  refine ⟨⟨fun h => absurd h (by decide), fun h => absurd h (by decide), fun h => absurd h (by decide)⟩, rfl⟩
theorem witness_MemoryLaws : Memory.wf [(3, 1#8)] = true := by decide
theorem witness_FlagSetting : pgSYS ≠ pgCHK ∧ 23 < 24 := by decide
theorem witness_FlagOrder : (pgSYS, 1, 0) ∈ ({ State.reset with raised := [(pgSYS, 1, 0)] } : State).raised ∧ 1 < 24 := by decide
theorem witness_EventRecordPlace :
    State.reset.canProduce (State.reset.head pgSYS).eventBasin 32 = false ∧
    (∀ n, 2 ^ 34 ≠ State.reset.basinAddr (State.reset.head pgSYS).eventBasin n) := by
  refine ⟨by decide, fun n => ?_⟩
  have h : State.reset.basinBase 24 = 0 ∧ State.reset.basinSize 24 = 2 ^ 12 := by decide
  simp only [State.basinAddr, show (State.reset.head pgSYS).eventBasin = 24 from by decide, h.1, h.2]
  omega
theorem witness_AfterKeeps :
    (State.reset.setHead pgSYS ((State.reset.head pgSYS).set 0)).flag pgSYS 0 = true ∧ sidePage (pageOf 72) = false := by
  decide
theorem witness_WriteChecks :
    pageKind (pageNo (0xFFF000#24).toNat) = none ∧
    (pageKind (pageNo (0x001080#24).toNat) = some (.priv, 0) ∧ (0x001080#24).toNat % 4 = 0 ∧
     Possible (fun u => u.pageAnswers .priv = true ∧ u.absent .priv 0 (pageOff (0x001080#24).toNat) true = false ∧
       ((Master.net 0 = .twin ∧ PageKind.priv.mirror = false) ∨
        (privOffset .priv (pageOff (0x001080#24).toNat) = true ∧ u.privileged (.net 0) = false) ∨
        (isHost (.net 0) = true ∧ PageKind.priv.mirror = true ∧ u.isStandby = true)))) ∧
    Possible (fun u => u.pageAnswers .priv = false ∨ u.absent .priv 0 (pageOff (0x001080#24).toNat) true = true) :=
  ⟨by decide, ⟨by decide, by decide, possible_of (stIn .ready) (by decide)⟩, possible_of .reset (by decide)⟩

theorem witness_SupplyPins :
    State.reset.dev.state ≠ .load ∧
    Possible (fun u => u.dev.state = .off ∧ u.dev.resetN = false) ∧
    Possible (fun u => u.dev.state = .off ∧ u.dev.resetN = true) ∧
    Possible (fun u => u.dev.state = .off) ∧ Possible (fun u => u.dev.state ≠ .off) ∧
    Possible (fun u => u.dev.state = .reset ∧ u.dev.pwrgood = true) :=
  ⟨by decide, possible_of (stIn .off) (by decide),
   possible_of { State.reset with dev := { state := .off, resetN := true } } (by decide),
   possible_of (stIn .off) (by decide), possible_of (stIn .ready) (by decide), possible_of .reset (by decide)⟩

/-- A state of start-up at a step. -/
def stAt (d : DevState) (n : Nat) : State := (stIn d).wr pgSYS R.SYS_START_STEP n
theorem witness_LoadSteps :
    Possible (fun u => u.dev.state = .load ∧ u.startStep = 1) ∧
    Possible (fun u => u.dev.state = .load ∧ u.startStep = 2 ∧ u.rd pgSYS R.SYS_STRAP_BOOT_MODE ≠ 2 ∧
      near100ppm 10001000 10000000 = true) ∧
    Possible (fun u => u.dev.state = .load ∧ u.startStep = 2 ∧ u.rd pgSYS R.SYS_STRAP_BOOT_MODE ≠ 2 ∧
      near100ppm 24997500 25000000 = true) ∧
    Possible (fun u => u.dev.state = .load ∧ u.startStep = 3) ∧
    Possible (fun u => u.dev.state = .load ∧ u.startStep = 4 ∧ u.otpBad = none ∧ u.part.calOk = true) ∧
    Possible (fun u => u.dev.state = .load ∧ u.startStep = 5) ∧
    Possible (fun u => u.dev.state = .load ∧ u.startStep = 6 ∧
      railOk (u.rdb pgSYS R.SYS_STRAP_CAMA_VSEL) 1980 = true ∧ railOk (u.rdb pgSYS R.SYS_STRAP_CAMB_VSEL) 1620 = true) :=
  ⟨possible_of (stAt .load 1) (by decide), possible_of (stAt .load 2) (by decide), possible_of (stAt .load 2) (by decide),
   possible_of (stAt .load 3) (by decide), possible_of (stAt .load 4) (by decide), possible_of (stAt .load 5) (by decide),
   possible_of (stAt .load 6) (by decide)⟩
theorem witness_BuildAndReady :
    Possible (fun u => u.dev.state = .build ∧ u.startStep = 7) ∧
    Possible (fun u => u.dev.state = .build ∧ (u.startStep = 8 ∨ u.startStep = 9) ∧ u.dev.sramOk = false) ∧
    Possible (fun u => u.dev.state = .build ∧ (u.startStep = 8 ∨ u.startStep = 9) ∧ u.dev.dramOk = false) ∧
    Possible (fun u => u.dev.state = .build ∧ u.startStep = 10 ∧ 46080 ≤ u.part.f1 ∧ 35750 ≤ u.part.fd1) ∧
    Possible (fun u => u.dev.state = .build ∧ u.startStep = 11) ∧
    Possible (fun u => u.dev.state = .linkup ∧ u.hostLanesUp = true ∧ u.pairMode = false) ∧
    Possible (fun u => u.dev.state = .linkup ∧ u.hostLanesUp = true ∧ u.pairMode = true ∧ u.twinUp 0 = true ∧
      u.twinUp 1 = true ∧ u.twin.paired = true ∧ u.pairRole ≠ .active) ∧
    Possible (fun u => u.dev.state = .linkup ∧ u.hostLanesUp = true ∧ u.pairMode = true ∧ u.twinUp 0 = true ∧
      u.twinUp 1 = true ∧ u.twin.paired = true ∧ u.pairRole = .active ∧ u.twin.sluiceIn = false) :=
  ⟨possible_of (stAt .build 7) (by decide), possible_of (stAt .build 8) (by decide),
   possible_of (stAt .build 9) (by decide), possible_of (stAt .build 10) (by decide),
   possible_of (stAt .build 11) (by decide), possible_of (hostUp ((stIn .linkup).wr pgTWIN R.TWIN_CFG_SOLO 1)) (by decide),
   possible_of (hostUp (stPair .linkup 1)) (by decide), possible_of (hostUp (stPair .linkup 0)) (by decide)⟩

theorem witness_PlainRegisterWrite :
    (findReg PageKind.dfl.regs (pageOff (BitVec.ofNat 24 (fieldAddr pgDFL R.DFL_CTL)).toNat)).isSome = true ∧
    Possible (fun u => u.accepts .svc (BitVec.ofNat 24 (fieldAddr pgDFL R.DFL_CTL)).toNat .dfl 0 = true) ∧
    Possible (fun u => u.accepts .svc (BitVec.ofNat 24 (fieldAddr (pgSC 7) R.DRAM_SCMARGIN)).toNat .sc 7 = true) ∧
    (findReg PageKind.yrt.regs (pageOff (BitVec.ofNat 24 (fieldAddr pgYRT R.YRT_CTL)).toNat)).isSome = true ∧
    Possible (fun u => u.takes .svc (BitVec.ofNat 24 (fieldAddr pgYRT R.YRT_CTL)).toNat .yrt 0 = true) ∧
    (findReg PageKind.ptpa.regs (pageOff (BitVec.ofNat 24 (fieldAddr pgPTPA R.PTPA_CTL)).toNat)).isSome = true ∧
    Possible (fun u => u.takes .svc (BitVec.ofNat 24 (fieldAddr pgPTPA R.PTPA_CTL)).toNat .ptpa 0 = true) ∧
    (((regAt (fieldAddr pgYRT R.YRT_TIMERS)).map fun d => decide (d.rws = 0 ∧ d.rw + d.cnt < 2 ^ 32)) = some true) ∧
    pageOff (BitVec.ofNat 24 (headAddr pgYRT 0x18)).toNat = 0x18 ∧
    Possible (fun u => u.takes .svc (BitVec.ofNat 24 (headAddr pgYRT 0x18)).toNat .yrt 0 = true) :=
  ⟨by decide, possible_of (stIn .ready) (by decide), possible_of (stIn .ready) (by decide), by decide,
   possible_of (stIn .ready) (by decide), by decide, possible_of (stIn .ready) (by decide), by decide, by decide,
   possible_of (stIn .ready) (by decide)⟩
theorem witness_EventClear : Possible (fun u => u.takes .svc (headAddr pgSYS 0x14) .sys 0 = true) :=
  possible_of (stIn .ready) (by decide)
theorem witness_BlockReset :
    Possible (fun u => u.takes .svc (headAddr pgYRT 0x08) .yrt 0 = true ∧ u.resetRefused .svc .yrt = false) ∧
    Possible (fun u => u.takes .svc (headAddr pgTIME 0x08) .time 0 = true ∧ u.resetRefused .svc .time = true) :=
  ⟨possible_of (stIn .ready) (by decide), possible_of (stIn .printing) (by decide)⟩
theorem witness_ShadowCommands :
    ApplyClass.ofCode ((0x0000000D#32).toNat % 8) = some .job ∧
    bitOf PageKind.fire.cap (8 + (0x0000000D#32).toNat % 8) = true ∧ bitOf (0x0000000D#32).toNat 3 = true ∧
    bitOf (0x0000000D#32).toNat 7 = false ∧ bitOf (0x0000000D#32).toNat 4 = false ∧
    Possible (fun u => u.takes .svc (headAddr (pgFIRE 0) 0x1C) .fire 0 = true ∧ PageKind.fire.mirror = false ∧
      (u.head (pgFIRE 0)).awaiting = none ∧ u.sourceIdle (pgFIRE 0) .job none = false) ∧
    Possible (fun u => u.takes .svc (headAddr (pgFIRE 0) 0x1C) .fire 0 = true ∧ PageKind.fire.mirror = false ∧
      (u.head (pgFIRE 0)).awaiting = some .job ∧ (u.head (pgFIRE 0)).late = none ∧
      u.sourceIdle (pgFIRE 0) .job none = false) ∧
    Possible (fun u => u.takes .svc (headAddr (pgFIRE 0) 0x1C) .fire 0 = true ∧ PageKind.fire.mirror = false) :=
  ⟨by decide, by decide, by decide, by decide, by decide, possible_of (stIn .printing) (by decide),
   possible_of ((stIn .printing).setHead (pgFIRE 0) { awaiting := some .job }) (by decide), possible_of (stIn .printing) (by decide)⟩
theorem witness_MailboxCommands :
    itemPriv .time (2#12).toNat = false ∧ PageKind.time.mirror = false ∧
    Possible (fun u => u.takes .svc (headAddr pgTIME 0x20) .time 0 = true ∧
      (u.itemUse .time (2#12).toNat = .readOnly ∨ u.itemUse .time (2#12).toNat = .readWrite)) ∧
    Possible (fun u => u.takes .svc (headAddr pgTIME 0x20) .time 0 = true ∧
      (u.itemUse .time (2#12).toNat = .writeOnly ∨ u.itemUse .time (2#12).toNat = .readWrite) ∧
      (u.itemWrite .time 0 (2#12).toNat (u.mbx pgTIME .svc).data.toNat).1 = true) :=
  ⟨by decide, by decide, possible_of (stIn .ready) (by decide), possible_of (stIn .ready) (by decide)⟩

/-- A state whose counter stands at 5. -/
def stLater : State := { stIn .ready with counter := 5#80 }
theorem witness_ServicePort :
    (let r := [3#8, 0#8, 0#8, 0#8, 0#8]
     let q := r ++ [BitVec.ofNat 8 (crc16 r / 256), BitVec.ofNat 8 (crc16 r)]
     byteAt q 0 = 3 ∧ svcLength q ≤ q.length ∧ beAt q (svcLength q - 2) 2 = crc16 (q.take (svcLength q - 2)) ∧
       requestCheck 3 (beAt q 1 3) (byteAt q 4) = 0) ∧
    (let r := [2#8, 0#8, 0#8, 0#8, 0#8, 1#8, 2#8, 3#8, 4#8]
     let q := r ++ [BitVec.ofNat 8 (crc16 r / 256), BitVec.ofNat 8 (crc16 r)]
     byteAt q 0 = 2 ∧ svcLength q ≤ q.length ∧ beAt q (svcLength q - 2) 2 = crc16 (q.take (svcLength q - 2)) ∧
       requestCheck 2 (beAt q 1 3) (byteAt q 4) = 0 ∧
       beAt (r ++ [0#8, 0#8]) (svcLength q - 2) 2 ≠ crc16 ((r ++ [0#8, 0#8]).take (svcLength q - 2))) ∧
    (let r := [7#8, 0#8, 0#8, 0#8, 0#8]
     let q := r ++ [BitVec.ofNat 8 (crc16 r / 256), BitVec.ofNat 8 (crc16 r)]
     byteAt q 0 ≠ 2 ∧ byteAt q 0 ≠ 3 ∧ svcLength q ≤ q.length ∧
       beAt q (svcLength q - 2) 2 = crc16 (q.take (svcLength q - 2))) ∧
    8 < 8 * svcLength [3#8, 0#8, 0#8, 0#8, 0#8] ∧ Possible (fun u => u.svcAlive = true) :=
  ⟨by decide +kernel, by decide +kernel, by decide +kernel, by decide, possible_of (stIn .ready) (by decide)⟩
theorem witness_OtpSessionsSpill :
    Possible (fun u => u.accepts .svc (fieldAddr pgPRIV R.PRIV_OTPCMD) .priv 0 = true ∧
      u.pending.any (otpDoneAt u.now) = false ∧ u.rdb pgPRIV R.PRIV_OTPSTAT_BUSY = false ∧
      (u.otpStaged (0#4).toNat).2 = false ∧ ¬ ((0#4).toNat = 1 ∧ barMapBad (u.otpStaged (0#4).toNat).1 = true) ∧
      u.rd pgPRIV (otpLeftFld (0#4).toNat) ≠ 0) ∧
    Possible (fun u => u.priv.otp = some { setting := 0, value := 1, master := 0, start := 3 } ∧ 3 < u.now) ∧
    Possible (fun u => u.accepts .svc (fieldAddr pgPRIV R.PRIV_SESSCLOSE) .priv 0 = true ∧ (u.session 2).open_ = true) ∧
    Possible (fun u => (u.ring .defect).unsp = 4 :: [] ∧ u.spillOn .defect = true ∧
      u.canProduce (u.rd (ringCfg .defect).1 (ringCfg .defect).2.2.1) ((mfind (u.ring .defect).slots 4).getD []).length =
        true) :=
  ⟨possible_of ((stIn .ready).wr pgPRIV R.PRIV_PAIRSTG 1) (by decide),
   possible_of { stLater with priv := { stLater.priv with otp := some { setting := 0, value := 1, master := 0, start := 3 } } }
     (by decide),
   possible_of ((stIn .ready).setSession 2 { open_ := true }) (by decide),
   possible_of ((((stIn .ready).wr pgFIREC R.FIRE_DEFCTL_SPILL 1).wr pgFIREC R.FIRE_DEFCTL_BASIN 24).wr pgBASNW
     (R.BASN_RCFG_EN 24) 1 |>.setRing .defect { slots := [(4, [1#8])], next := 5, unsp := [4] }) (by decide)⟩

/-- PTPA is enabled, port 7 is selected, and a second has passed. -/
def stPtp : State :=
  { (stIn .ready).setHead pgPTPA { en := true } with counter := 16000000000#80, ptp := { port := some 7 } }
/-- A message of the selected port. -/
def msgOf (two : Bool) : PtpMsg :=
  { lane := 0, dst := 0x011B19000000#48, version := 2#4, minor := 1#4, majorSdo := 0#4, domain := 0#8, tags := 0,
    source := 7#80, seq := 3#16, twoStep := two, correction := 0#64, seconds := 1#48, nanos := 0#32, logInterval := 0#8,
    requesting := BitVec.ofNat 80 stPtp.portIdentity, grandmaster := 9#64 }
/-- A Sync whose t1 is known. -/
def syncW : SyncRx := { seq := 1, at_ := 0, corr := 0, t2 := 4, base := some 2 }
/-- A delay exchange without its Delay_Resp. -/
def dreqW : DelayX := { seq := 3, at_ := 1, t3 := 5, sync := some syncW }
theorem witness_PtpMessages :
    Possible (fun u => u.early = [] ∧ u.enabled pgPTPA = true ∧ u.ptpProfile (msgOf false) = true ∧
      u.fromMaster (msgOf false) = true) ∧
    Possible (fun u => u.early = [] ∧ u.enabled pgPTPA = true ∧ u.ptpProfile (msgOf true) = true ∧
      u.fromMaster (msgOf true) = true) ∧
    Possible (fun u => u.early = [] ∧ u.enabled pgPTPA = true ∧ u.ptpProfile (msgOf true) = true ∧
      u.fromMaster (msgOf true) = true ∧ u.ptp.waiting = [{ seq := 3, at_ := 16000000000, corr := 0, t2 := 0 }] ∧
      u.now < 16000000000 + ms 100) ∧
    Possible (fun u => u.early = [] ∧ u.enabled pgPTPA = true ∧ u.ptpProfile (msgOf false) = true ∧
      u.fromMaster (msgOf false) = true ∧ (msgOf false).requesting.toNat = u.portIdentity ∧
      u.ptp.dreqs = [dreqW] ∧
      u.ptp.samples = []) ∧
    Possible (fun u => u.enabled pgPTPA = true ∧ u.ptpProfile (msgOf false) = true ∧
      u.ptp.port = some (msgOf false).source.toNat ∧ (msgOf false).grandmaster.toNat ≠ u.ptp.grandmaster ∧ u.tstate ≠ 3) ∧
    Possible (fun u => u.enabled pgPTPA = true ∧ u.ptpProfile (msgOf false) = true ∧ u.ptp.port = none ∧
      u.rdb pgPTPA R.PTPA_CTL_LEARN = true ∧ u.tstate ≠ 3) ∧
    Possible (fun u => u.early = [] ∧ u.enabled pgPTPA = true ∧
      (u.ptpProfile (msgOf false) && u.fromMaster (msgOf false)) = false) ∧
    (let s : State := { stPtp with ptp := { samples := [3] } }
     s.ptp.dreqs = [] ∧ s.ptpDelay = some 3 ∧ s.rdb pgTIME R.TIME_CTL_SRC = false) ∧
    (let s := (stPtp.wr pgTIME R.TIME_CTL_MODE 1).wr pgTIME R.TIME_STAT_TSTATE 3
     s.rdb pgTIME R.TIME_CTL_MODE = true ∧ s.tstate = 3 ∧ (16 : Int).natAbs ≤ s.jumpThr) :=
  ⟨possible_of stPtp (by decide), possible_of stPtp (by decide),
   possible_of { stPtp with ptp := { port := some 7, waiting := [{ seq := 3, at_ := 16000000000, corr := 0, t2 := 0 }] } }
     (by decide),
   possible_of { stPtp with ptp := { port := some 7, dreqs := [dreqW] } } (by decide),
   possible_of stPtp (by decide),
   possible_of ({ stPtp with ptp := {} } |>.wr pgPTPA R.PTPA_CTL_LEARN 1) (by decide),
   possible_of { stPtp with ptp := { port := some 8 } } (by decide), by decide, by decide⟩
theorem witness_PtpTimers :
    Possible (fun u => u.enabled pgPTPA = true) ∧
    Possible (fun u => u.ptp.waiting = [{ seq := 3, at_ := 0, corr := 0, t2 := 0 }] ∧ 0 + ms 100 ≤ u.now) ∧
    Possible (fun u => u.enabled pgPTPA = true ∧ u.rdb pgTIME R.TIME_CTL_SRC = false ∧ u.ptp.syncRef = some 0 ∧
      0 + ms (atLeast1 (u.rd pgPTPA R.PTPA_TMO_SYNC)) ≤ u.now) ∧
    Possible (fun u => u.enabled pgPTPA = true ∧ u.ptp.port = some 7 ∧ u.rdb pgPTPA R.PTPA_CTL_LEARN = true ∧
      u.ptp.annRef = some 0 ∧ 0 + ms (atLeast1 (u.rd pgPTPA R.PTPA_TMO_ANN)) ≤ u.now) ∧
    Possible (fun u => u.ptp.dreqs = [{ seq := 3, at_ := 0, t3 := 5, sync := none }] ∧ 0 + ms 1000 ≤ u.now) :=
  ⟨possible_of stPtp (by decide),
   possible_of { stPtp with ptp := { waiting := [{ seq := 3, at_ := 0, corr := 0, t2 := 0 }] } } (by decide),
   possible_of ({ stPtp with ptp := { syncRef := some 0 } } |>.wr pgPTPA R.PTPA_TMO_SYNC 1) (by decide),
   possible_of (({ stPtp with ptp := { port := some 7, annRef := some 0 } } |>.wr pgPTPA R.PTPA_TMO_ANN 1).wr pgPTPA
     R.PTPA_CTL_LEARN 1) (by decide),
   possible_of { stPtp with ptp := { dreqs := [{ seq := 3, at_ := 0, t3 := 5, sync := none }] } } (by decide)⟩
theorem witness_PpsAndCaptures :
    Possible (fun u => u.early = [] ∧ true ≠ u.rdb pgTIME R.TIME_PPSCTL_INEDGE ∧ u.rdb pgTIME R.TIME_CTL_SRC = false) ∧
    Possible (fun u => u.rdb pgTIME R.TIME_CTL_SRC = true ∧ u.time.ppsRef + ms 1500 ≤ u.now) ∧
    Possible (fun u => u.time.ppsNext = some 1 ∧ u.rdb pgTIME R.TIME_PPSCTL_OUTEN = true ∧
      ((1 * secUnits : Nat) : Int) ≤ u.netTime u.now ∧ u.time.ppsOut = false) ∧
    Possible (fun u => u.time.ppsOut = true ∧ u.time.ppsEnd ≤ u.now) ∧
    Possible (fun u => capSource (1#6).toNat = true ∧ u.rd pgTIME (R.TIME_CAPSRC_SRC (7 : Fin 8).val) = (1#6).toNat ∧
      u.rd pgTIME (R.TIME_CAPSRC_EDGE (7 : Fin 8).val) = 0 ∧ bitOf (u.rd pgTIME R.TIME_CAPSTAT_NEW) (7 : Fin 8).val = false ∧
      ∀ k, k < 8 → k ≠ (7 : Fin 8).val → u.rd pgTIME (R.TIME_CAPSRC_SRC k) ≠ (1#6).toNat) :=
  ⟨possible_of stPtp (by decide),
   possible_of ({ stPtp with counter := 24000000000#80 } |>.wr pgTIME R.TIME_CTL_SRC 1) (by decide),
   possible_of (({ stPtp with time := { ppsNext := some 1 } } |>.wr pgTIME R.TIME_PPSCTL_OUTEN 1)) (by decide),
   possible_of { stPtp with time := { ppsOut := true } } (by decide),
   possible_of (stPtp.wr pgTIME (R.TIME_CAPSRC_SRC 7) 1) (by decide)⟩
theorem witness_TimeCommands :
    Possible (fun u => u.accepts .svc (fieldAddr pgTIME R.TIME_CTL) .time 0 = true ∧ u.samplesFirst.inJob = false ∧
      bitOf (withBit 0#32 R.TIME_CTL_ARM).toNat 5 = false ∧
      bitOf (u.samplesFirst.rd pgTIME R.TIME_CTL) 0 = bitOf (withBit 0#32 R.TIME_CTL_ARM).toNat 0 ∧
      bitOf (u.samplesFirst.rd pgTIME R.TIME_CTL) 1 = bitOf (withBit 0#32 R.TIME_CTL_ARM).toNat 1) ∧
    Possible (fun u => u.takes .svc (fieldAddr pgTIME R.TIME_CTL) .time 0 = true ∧ u.samplesFirst.inJob = true ∧
      bitOf (withBit 0#32 R.TIME_CTL_ARM).toNat 5 = false ∧
      bitOf (u.samplesFirst.rd pgTIME R.TIME_CTL) 0 = bitOf (withBit 0#32 R.TIME_CTL_ARM).toNat 0 ∧
      bitOf (u.samplesFirst.rd pgTIME R.TIME_CTL) 1 = bitOf (withBit 0#32 R.TIME_CTL_ARM).toNat 1) ∧
    Possible (fun u => u.accepts .svc (fieldAddr pgTIME R.TIME_CTL) .time 0 = true ∧
      bitOf (u.samplesFirst.rd pgTIME R.TIME_CTL) 0 = bitOf (withBit 0#32 R.TIME_CTL_FREE).toNat 0 ∧
      bitOf (u.samplesFirst.rd pgTIME R.TIME_CTL) 1 = bitOf (withBit 0#32 R.TIME_CTL_FREE).toNat 1) ∧
    Possible (fun u => u.accepts .svc (fieldAddr pgTIME R.TIME_CTL) .time 0 = true ∧
      bitOf (u.samplesFirst.rd pgTIME R.TIME_CTL) 0 ≠ bitOf (1#32).toNat 0 ∧
      bitOf (u.samplesFirst.rd pgTIME R.TIME_CTL) 1 = bitOf (1#32).toNat 1) ∧
    (let s : State := { stPtp with pending := [.ptpSyncReceive 16000000000#80 (msgOf true)] }
     s.early = [] ∧ (16000000000#80).toNat = s.now) ∧
    ({ stPtp with early := [.ppsInEdge 0#80 true] } : State).early.contains (.ppsInEdge 0#80 true) = true ∧
    Possible (fun u => u.takes .svc (headAddr pgTIME 0x20) .time 0 = true ∧
      (u.mbxLoaded .svc pgTIME (5#128).toNat).rdb pgTIME R.TIME_CTL_MODE = false ∧
      (u.mbxLoaded .svc pgTIME (5#128).toNat).tstate = 1) :=
  ⟨possible_of (stIn .ready) (by decide), possible_of (stIn .printing) (by decide), possible_of (stIn .ready) (by decide),
   possible_of (stIn .ready) (by decide), by decide, by decide,
   possible_of ((stIn .ready).wr pgTIME R.TIME_STAT_TSTATE 1) (by decide)⟩
theorem witness_TrefAndLaunch :
    Possible (fun u => u.time.running = true ∧ u.rdb pgTIME R.TIME_STAT_TREFLOSS = false) ∧
    Possible (fun u => u.rdb pgTIME R.TIME_STAT_TREFLOSS = true) ∧
    Possible (fun u => (u.lane (47 - 44)).launch = [{ tick := 9, queued := 8, item := .frame [] }] ∧ 9 ≤ u.now ∧
      (u.lane (47 - 44)).pauseEnd ≤ u.now ∧ 8 < 9) ∧
    Possible (fun u => (u.lane (44 - 44)).launch = [{ tick := 9, queued := 9, item := .frame [] }] ∧ 9 ≤ u.now ∧
      (u.lane (44 - 44)).pauseEnd ≤ u.now ∧ 9 ≤ 9) :=
  ⟨⟨0#80, { State.reset with time := { running := true } }, by decide⟩,
   possible_of (stPtp.wr pgTIME R.TIME_STAT_TREFLOSS 1) (by decide),
   possible_of (stPtp.setLane 3 { launch := [{ tick := 9, queued := 8, item := .frame [] }] }) (by decide),
   possible_of (stPtp.setLane 0 { launch := [{ tick := 9, queued := 9, item := .frame [] }] }) (by decide)⟩

/-- A YRT frame of the host with MAC address 1. -/
def yrtOf (type sess flags seq basin off : Nat) (p : List Byte) : List Byte :=
  let b := leBytes 1 1 ++ leBytes type 1 ++ leBytes sess 1 ++ leBytes flags 1 ++ leBytes seq 4 ++ leBytes 0 4 ++
    leBytes p.length 2 ++ leBytes basin 1 ++ leBytes 0 1 ++ leBytes off 8 ++ p
  zeros 6 ++ beBytes 1 6 ++ beBytes (State.reset.rd pgYRT R.YRT_CTL_ETYPE) 2 ++ b ++ leBytes (crc32c b) 4
/-- Session 2 is open on lane 1, and a frame of it has left the FIFO. -/
def stYrt (f : List Byte) : State :=
  ((stIn .ready).setSession 2 { open_ := true, lane := 1, mac := 1 }).setLane 1 { rx := [{ bytes := f, yrt := 64 }] }
/-- Lane 1 is up with a frame of 64 bytes of YRT in its FIFO. -/
def stFifo : State :=
  (((stIn .ready).wr (pgHLNK 1) R.HLNK_STAT_UP 1).setHead pgYRT { en := true }).setLane 1
    { fifo := [{ bytes := [], yrt := 40 }] }
/-- A frame of 64 bytes and its FCS. -/
def fr64 : List Byte :=
  let f := zeros 12 ++ beBytes (State.reset.rd pgYRT R.YRT_CTL_ETYPE) 2 ++ zeros 46
  f ++ leBytes (fcs32 f) 4
theorem witness_HostLanes :
    (64 ≤ fr64.length ∧ leAt fr64 (fr64.length - 4) 4 = fcs32 (fr64.take (fr64.length - 4))) ∧
    Possible (fun u => u.rdb (pgHLNK 1) R.HLNK_STAT_UP = true ∧ fr64.length ≤ u.maxFrame 1 ∧
      etherType (fr64.take (fr64.length - 4)) = u.rd pgYRT R.YRT_CTL_ETYPE ∧ u.enabled pgYRT = true ∧
      (u.setLane 1 { u.lane 1 with yrtRx := (u.lane 1).yrtRx + yrtBytes (fr64.take (fr64.length - 4)) }).fifoLevel 1 +
        yrtBytes (fr64.take (fr64.length - 4)) ≤ 131072) ∧
    Possible (fun u => u.rdb (pgHLNK 1) R.HLNK_STAT_UP = true ∧ u.rdb (pgHLNK 1) R.HLNK_CTL_PAUSEEN = true) ∧
    Possible (fun u => u.rdb (pgHLNK 1) R.HLNK_STAT_UP = true ∧ u.rdb (pgHLNK 1) R.HLNK_CTL_PAUSEEN = false) ∧
    Possible (fun u => u.rdb (pgHLNK 1) R.HLNK_STAT_PAUSED = true ∧ (u.lane 1).pauseEnd ≤ u.now) ∧
    Possible (fun u => u.pagesUp = true ∧ u.rdb (pgHLNK 0) R.HLNK_STAT_UP = false ∧
      (u.rd (pgHLNK 0) R.HLNK_CTL_MODE = 1 ∨ u.rd (pgHLNK 0) R.HLNK_CTL_MODE = 2)) ∧
    Possible (fun u => u.accepts .svc (fieldAddr (pgHLNK 3) R.HLNK_CTL) .hlnk 3 = true ∧
      u.rd (pgHLNK 3) R.HLNK_CTL % 16 ≠ (u.stored (pgHLNK 3) R.HLNK_CTL 0#32).rd (pgHLNK 3) R.HLNK_CTL % 16) :=
  ⟨by decide +kernel, possible_of stFifo (by decide +kernel), possible_of (stFifo.wr (pgHLNK 1) R.HLNK_CTL_PAUSEEN 1) (by decide),
   possible_of (stFifo.wr (pgHLNK 1) R.HLNK_CTL_PAUSEEN 0) (by decide), possible_of (stFifo.wr (pgHLNK 1) R.HLNK_STAT_PAUSED 1) (by decide),
   possible_of ((stIn .ready).wr (pgHLNK 0) R.HLNK_CTL_MODE 2) (by decide),
   possible_of ((stIn .ready).wr (pgHLNK 3) R.HLNK_CTL_MODE 1) (by decide)⟩
theorem witness_IngestAndAcks :
    Possible (fun u => (u.weirRoll.lane 1).fifo = [{ bytes := [], yrt := 40 }] ∧
      (40 - 0 + 3) / 4 ≤ (u.weirRoll.act (10 + 1)).level) ∧
    Possible (fun u => (u.weirRoll.lane 1).fifo = [{ bytes := [], yrt := 40 }] ∧
      (u.weirRoll.act (10 + 1)).level < (40 - 0 + 3) / 4) ∧
    (parseYrt []).kind = 0 ∧ Possible (fun u => (u.lane 1).rx = [{ bytes := [], yrt := 64 }]) ∧
    Possible (fun u => u.yrtFor 1 0x13 { bytes := yrtOf 0x13 2 0 0 0 0 [], yrt := 64 } []) ∧
    Possible (fun u => u.yrtFor 1 0x12 { bytes := yrtOf 0x12 2 0 0 0 0 [], yrt := 64 } []) ∧
    Possible (fun u => u.laneOpen 1 = true ∧ (u.lane 1).creditAt + us (atLeast1 (u.rd pgYRT R.YRT_TIMERS_CREDINT)) ≤ u.now) :=
  ⟨possible_of { stFifo with weir := { begun := true, acts := [(11, { level := 10 })] } } (by decide),
   possible_of { stFifo with weir := { begun := true, acts := [(11, { level := 9 })] } } (by decide), by decide,
   possible_of (stYrt []) (by decide),
   possible_of (stYrt (yrtOf 0x13 2 0 0 0 0 [])) (by unfold State.yrtFor; decide +kernel),
   possible_of (stYrt (yrtOf 0x12 2 0 0 0 0 [])) (by unfold State.yrtFor; decide +kernel),
   possible_of { ((stFifo.setSession 2 { open_ := true, lane := 1 }).setHead pgYRT { en := true }) with
     counter := 16000000#80 } (by decide)⟩
/-- A PROVE with the right proof. -/
def stProve : State :=
  let s := { stYrt [] with priv := { State.reset.priv with key := some 5#256 } }
  s.setSession 2 { open_ := true, lane := 1, mac := 1, nh := 3#128, nd := 4#128, chalStatus := 1, proving := true }
theorem witness_SessionHandshake :
    ((parseYrt (yrtOf 1 0 0 0 0 0 (zeros 20))).kind = 0x01 ∧
      bitOf (parseYrt (yrtOf 1 0 0 0 0 0 (zeros 20))).flags 2 = false) ∧
    Possible (fun u => (u.lane 1).rx = [{ bytes := yrtOf 1 0 0 0 0 0 (zeros 20), yrt := 64 }] ∧ u.listening = false ∧
      (List.range 8).find? (fun j => (u.session j).open_ && decide ((u.session j).lane = 1 ∧
        (u.session j).mac = (parseYrt (yrtOf 1 0 0 0 0 0 (zeros 20))).mac ∧
        (u.session j).nh = BitVec.ofNat 128 (leAt (parseYrt (yrtOf 1 0 0 0 0 0 (zeros 20))).payload 0 16))) = none ∧
      (List.range 8).find? (fun j => !(u.session j).open_) = some 0) ∧
    Possible (fun u =>
      let x : RxFrame := { bytes := yrtOf 3 2 0 0 0 0 (stProve.proof 2), yrt := 64 }
      let z := u.yrtTaken 1 x []
      u.yrtFor 1 0x03 x [] ∧ (z.session 2).chalStatus = 1 ∧ (z.session 2).grant = none ∧
      (z.session 2).proving = true ∧ z.now < (z.session 2).chalAt + ms 100 ∧ (parseYrt x.bytes).payload = z.proof 2) ∧
    Possible (fun u => (u.session 7).proving = true ∧ (u.session 7).chalAt + ms 100 ≤ u.now) ∧
    Possible (fun u => u.rdb pgPRIV R.PRIV_AUTHFAIL_HOLD = true ∧ u.priv.holdEnd ≤ u.now) ∧
    Possible (fun u => u.yrtInSeq 1 0x05 { bytes := yrtOf 5 2 0 0 0 0 [], yrt := 64 } []) :=
  ⟨by decide +kernel,
   possible_of ((stIn .ready).setLane 1 { rx := [{ bytes := yrtOf 1 0 0 0 0 0 (zeros 20), yrt := 64 }] }) (by decide +kernel),
   possible_of (stProve.setLane 1 { rx := [{ bytes := yrtOf 3 2 0 0 0 0 (stProve.proof 2), yrt := 64 }] })
     (by unfold State.yrtFor; decide +kernel),
   possible_of { (stIn .ready).setSession 7 { open_ := true, proving := true } with counter := 1600000000#80 } (by decide),
   possible_of ((stIn .ready).wr pgPRIV R.PRIV_AUTHFAIL_HOLD 1) (by decide),
   possible_of (stYrt (yrtOf 5 2 0 0 0 0 [])) (by unfold State.yrtInSeq State.yrtFor; decide +kernel)⟩
/-- A host basin 0 and an event basin 24 with 64 bytes are enabled. -/
def stBasins (f : List Byte) : State :=
  (((((stYrt f).wr pgBASNW (R.BASN_RCFG_EN 0) 1).wr pgBASNW (R.BASN_RCFG_EN 24) 1).wr pgBASNW (R.BASN_RCFG_USE 24) 2).setBasin
    24 { p := 64, c := 0 })
theorem witness_SequencedFrames :
    Possible (fun u => u.yrtInSeq 1 0x10 { bytes := yrtOf 0x10 2 0 0 0 0 (zeros 8), yrt := 64 } [] ∧
      (u.yrtTaken 1 { bytes := yrtOf 0x10 2 0 0 0 0 (zeros 8), yrt := 64 } []).dataReason
        (parseYrt (yrtOf 0x10 2 0 0 0 0 (zeros 8))) = 0) ∧
    Possible (fun u => u.yrtInSeq 1 0x10 { bytes := yrtOf 0x10 2 0 0 0 0 (zeros 7), yrt := 64 } [] ∧
      (u.yrtTaken 1 { bytes := yrtOf 0x10 2 0 0 0 0 (zeros 7), yrt := 64 } []).dataReason
        (parseYrt (yrtOf 0x10 2 0 0 0 0 (zeros 7))) = 5) ∧
    regreqFits (parseYrt (yrtOf 0x20 2 0 0 0 0 (leBytes 3 8))).payload = true ∧
    Possible (fun u => u.yrtInSeq 1 0x20 { bytes := yrtOf 0x20 2 0 0 0 0 (leBytes 3 8), yrt := 64 } []) ∧
    ((parseYrt (yrtOf 0x30 2 0 0 24 0 (leBytes 64 4))).payload.length = 4 ∧
      (parseYrt (yrtOf 0x30 2 0 0 24 0 (leBytes 64 4))).basin < 32 ∧
      leAt (parseYrt (yrtOf 0x30 2 0 0 24 0 (leBytes 64 4))).payload 0 4 ≠ 0) ∧
    Possible (fun u =>
      let x : RxFrame := { bytes := yrtOf 0x30 2 0 0 24 0 (leBytes 64 4), yrt := 64 }
      let y := parseYrt x.bytes
      let z := (u.yrtTaken 1 x []).advance y.sess
      u.yrtInSeq 1 0x30 x [] ∧ z.basinOn y.basin = true ∧ z.basinDev y.basin = true ∧ (z.basin y.basin).c ≤ y.offset ∧
        y.offset + leAt y.payload 0 4 ≤ (z.basin y.basin).p) :=
  ⟨possible_of (stBasins (yrtOf 0x10 2 0 0 0 0 (zeros 8))) (by unfold State.yrtInSeq State.yrtFor; decide +kernel),
   possible_of (stBasins (yrtOf 0x10 2 0 0 0 0 (zeros 7))) (by unfold State.yrtInSeq State.yrtFor; decide +kernel),
   by decide +kernel,
   possible_of (stYrt (yrtOf 0x20 2 0 0 0 0 (leBytes 3 8))) (by unfold State.yrtInSeq State.yrtFor; decide +kernel),
   by decide +kernel,
   possible_of (stBasins (yrtOf 0x30 2 0 0 24 0 (leBytes 64 4))) (by unfold State.yrtInSeq State.yrtFor; decide +kernel)⟩
/-- Session 2 is open after a while, and a frame of it is not yet acknowledged. -/
def stTimers (n : Nat) : State :=
  let k : Kept := { seq := 0, frame := [], sentAt := 0, retx := n, req := none }
  let x : Session := { open_ := true, gapNakAt := some 0, gapOpen := true, ackDue := some 0, kept := [k] }
  { stIn .ready with counter := 1600000000000#80, sess := [(2, x)] }
theorem witness_SessionTimers :
    Possible (fun u => (u.session 2).gapNakAt = some 0 ∧ (u.session 2).open_ = true ∧ (u.session 2).gapOpen = true ∧
      0 + u.nakTmo ≤ u.now) ∧
    Possible (fun u => (u.session 2).kept = [{ seq := 0, frame := [], sentAt := 0, retx := 0, req := none }] ∧
      max (u.session 2).ackMoved 0 + us (atLeast1 (u.rd pgYRT R.YRT_RTO_RTO)) ≤ u.now ∧
      0 < atLeast1 (u.rd pgYRT R.YRT_TIMERS_RETRYMAX)) ∧
    Possible (fun u => (u.session 2).kept = [{ seq := 0, frame := [], sentAt := 0, retx := 255, req := none }] ∧
      max (u.session 2).ackMoved 0 + us (atLeast1 (u.rd pgYRT R.YRT_RTO_RTO)) ≤ u.now ∧
      atLeast1 (u.rd pgYRT R.YRT_TIMERS_RETRYMAX) ≤ 255) ∧
    Possible (fun u => (u.session 2).ackDue = some 0 ∧ (u.session 2).open_ = true ∧ 0 ≤ u.now) ∧
    Possible (fun u => (u.session 2).open_ = true ∧
      (u.session 2).lastRx + ms (atLeast1 (u.rd pgPRIV R.PRIV_SESSTMO_MS)) ≤ u.now) :=
  ⟨possible_of (stTimers 0) (by decide), possible_of (stTimers 0) (by decide), possible_of (stTimers 255) (by decide),
   possible_of (stTimers 0) (by decide), possible_of (stTimers 0) (by decide)⟩

/-- Its state while printing: channel 0 is on, and the segment's stream is in basin 0, a stored block of 16 bytes. -/
def stDcp (x : Dcp) (len : Nat) : State :=
  { stIn .printing with
    jobs := { cur := some jobW, dcps := [(0, x)] },
    mem := memPuts [] 64 ([0#8] ++ leBytes len 2 ++ leBytes (65535 - len) 2 ++ List.replicate 16 1#8) }
theorem witness_Decompression :
    (jobW.join = false ∧ jobW.kind ≠ 2 ∧ jobW.total = none ∧ bandW.bad = false ∧ 0 + 1 ≠ bandW.nlines) ∧
    Possible (fun u => u.jobs.cur = some jobW ∧ (u.dcp 0).on = true ∧ u.jobLine jobW (u.dcp 0).next = some 0 ∧
      jobW.bandAt (u.dcp 0).next = some (bandW, 0) ∧ (bandW.seg 0).isSome = true ∧
      (0 - u.lead (0 / 5)) * 4096 ≤ u.ellHeld jobW (0 / 5)) ∧
    (inflate [] ((stDcp { on := true } 16).basinGet 0 64 21) 32 8).count = 8 ∧
    (inflate [] ((stDcp { on := true } 4).basinGet 0 64 21) 32 8).count < 8 ∧
    Possible (fun u => u.jobs.cur = some jobW ∧ (u.dcp 0).on = true ∧ u.jobLine jobW (u.dcp 0).due = some 0 ∧
      (0 - u.qLead (0 / 5) - u.dBar (0 / 5)) * 4096 ≤ u.ell jobW (0 / 5) ∧ (u.dcp 0).due < (u.dcp 0).next) ∧
    Possible (fun u => u.jobs.cur = some jobW ∧ (u.dcp 0).on = true ∧ u.jobLine jobW (u.dcp 0).due = some 0 ∧
      (0 - u.qLead (0 / 5) - u.dBar (0 / 5)) * 4096 ≤ u.ell jobW (0 / 5) ∧ (u.dcp 0).next ≤ (u.dcp 0).due) :=
  ⟨by decide, possible_of (stDcp { on := true } 16) (by decide +kernel), by decide +kernel, by decide +kernel,
   possible_of (stDcp { on := true, next := 1 } 16) (by decide +kernel),
   possible_of (stDcp { on := true } 16) (by decide +kernel)⟩
/-- A compressor channel in a state. -/
def stCmp (n st : Nat) : State :=
  ((stIn .ready).setCmp n { dst := 2 ^ 33, cap := 65536 }).wr pgCMP (R.DFL_CMPSTAT_STATE n) st
theorem witness_CompressorCommands :
    (∀ c, 12 < c → c ≤ 16 → bitOf (0#32).toNat c = false) ∧
    Possible (fun u =>
      let z := u.stored pgCMP (R.DFL_CMPCTL 7) (withBit 0#32 (R.DFL_CMPCTL_START 7))
      u.accepts .svc (fieldAddr pgCMP (R.DFL_CMPCTL 7)) .cmp 0 = true ∧
      (z.cmpState 7 = 0 ∨ z.cmpState 7 = 3 ∨ z.cmpState 7 = 6) ∧ z.cmpArgs 7 = 0 ∧
      (z.rdb pgCMP (R.DFL_CMPCTL_HIST 7) && z.rdb pgCMP (R.DFL_CMPSTAT_HISTVALID 7)) = false) ∧
    Possible (fun u => u.accepts .svc (fieldAddr pgCMP (R.DFL_CMPCTL 7)) .cmp 0 = true ∧
      (u.stored pgCMP (R.DFL_CMPCTL 7) (withBit 0#32 (R.DFL_CMPCTL_RESUME 7))).cmpState 7 = 2) ∧
    Possible (fun u => u.accepts .svc (fieldAddr pgCMP (R.DFL_CMPCTL 7)) .cmp 0 = true ∧
      ((u.stored pgCMP (R.DFL_CMPCTL 7) (withBit 0#32 (R.DFL_CMPCTL_ABORT 7))).cmpState 7 = 1 ∨
       (u.stored pgCMP (R.DFL_CMPCTL 7) (withBit 0#32 (R.DFL_CMPCTL_ABORT 7))).cmpState 7 = 2)) ∧
    Possible (fun u => u.accepts .svc (fieldAddr pgCMP (R.DFL_CMPCTL 7)) .cmp 0 = true ∧
      (u.stored pgCMP (R.DFL_CMPCTL 7) (withBit 0#32 (R.DFL_CMPCTL_SAVE 7))).cmpState 7 = 2) ∧
    Possible (fun u =>
      let z := u.stored pgCMP (R.DFL_CMPCTL 7) (withBit 0#32 (R.DFL_CMPCTL_RESTORE 7))
      u.accepts .svc (fieldAddr pgCMP (R.DFL_CMPCTL 7)) .cmp 0 = true ∧
      (z.cmpState 7 = 0 ∨ z.cmpState 7 = 3 ∨ z.cmpState 7 = 6)) :=
  ⟨fun c _ _ => by simp [bitOf], possible_of (stCmp 7 0) (by decide +kernel), possible_of (stCmp 7 2) (by decide +kernel),
   possible_of (stCmp 7 1) (by decide +kernel), possible_of (stCmp 7 2) (by decide +kernel),
   possible_of (stCmp 7 6) (by decide +kernel)⟩
theorem memBytes_length (m : List Host.Cell) (a n : Nat) : (memBytes m a n).length = n := by
  induction n generalizing a with
  | zero => rfl
  | succ n ih => simp [memBytes, ih]
theorem memBytes_append (m : List Host.Cell) (a n k : Nat) :
    memBytes m a (n + k) = memBytes m a n ++ memBytes m (a + n) k := by
  induction n generalizing a with
  | zero => simp [memBytes]
  | succ n ih => rw [Nat.add_right_comm, memBytes, ih, memBytes, Nat.add_right_comm a 1 n]; rfl
theorem memBytes_congr {m m' : List Host.Cell} {a n : Nat} (h : ∀ b, a ≤ b → b < a + n → memByte m b = memByte m' b) :
    memBytes m a n = memBytes m' a n := by
  induction n generalizing a with
  | zero => rfl
  | succ n ih => rw [memBytes, memBytes, h a (by omega) (by omega), ih fun b h1 h2 => h b (by omega) (by omega)]
theorem memBytes_puts (bs : List Byte) (m : List Host.Cell) (a : Nat) : memBytes (memPuts m a bs) a bs.length = bs := by
  induction bs generalizing m a with
  | nil => rfl
  | cons x xs ih =>
    rw [memPuts, List.length_cons, memBytes, ih, memByte_memPuts _ _ _ _ (by omega), memByte_memPut, if_pos rfl]
theorem leNat_leBytes (n k : Nat) : leNat (leBytes n k) = n % 256 ^ k := by
  induction k generalizing n with
  | zero => simp [leBytes, leNat, Nat.mod_one]
  | succ k ih =>
    rw [leBytes, leNat, ih, Nat.pow_succ, Nat.mul_comm (256 ^ k), Nat.mod_mul]
    simp
theorem crcRunR_lt (bs : List Byte) (r : Nat) (hr : r < 2 ^ 32) : crcRunR 0x82F63B78 r bs < 2 ^ 32 := by
  have step : ∀ k r : Nat, r < 2 ^ 32 → crcStepsR 0x82F63B78 k r < 2 ^ 32 := by
    intro k
    induction k with
    | zero => exact fun r h => h
    | succ k ih =>
      intro r h
      apply ih
      have h2 : r / 2 < 2 ^ 32 := Nat.lt_of_le_of_lt (Nat.div_le_self r 2) h
      simp only [crcStepR]; split
      · exact Nat.xor_lt_two_pow h2 (by decide)
      · exact h2
  induction bs generalizing r with
  | nil => exact hr
  | cons b bs ih =>
    refine ih _ (step 8 _ (Nat.xor_lt_two_pow hr ?_))
    exact Nat.lt_of_lt_of_le b.isLt (by decide)
theorem crc32c_lt (bs : List Byte) : crc32c bs < 2 ^ 32 :=
  Nat.xor_lt_two_pow (crcRunR_lt bs _ (by decide)) (by decide)
theorem freeBytes_length (d n : Nat) : (freeBytes d n).length = n := by
  induction n generalizing d with
  | zero => rfl
  | succ n ih => simp [freeBytes, ih]
/-- The save area of channel 7 in a memory. -/
theorem dram_area (m : List Host.Cell) : dramBytes m (({} : Cmp).saveAt) 33024 = memBytes m 0 33020 ++ memBytes m 33020 4 := by
  have h : ({} : Cmp).saveAt = 0 := rfl
  rw [dramBytes, h, show min 33024 (2 ^ 35 - 0) = 33020 + 4 from by decide, show 33024 - (2 ^ 35 - 0) = 0 from by decide,
    memBytes_append]
  exact List.append_nil _
theorem dram_take (m : List Host.Cell) : (dramBytes m (({} : Cmp).saveAt) 33024).take 33020 = memBytes m 0 33020 := by
  rw [dram_area]; exact List.take_left' (memBytes_length _ _ _)
theorem dram_drop (m : List Host.Cell) : (dramBytes m (({} : Cmp).saveAt) 33024).drop 33020 = memBytes m 33020 4 := by
  rw [dram_area]; exact List.drop_left' (memBytes_length _ _ _)
/-- A memory whose save area ends in a wrong CRC. -/
theorem bad_area : ∃ m, leNat ((dramBytes m (({} : Cmp).saveAt) 33024).drop 33020) ≠
    crc32c ((dramBytes m (({} : Cmp).saveAt) 33024).take 33020) := by
  have h : memBytes (memPut [] 33020 1#8) 0 33020 = memBytes [] 0 33020 :=
    memBytes_congr fun b _ h2 => by rw [memByte_memPut, if_neg (by omega)]
  rcases Nat.eq_or_lt_of_le (Nat.zero_le (crc32c (memBytes [] 0 33020))) with h0 | h0
  · refine ⟨memPut [] 33020 1#8, ?_⟩
    rw [dram_drop, dram_take, h, ← h0]; decide
  · refine ⟨[], ?_⟩
    rw [dram_drop, dram_take, show leNat (memBytes [] 33020 4) = 0 from by decide]; omega
/-- A memory with the save area of a fresh channel and its CRC. -/
theorem good_area : ∃ m, leNat ((dramBytes m (({} : Cmp).saveAt) 33024).drop 33020) =
      crc32c ((dramBytes m (({} : Cmp).saveAt) 33024).take 33020) ∧
    ((dramBytes m (({} : Cmp).saveAt) 33024).take 33020).drop 32768 = freeBytes 32768 252 := by
  have hl : (saveArea ({} : Cmp) 0).length = 33020 := by
    simp only [saveArea, List.length_append, freeBytes_length]; rfl
  refine ⟨memPuts (memPuts [] 0 (saveArea {} 0)) 33020 (leBytes (crc32c (saveArea {} 0)) 4), ?_⟩
  have h1 : memBytes (memPuts (memPuts [] 0 (saveArea {} 0)) 33020 (leBytes (crc32c (saveArea {} 0)) 4)) 0 33020 =
      saveArea {} 0 := by
    rw [memBytes_congr (m' := memPuts [] 0 (saveArea {} 0)) fun b _ h2 => memByte_memPuts _ _ _ _ (by omega)]
    have := memBytes_puts (saveArea {} 0) [] 0
    rwa [hl] at this
  have h2 := memBytes_puts (leBytes (crc32c (saveArea {} 0)) 4) (memPuts [] 0 (saveArea {} 0)) 33020
  rw [dram_drop, dram_take, h1]
  refine ⟨?_, ?_⟩
  · rw [show (leBytes (crc32c (saveArea {} 0)) 4).length = 4 from rfl] at h2
    rw [h2, leNat_leBytes]
    exact Nat.mod_eq_of_lt (crc32c_lt _)
  · rw [saveArea]
    exact List.drop_left' (by simp [freeBytes_length])
/-- What channel 7 saved in the beginning. -/
def snapW : CmpSnap := { draw := 0, window := [], icount := 0, ocount := 0, bits := 0, held := 0, done := false, hist := false }
theorem witness_CompressorEvents :
    Possible (fun u => u.cmpState 7 = 4) ∧
    Possible (fun u => u.cmpState 7 = 5 ∧ leNat ((dramBytes u.mem (u.cmp 7).saveAt 33024).drop 33020) ≠
      crc32c ((dramBytes u.mem (u.cmp 7).saveAt 33024).take 33020)) ∧
    Possible (fun u =>
      let all := dramBytes u.mem (u.cmp 7).saveAt 33024
      u.cmpState 7 = 5 ∧ leNat (all.drop 33020) = crc32c (all.take 33020) ∧
      u.saves.find? (fun e => decide ((all.take 33020).drop 32768 = freeBytes (e.draw + 32768) 252)) = some snapW) ∧
    Possible (fun u =>
      let bits := u.rd pgCMP (R.DFL_CMPSTAT_BITS 7)
      let data := memBytes u.mem ((u.cmp 7).src + (u.cmp 7).icount) 16384
      u.cmpState 7 = 1 ∧ u.rd pgCMP (R.DFL_CMPCTL_EFFORT 7) = 0 ∧ (u.cmp 7).icount + 16384 < (u.cmp 7).srcLen ∧
      u.cmpRoom 7 < (bits + (storedBlock bits false data).2 + 7) / 8) ∧
    Possible (fun u =>
      let bits := u.rd pgCMP (R.DFL_CMPSTAT_BITS 7)
      let data := memBytes u.mem ((u.cmp 7).src + (u.cmp 7).icount) 16384
      u.cmpState 7 = 1 ∧ u.rd pgCMP (R.DFL_CMPCTL_EFFORT 7) = 0 ∧ (u.cmp 7).icount + 16384 < (u.cmp 7).srcLen ∧
      (bits + (storedBlock bits false data).2 + 7) / 8 ≤ u.cmpRoom 7) := by
  refine ⟨possible_of (stCmp 7 4) (by decide +kernel), ?_, ?_, ?_, ?_⟩
  · obtain ⟨m, h⟩ := bad_area
    exact possible_of { (stIn .ready).wr pgCMP (R.DFL_CMPSTAT_STATE 7) 5 with mem := m }
      ⟨(show ((stIn .ready).wr pgCMP (R.DFL_CMPSTAT_STATE 7) 5).cmpState 7 = 5 from by decide +kernel), h⟩
  · obtain ⟨m, h1, h2⟩ := good_area
    exact possible_of { (stIn .ready).wr pgCMP (R.DFL_CMPSTAT_STATE 7) 5 with mem := m, saves := [snapW] }
      ⟨(show ((stIn .ready).wr pgCMP (R.DFL_CMPSTAT_STATE 7) 5).cmpState 7 = 5 from by decide +kernel), h1, List.find?_cons_of_pos (decide_eq_true h2)⟩
  · refine possible_of ((((stIn .ready).setCmp 7 { srcLen := 20000, cap := 16388 }).wr pgCMP (R.DFL_CMPSTAT_STATE 7) 1).wr
      pgCMP (R.DFL_CMPCTL_EFFORT 7) 0) ?_
    simp only [storedBlock, memBytes_length]
    decide +kernel
  · refine possible_of ((((stIn .ready).setCmp 7 { srcLen := 20000, cap := 16390 }).wr pgCMP (R.DFL_CMPSTAT_STATE 7) 1).wr
      pgCMP (R.DFL_CMPCTL_EFFORT 7) 0) ?_
    simp only [storedBlock, memBytes_length]
    decide +kernel

/-- A command record of 64 bytes with its CRC. -/
def recW (body : List Byte) : List Byte := body ++ leBytes (crc32c body) 4
/-- The 60 bytes of a record with a TYPE, KIND 1, one bar, an id and a stream basin. -/
def bodyW (type kind bars id basin lpb : Nat) : List Byte :=
  [BitVec.ofNat 8 type, BitVec.ofNat 8 kind, BitVec.ofNat 8 bars, 0#8] ++ leBytes id 4 ++ leBytes basin 2 ++ leBytes lpb 2 ++
    List.replicate 48 0#8
/-- A device with basin 0 for commands, which holds a record, and basin 1 for job data. -/
def stRec (d : DevState) (r : List Byte) (j : JobsS) : State :=
  let s := (((stIn d).wr pgBASNW (R.BASN_RCFG_EN 0) 1).wr pgBASNW (R.BASN_RCFG_USE 0) 1).wr pgBASNW (R.BASN_RCFG_EN 1) 1
  { s with basins := [(0, { p := 64 })], jobs := { j with order := [(0, 0)] }, mem := memPuts [] 0 r }
theorem witness_CommandRecords :
    Possible (fun u => u.takesRecords = true ∧ (∃ at_, u.jobs.order = [(at_, 0)]) ∧ u.basinOn 0 = true ∧
      recordCrc (u.recordAt 0) = false) ∧
    Possible (fun u => u.recordIs 0 1 ∧ (u.passRecord 0).jobReason (parseJob (u.recordAt 0)) = 0 ∧ u.jobs.cur ≠ none) ∧
    Possible (fun u => u.recordIs 0 1 ∧ (u.passRecord 0).jobReason (parseJob (u.recordAt 0)) ≠ 0) ∧
    Possible (fun u => u.recordIs 0 2 ∧ (u.passRecord 0).jobs.cur = some (jobL 7) ∧ (u.passRecord 0).dev.state = .printing ∧
      (leAt (u.recordAt 0) 4 4 = 0xFFFFFFFF ∨ leAt (u.recordAt 0) 4 4 = 7)) ∧
    Possible (fun u => u.recordIs 0 3 ∧ (u.passRecord 0).jobs.cur = some (jobL 7) ∧ (u.passRecord 0).dev.state = .halted ∧
      (u.passRecord 0).pio.stopAt ≠ some (u.passRecord 0).now ∧
      (leAt (u.recordAt 0) 4 4 = 0xFFFFFFFF ∨ leAt (u.recordAt 0) 4 4 = 7)) ∧
    Possible (fun u => u.recordIs 0 4 ∧ (u.passRecord 0).jobs.cur = some (jobL 7) ∧ (u.passRecord 0).jobs.queued = some (jobL 8) ∧
      leAt (u.recordAt 0) 4 4 = 8) ∧
    Possible (fun u => u.recordIs 0 5 ∧ (u.passRecord 0).jobs.cur = some (jobL 7) ∧ leAt (u.recordAt 0) 4 4 = 7) := by
  refine ⟨possible_of (stRec .ready (List.replicate 64 1#8) {}) ⟨by decide +kernel, ⟨0, rfl⟩, by decide +kernel, by decide +kernel⟩, ?_⟩
  refine ⟨possible_of (stRec .printing (recW (bodyW 1 1 1 9 1 63)) { cur := some (jobL 7) })
      ⟨⟨by decide +kernel, by decide +kernel, by decide +kernel, by decide +kernel, by decide +kernel⟩, by decide +kernel, by decide⟩,
    possible_of (stRec .printing (recW (bodyW 1 1 1 7 1 63)) { cur := some (jobL 7) })
      ⟨⟨by decide +kernel, by decide +kernel, by decide +kernel, by decide +kernel, by decide +kernel⟩, by decide +kernel⟩, ?_⟩
  refine ⟨possible_of (stRec .printing (recW (bodyW 2 0 0 7 0 0)) { cur := some (jobL 7) })
      ⟨⟨by decide +kernel, by decide +kernel, by decide +kernel, by decide +kernel, by decide +kernel⟩, by decide +kernel,
       by decide +kernel, by decide +kernel⟩,
    possible_of (stRec .halted (recW (bodyW 3 0 0 0xFFFFFFFF 0 0)) { cur := some (jobL 7) })
      ⟨⟨by decide +kernel, by decide +kernel, by decide +kernel, by decide +kernel, by decide +kernel⟩, by decide +kernel,
       by decide +kernel, by decide +kernel, by decide +kernel⟩, ?_⟩
  exact ⟨possible_of (stRec .printing (recW (bodyW 4 0 0 8 0 0)) { cur := some (jobL 7), queued := some (jobL 8) })
      ⟨⟨by decide +kernel, by decide +kernel, by decide +kernel, by decide +kernel, by decide +kernel⟩, by decide +kernel,
       by decide +kernel, by decide +kernel⟩,
    possible_of (stRec .printing (recW (bodyW 5 0 0 7 0 0)) { cur := some (jobL 7) })
      ⟨⟨by decide +kernel, by decide +kernel, by decide +kernel, by decide +kernel, by decide +kernel⟩, by decide +kernel,
       by decide +kernel⟩⟩
theorem witness_JobCommands :
    Possible (fun u =>
      let z := u.stored pgBASN R.BASN_CMD (withBit 0#32 R.BASN_CMD_HALT)
      u.accepts .svc (fieldAddr pgBASN R.BASN_CMD) .basn 0 = true ∧ z.jobs.cur = some (jobL 7) ∧ z.dev.state = .printing) ∧
    Possible (fun u =>
      let z := u.stored pgBASN R.BASN_CMD (withBit 0#32 R.BASN_CMD_RESUME)
      u.accepts .svc (fieldAddr pgBASN R.BASN_CMD) .basn 0 = true ∧ z.jobs.cur = some (jobL 7) ∧ z.dev.state = .halted ∧
        z.pio.stopAt ≠ some z.now) ∧
    Possible (fun u => u.accepts .svc (fieldAddr pgBASN R.BASN_CMD) .basn 0 = true ∧
      (u.stored pgBASN R.BASN_CMD (withBit 0#32 R.BASN_CMD_ABORT)).inJob = true) ∧
    Possible (fun u =>
      let z := (u.boundaries .job allPages).posApplied u
      u.jobs.cur = none ∧ u.jobs.queued = some (jobL 7) ∧ u.webHolds = false ∧ (u.dev.state = .ready ∨ u.inJob = true) ∧
      (∀ b ∈ barsOf (jobL 7).bars, z.startFault (jobL 7) b = none) ∧ z.orderBad (barsOf (jobL 7).bars) = false) ∧
    Possible (fun u => u.jobs.cur = some { jobL 7 with ended := some 0 } ∧ u.inJob = true ∧
      u.jobDone { jobL 7 with ended := some 0 } = true ∧ u.cyclesLeft.sb = 0) :=
  ⟨possible_of (stJob .printing { cur := some (jobL 7) }) (by decide +kernel),
   possible_of (stJob .halted { cur := some (jobL 7) }) (by decide +kernel),
   possible_of (stJob .printing { cur := some (jobL 7) }) (by decide +kernel),
   possible_of (stJob .ready { queued := some (jobL 7) }) (by decide +kernel),
   possible_of (stJob .printing { cur := some { jobL 7 with ended := some 0 } }) (by decide +kernel)⟩
/-- A band of job 7: the header, and a directory of one empty segment with its CRC, or with another. -/
def bandBytesW (spoil : Nat) : List Byte :=
  let dir := List.replicate 8 0#8 ++ leBytes 4800 4 ++ leBytes 96 4 ++ List.replicate 16 0#8
  let h := leBytes 0x444E4259 4 ++ [1#8, 0#8, 1#8, 0#8] ++ leBytes 7 4 ++ List.replicate 12 0#8 ++ leBytes 96 8 ++
    leBytes (Nat.xor (crc32c dir) spoil) 4 ++ List.replicate 24 0#8
  h ++ leBytes (crc32c h) 4 ++ dir
/-- A device with a band in basin 1. -/
def stBand (spoil : Nat) (j : JobsS) : State :=
  { stJob .printing j with basins := [(1, { p := 96 })], mem := memPuts [] 0 (bandBytesW spoil) }
/-- Job 7 with its stream in basin 1, and no band yet. -/
def jobB : Job := { jobL 7 with basin := 1, nextBand := 0, nextPos := 0 }
theorem witness_BasinsAndBands :
    Possible (fun u => u.accepts .svc (fieldAddr pgBASNW (R.BASN_RCFG 3)) .basnw 1 = true ∧ u.basinOn 3 = false ∧
      u.basinFits 3 (withBit 0#32 (R.BASN_RCFG_EN 3)).toNat = true) ∧
    Possible (fun u =>
      let w := withoutBit 192#32 (R.BASN_RCFG_EN 3)
      let old := u.rd pgBASNW (R.BASN_RCFG 3)
      u.accepts .svc (fieldAddr pgBASNW (R.BASN_RCFG 3)) .basnw 1 = true ∧ u.basinOn 3 = true ∧
      bitsOf old 1 2 = bitsOf w.toNat 1 2 ∧ bitsOf old 4 6 = bitsOf w.toNat 4 6 ∧ u.basinNamed 3 = false) ∧
    Possible (fun u =>
      let z := u.mbxLoadedOn .svc pgBASN .basn (64#128).toNat
      u.takes .svc (headAddr pgBASN 0x20) .basn 0 = true ∧ z.basinOn 3 = true ∧ z.basinDev 3 = true ∧
      (z.basin 3).c < (64#128).toNat % 2 ^ 64 ∧ (64#128).toNat % 2 ^ 64 ≤ (z.basin 3).p) ∧
    (jobB.joining = false ∧ Possible (fun u => u.jobs.cur = some jobB ∧ u.bandBytes jobB = some (bandBytesW 0) ∧
      u.landing jobB (bandBytesW 0) 96 = ⟨jobB.nextBand, false, false, false⟩)) ∧
    Possible (fun u => u.jobs.queued = some jobB ∧ u.bandBytes jobB = some (bandBytesW 1) ∧
      u.landing jobB (bandBytesW 1) 96 = ⟨jobB.nextBand, false, true, false⟩) :=
  ⟨possible_of ((stIn .ready).wr pgBASNW (R.BASN_RBASE_BASE 3) 256) (by decide +kernel),
   possible_of ((stIn .ready).wr pgBASNW (R.BASN_RCFG_EN 3) 1) (by decide +kernel),
   possible_of { ((stIn .ready).wr pgBASNW (R.BASN_RCFG_EN 3) 1).wr pgBASNW (R.BASN_RCFG_USE 3) 2 with basins := [(3, { p := 64 })] }
     (by decide +kernel),
   ⟨rfl, possible_of (stBand 0 { cur := some jobB }) (by decide +kernel)⟩,
   possible_of (stBand 1 { queued := some jobB }) (by decide +kernel)⟩

/-- A device whose position unit counts, with encoder 0 as the model source, at a tick. -/
def stPos (x : PosS) : State :=
  let s := (stIn .ready).setHead pgPOS { (stIn .ready).head pgPOS with en := true }
  { (((s.wr pgPOS R.POS_CTL_ENC0EN 1).wr pgPOS R.POS_CTL_ENC1EN 1).wr pgPOS R.POS_STAT_MSRC 1).wr pgPOS
      R.POS_CTL_SSN0EN 1 with pos := x }
/-- A pending edge. -/
def holdW (endTick : Nat) : EdgeHold := { tick := 0, endTick := endTick, level := true }
theorem witness_EdgesAndStandstill :
    Possible (fun u => u.edgesFirst.edgeOn 0 = true ∧ (u.edgesFirst.edgeIn 0).hold = none ∧
      (u.edgesFirst.edgeIn 0).level ≠ true) ∧
    Possible (fun u => u.edgesFirst.edgeOn 0 = true ∧ (u.edgesFirst.edgeIn 0).hold = some (holdW 50)) ∧
    Possible (fun u => u.firstDue = some (3 * 0, holdW 50) ∧ (u.edgeIn (3 * 0 + 1)).hold = none ∧
      (((u.setEdgeIn (3 * 0) { level := (holdW 50).level, hold := none }).encCount 0
        (u.signed 0 (quadCount (u.rd pgPOS (R.POS_ENCCFG_MULT 0)) (u.edgeIn (3 * 0)).level
          (u.edgeIn (3 * 0 + 1)).level (holdW 50).level (u.edgeIn (3 * 0 + 1)).level)) (holdW 50).tick).webTurned
            u).firstDue = none) ∧
    Possible (fun u => u.edgesFirst.pos.track.lastEdge = some 1 ∧ u.edgesFirst.pos.track.edges ≠ [] ∧
      1 + u.edgesFirst.standTmo ≤ u.edgesFirst.now) ∧
    Possible (fun u =>
      let z := u.edgesFirst
      let y := (z.setPos { z.pos with track := z.pos.track.restart, wSpoiled := true }).wr pgPOS R.POS_STAT_DECAY 0
      z.fellBelow z.pos.hall.track (z.rd pgPOS R.POS_HALLSCALE) = false ∧ z.fellBelow z.pos.track z.srcScale = true ∧
      z.msrc ≠ 0 ∧ y.rdb pgPOS R.POS_STAT_STANDSTILL = false) ∧
    Possible (fun u =>
      let z := u.edgesFirst
      let dx := z.x0 - z.pos.wX0
      let raw := ((z.encDist 1 - z.pos.wD1 - dx) * ppbUnit).fdiv dx - z.rdi pgPOS R.POS_STRZERO * 65536
      z.strWin ≤ dx.natAbs ∧ z.msrc = 1 ∧ z.pos.wOn = true ∧ z.pos.wSpoiled = false ∧ z.encService 0 = true ∧
      z.encService 1 = true ∧ raw.natAbs ≤ z.rd pgPOS R.POS_STRCFG_LIMIT * 65536000) :=
  ⟨possible_of (stPos {}) (by decide +kernel),
   possible_of (stPos { ins := [(0, { hold := some (holdW 50) })] }) (by decide +kernel),
   possible_of { (stPos { ins := [(0, { hold := some (holdW 50) })] }) with counter := 60#80 } (by decide +kernel),
   possible_of { (stPos { track := { edges := [1], lastEdge := some 1 } }) with counter := 0x10000000000#80 } (by decide +kernel),
   possible_of { ((stPos { track := { edges := [1], lastEdge := some 1 } }).wr pgPOS R.POS_STAT_STANDSTILL 0) with counter := 0x10000000000#80 } (by decide +kernel),
   possible_of (stPos { wOn := true, encs := [(0, { count := 100000000000 }), (1, { count := 100000000000 })] })
     (by decide +kernel)⟩
/-- A word with position 0 and the given CRC. -/
def wordW (crc : BitVec 16) : SsnWord := ⟨5#80, false, 0#40, false, false, crc⟩
theorem witness_SerialSensors :
    Possible (fun u => u.ssnOn 0 = true ∧ u.isStandby = false ∧
      u.now % us (atLeast1 (u.rd pgPOS (R.POS_SSNCFG_PERIOD 0))) = 0 ∧ (u.ssn 0).busy = none) ∧
    Possible (fun u =>
      let z := u.edgesFirst
      let rx := (wordW 0x3F#16).crc.toNat % 2 ^ z.ssnWidth 0
      z.ssnOn 0 = true ∧ (z.ssn 0).busy = some 5 ∧ z.now < 5 + z.ssnTmo 0 ∧
      (if z.rdb pgPOS (R.POS_SSNCRC_INV 0) then 2 ^ z.ssnWidth 0 - 1 - rx else rx) =
        z.ssnCrc 0 ((wordW 0x3F#16).position.toNat % 2 ^ z.ssnBits 0) false false) ∧
    Possible (fun u =>
      let z := u.edgesFirst
      let rx := (wordW 0x7#16).crc.toNat % 2 ^ z.ssnWidth 0
      z.ssnOn 0 = true ∧ (z.ssn 0).busy = some 5 ∧ z.now < 5 + z.ssnTmo 0 ∧
      (if z.rdb pgPOS (R.POS_SSNCRC_INV 0) then 2 ^ z.ssnWidth 0 - 1 - rx else rx) ≠
        z.ssnCrc 0 ((wordW 0x7#16).position.toNat % 2 ^ z.ssnBits 0) (wordW 0x7#16).err (wordW 0x7#16).warn) ∧
    Possible (fun u => u.edgesFirst.ssnOn 0 = true ∧ (u.edgesFirst.ssn 0).busy = some 5 ∧
      5 + u.edgesFirst.ssnTmo 0 ≤ u.edgesFirst.now) :=
  ⟨possible_of (stPos {}) (by decide +kernel),
   possible_of { (stPos { ssns := [(0, { busy := some 5 })] }) with counter := 20#80 } (by decide +kernel),
   possible_of { (stPos { ssns := [(0, { busy := some 5 })] }) with counter := 20#80 } (by decide +kernel),
   possible_of { (stPos { ssns := [(0, { busy := some 5 })] }) with counter := 0x10000000000#80 } (by decide +kernel)⟩
theorem witness_PosCommands :
    Possible (fun u => u.accepts .svc (fieldAddr pgPOS R.POS_CTL) .pos 0 = true ∧
      (∀ c, 8 ≤ c → c ≤ 12 → bitOf (u.word (fieldAddr pgPOS R.POS_CTL)).toNat c = false) ∧
      ((u.enc 1).errAt ≠ u.now ∨ (u.enc 1).errNow = 0) ∧ (u.enc 1).disAt ≠ some u.now) ∧
    Possible (fun u => u.takes .svc (headAddr pgPOS 0x08) .pos 0 = true ∧ (true = true ∨ u.inJob = false)) ∧
    Possible (fun u => u.takes .svc (headAddr pgPOS 0x08) .pos 0 = true ∧ u.inJob = true) ∧
    Possible (fun u => u.takes .svc (headAddr pgPOS 0x20) .pos 0 = true ∧ u.inJob = false) :=
  ⟨possible_of (stPos {}) ⟨by decide +kernel, fun c h1 h2 => by
      have : c = 8 ∨ c = 9 ∨ c = 10 ∨ c = 11 ∨ c = 12 := by omega
      rcases this with rfl | rfl | rfl | rfl | rfl <;> decide +kernel, by decide +kernel, by decide +kernel⟩,
   possible_of (stIn .ready) (by decide +kernel), possible_of (stIn .halted) (by decide +kernel),
   possible_of (stIn .ready) (by decide +kernel)⟩

/-- A job in progress on a bar of one tile. -/
def stPrint (x : Dcp) : State := stJob .printing { cur := some (jobL 7), dcps := [(0, x)] }
theorem witness_MappingAndTables :
    Possible (fun u => u.jobs.cur = some (jobL 7) ∧ u.inJob = true ∧ bitOf (jobL 7).bars 0 = true ∧
      u.jobLine (jobL 7) (u.nextMap (jobL 7) 0) = some 0 ∧ u.delivered 0 (u.nextMap (jobL 7) 0) = true) ∧
    Possible (fun u => u.accepts .svc (fieldAddr (pgRAST 0) R.RAST_NTDATA) .rast 0 = true ∧
      nozAddr (u.rd (pgRAST 0) R.RAST_NTADDR) = some 0 ∧ (u.nozStamped = true ∨ (nozKey 0 0, u.now) ∉ u.ntEngine)) ∧
    Possible (fun u => u.accepts .svc (fieldAddr pgRASTC R.RAST_THRDATA) .rastc 0 = true ∧ u.inJob = false) ∧
    Possible (fun u => u.takes .svc (fieldAddr pgRASTC R.RAST_THRDATA) .rastc 0 = true ∧ u.inJob = true) :=
  ⟨possible_of (stPrint { on := true, lines := [(0, [])] }) (by decide +kernel), possible_of (stIn .ready) (by decide +kernel),
   possible_of (stIn .ready) (by decide +kernel), possible_of (stIn .halted) (by decide +kernel)⟩
theorem witness_FireAndPace :
    Possible (fun u => u.jobs.cur = some (jobL 7) ∧ u.dev.state = .printing ∧ bitOf (jobL 7).bars 0 = true ∧
      ((u.barF 0).next - (u.qLead 0 : Nat)) * 4096 ≤ u.ellHeld (jobL 7) 0 ∧
      u.slotReady (jobL 7) 0 (u.barF 0).next (jobL 7).total = true) ∧
    Possible (fun u => u.jobs.cur = some (jobL 7) ∧ u.inJob = true ∧ u.fire.lastS < u.paceStart) ∧
    Possible (fun u => 0 < u.fitted 0 ∧ (u.tile 0 0).stale = false ∧
      (u.tile 0 0).statAt + ms (atLeast1 (u.rd (pgFIRE 0) R.FIRE_TLIM2_STALE)) ≤ u.now) ∧
    Possible (fun u => ∃ x ∈ u.fire.marks, x ≤ u.x0At u.now) ∧
    Possible (fun u => u.lines.mark = true ∧ u.fire.markEnd ≤ u.now) :=
  ⟨possible_of { stPrint {} with bars := [(0, { next := -20 })] } (by decide +kernel),
   possible_of { stPrint {} with counter := 0x10000000000#80 } (by decide +kernel),
   possible_of { stPrint {} with counter := 0x10000000000#80 } (by decide +kernel),
   possible_of { stPrint {} with fire := { marks := [0] } } ⟨0, by decide +kernel, by decide +kernel⟩,
   possible_of { stPrint {} with lines := { mark := true } } (by decide +kernel)⟩
theorem witness_StopSequence :
    Possible (fun u => u.jobs.cur = some (jobL 7) ∧ u.sb = 2 ∧ (barsOf u.waitBar).all (u.backed (jobL 7)) = true) ∧
    Possible (fun u => u.jobs.cur = some (jobL 7) ∧ u.sb = 3 ∧ u.rdb pgPOS R.POS_STAT_STANDSTILL = true ∧ u.dataOk = true ∧
      (∀ b, b < 8 → u.rd (pgFIRE b) R.FIRE_HARD_TILES = 0) ∧ u.dev.state = .printing) ∧
    Possible (fun u =>
      let n := satInc 4 (u.rd pgFIREC R.FIRE_SBSTAT_RETRIES)
      let z := (((u.wr pgFIREC R.FIRE_SBSTAT_RETRIES n).inc pgFIREC R.FIRE_SBCNT_RETRY).raise pgFIREC 6 0).stopReq true
      u.jobs.cur = some (jobL 7) ∧ (u.sb = 3 ∨ u.sb = 4) ∧ bitOf u.waitBar 0 = true ∧
      ((u.barF 0).sigma - (u.armGap : Nat)) * 4096 < u.ell (jobL 7) 0 ∧ n < atLeast1 (z.rd pgFIREC R.FIRE_SBCFG_RETRYMAX)) ∧
    Possible (fun u =>
      let n := satInc 4 (u.rd pgFIREC R.FIRE_SBSTAT_RETRIES)
      let z := (((u.wr pgFIREC R.FIRE_SBSTAT_RETRIES n).inc pgFIREC R.FIRE_SBCNT_RETRY).raise pgFIREC 6 0).stopReq true
      u.jobs.cur = some (jobL 7) ∧ (u.sb = 3 ∨ u.sb = 4) ∧ bitOf u.waitBar 0 = true ∧
      ((u.barF 0).sigma - (u.armGap : Nat)) * 4096 < u.ell (jobL 7) 0 ∧ atLeast1 (z.rd pgFIREC R.FIRE_SBCFG_RETRYMAX) ≤ n) ∧
    Possible (fun u => u.accepts .svc (fieldAddr pgFIREC R.FIRE_SBCMD) .firec 0 = true ∧
      (u.stored pgFIREC R.FIRE_SBCMD (withBit 0#32 R.FIRE_SBCMD_REARM)).sb = 5) :=
  ⟨possible_of ((stPrint {}).setSb 2) (by decide +kernel),
   possible_of (((stPrint {}).setSb 3).wr pgPOS R.POS_STAT_STANDSTILL 1) (by decide +kernel),
   possible_of { ((stPrint {}).setSb 4).wr pgFIREC R.FIRE_SBSTAT_WAITBAR 1 with bars := [(0, { sigma := -100 })] } (by decide +kernel),
   possible_of { (((stPrint {}).setSb 4).wr pgFIREC R.FIRE_SBSTAT_WAITBAR 1).wr pgFIREC R.FIRE_SBSTAT_RETRIES 15 with
     bars := [(0, { sigma := -100 })] } (by decide +kernel),
   possible_of ((stPrint {}).setSb 5) (by decide +kernel)⟩

/-- The payload of a STATUS without events, skips and missing slots. -/
def statusW : List Byte := List.replicate 24 0#8 ++ List.replicate 6 255#8 ++ List.replicate 2 0#8
/-- A device with lane 0 in a state and locked, one tile at its position 0. -/
def stTile (lstate : Nat) (l : TileLane) : State :=
  let s := (((stIn .ready).wr (pgRAST 0) R.RAST_CTL_NTILES 1).wr (pgTLNK 0) R.TLNK_STAT_LSTATE lstate).wr (pgTLNK 0)
    R.TLNK_STAT_LOCK 1
  { s.setHead (pgTLNK 0) { s.head (pgTLNK 0) with en := true } with tlnk := [(0, l)] }
theorem witness_TileReports :
    Possible (fun u => u.statFor 0 0 0 (frameW 6 0 14 0 0 0 statusW)) ∧
    (State.tileGood 0 [] = false ∧ Possible (fun u => u.laneOn 0 = true ∧ u.lstate 0 ≠ 0)) ∧
    Possible (fun u => u.early = [] ∧ u.statFor 0 1 0 (frameW 6 1 14 0 0 0 (zeros 32))) ∧
    Possible (fun u => u.statFor 0 3 0 (frameW 6 3 14 0 0 0 (zeros 32))) ∧
    (State.tileGood 0 (frameW 4 2 14 0 0 0 (zeros 20)) = true ∧
      Possible (fun u => u.laneOn 0 = true ∧ u.lstate 0 ≠ 0 ∧ (u.tl 0).probed = some (0, 0))) ∧
    (State.tileGood 0 (frameW 0 0 15 12 0 0 (zeros 4)) = true ∧
      Possible (fun u => u.laneOn 0 = true ∧ u.lstate 0 ≠ 0 ∧ u.fromOther (frameW 0 0 15 12 0 0 (zeros 4)) = true)) ∧
    (State.tileGood 0 (frameW 7 0 15 12 0 9 (zeros 16)) = true ∧
      Possible (fun u => u.laneOn 0 = true ∧ u.lstate 0 ≠ 0 ∧ u.fromOther (frameW 7 0 15 12 0 9 (zeros 16)) = true ∧
        newerEpoch (leAt (frameW 7 0 15 12 0 9 (zeros 16)) 4 4) (u.rd pgTWIN R.TWIN_EPOCH) = true ∧
        (u.isActive = true ∨ u.dev.role = .solo))) :=
  ⟨possible_of (stTile 6 {}) ⟨by decide +kernel, by decide +kernel, by decide +kernel, rfl, rfl, rfl, rfl, by decide +kernel⟩,
   ⟨by decide, possible_of (stTile 6 {}) (by decide +kernel)⟩,
   possible_of (stTile 2 {}) ⟨rfl, by decide +kernel, by decide +kernel, by decide +kernel, rfl, rfl, rfl, rfl, by decide +kernel⟩,
   possible_of (stTile 3 {}) ⟨by decide +kernel, by decide +kernel, by decide +kernel, rfl, rfl, rfl, rfl, by decide +kernel⟩,
   ⟨by decide +kernel, possible_of (stTile 6 { probed := some (0, 0) }) (by decide +kernel)⟩,
   ⟨by decide +kernel, possible_of ((stTile 6 {}).wr pgSYS R.SYS_STRAP_ROLE_SEL 1) (by decide +kernel)⟩,
   ⟨by decide +kernel, possible_of
     (let s := (stTile 6 {}).wr pgSYS R.SYS_STRAP_ROLE_SEL 1; { s with dev := { s.dev with role := .solo } }) (by decide +kernel)⟩⟩
/-- A lane whose one tile is provisioned and in time. -/
def laneW : TileLane :=
  { pos := [(0, { answered := true, setSent := true, facSent := true, delaySent := true, tlost := some false })] }
theorem witness_LaneBringup :
    Possible (fun u =>
      let z := u.stored (pgTLNK 0) R.TLNK_CTL (withBit 0#32 R.TLNK_CTL_BRINGUP)
      u.accepts .svc (fieldAddr (pgTLNK 0) R.TLNK_CTL) .tlnk 0 = true ∧ u.inJob = false ∧ z.pagesUp = true ∧
        z.laneOn 0 = true ∧ z.barService (0 / 5) = true) ∧
    Possible (fun u => u.laneOn 0 = true ∧ u.lstate 0 = 1 ∧ u.locked 0 = false) ∧
    Possible (fun u => u.locked 0 = true ∧ u.lstate 0 ≠ 2) ∧
    Possible (fun u => u.lstate 0 = 4 ∧ u.locked 0 = false ∧ u.rate 0 ≠ (u.tl 0).prev ∧ (u.tl 0).switchAt + ms 5 ≤ u.now) ∧
    Possible (fun u => (u.tl 0).dwellAt = some 0 ∧ u.lstate 0 = 3 ∧ (u.tl 0).asked = false ∧ u.leadEnd = true ∧
      0 + ms (atLeast1 (u.rd (pgTLNK 0) R.TLNK_TRAIN_PRBSMS)) ≤ u.now) ∧
    Possible (fun u =>
      let z := u.provision 0
      u.lstate 0 = 5 ∧ z.lstate 0 = 5 ∧ z.locked 0 = true ∧ 0 < z.answers 0 ∧ z.allAnswered 0 = true ∧
      (∀ p, p < z.nfit 0 → (z.tpos 0 p).setSent = true ∧ (z.tpos 0 p).facSent = true ∧
        (z.tpos 0 p).delaySent = true ∧ (z.tpos 0 p).tlost = some false)) ∧
    Possible (fun u => (u.tl 0).huntAt + ms 100 ≤ u.now ∧ (u.lstate 0 = 1 ∨ u.lstate 0 = 4) ∧ u.locked 0 = false ∧
      u.rate 0 = 0) :=
  ⟨possible_of (stTile 0 {}) (by decide +kernel),
   possible_of ((stTile 1 {}).wr (pgTLNK 0) R.TLNK_STAT_LOCK 0) (by decide +kernel),
   possible_of (stTile 6 {}) (by decide +kernel),
   possible_of { ((stTile 4 {}).wr (pgTLNK 0) R.TLNK_STAT_LOCK 0).wr (pgTLNK 0) R.TLNK_STAT_RATE 1 with
     counter := 0x10000000000#80 } (by decide +kernel),
   possible_of { stTile 3 { dwellAt := some 0 } with counter := 0x10000000000#80 } (by decide +kernel),
   possible_of (stTile 5 laneW) ⟨by decide +kernel, by decide +kernel, by decide +kernel, by decide +kernel, by decide +kernel, by
       intro p hp
       have : p = 0 := by
         have : ((stTile 5 laneW).atTick 0#80 |>.provision 0).nfit 0 = 1 := by decide +kernel
         omega
       subst this; decide +kernel⟩,
   possible_of { (stTile 1 {}).wr (pgTLNK 0) R.TLNK_STAT_LOCK 0 with counter := 0x10000000000#80 } (by decide +kernel)⟩
/-- A device of a pair with twin lane 0 up. -/
def stTwinUp : State :=
  { (stIn .ready).wr pgTWIN R.TWIN_STAT_LANE0 1 with twin := { pairedId := 1 }, counter := 0x10000000000#80 }
theorem witness_LaneSends :
    Possible (fun u => u.timeOpen 0 = true ∧
      (u.tl 0).syncAt + us (max 8 (u.rd (pgTLNK 0) R.TLNK_TIMECFG_SYNCINT)) ≤ u.now) ∧
    Possible (fun u => u.timeOpen 0 = true ∧ 0 < u.nfit 0 ∧ (u.isStandby = false ∨ u.dev.state = .linkup) ∧
      (u.tl 0).probeAt + ms (atLeast1 (u.rd (pgTLNK 0) R.TLNK_TIMECFG_PROBEINT)) ≤ u.now) ∧
    Possible (fun u => (u.dev.role = .active ∨ u.dev.role = .solo) ∧ u.inJob = true ∧ u.jobs.cur = some (jobL 7) ∧
      (∀ n, n < 40 → bitOf (jobL 7).bars (n / 5) = false → u.lstate n ≠ 6 ∧ u.lstate n ≠ 7)) ∧
    Possible (fun u => u.pagesUp = true ∧ u.lstate 0 ≠ 0 ∧ (u.tl 0).txAt + us 10 ≤ u.now) ∧
    Possible (fun u => u.twinPowered = true ∧ u.twinUp 0 = true ∧ mget 0 u.twin.txAt 0 + us 10 ≤ u.now) ∧
    Possible (fun u => u.lstate 0 = 3 ∨ (u.lstate 0 = 6 ∧ u.rdb (pgTLNK 0) R.TLNK_CTL_IDLEPRBS = true ∧
      (u.tl 0).txAt + us 10 ≤ u.now)) :=
  ⟨possible_of { stTile 6 {} with counter := 0x10000000000#80 } (by decide +kernel),
   possible_of { stTile 6 {} with counter := 0x10000000000#80 } (by decide +kernel),
   possible_of (let s := stJob .printing { cur := some (jobL 7) }; { s with dev := { s.dev with role := .solo } }) (by decide +kernel),
   possible_of { stTile 6 {} with counter := 0x10000000000#80 } (by decide +kernel),
   possible_of stTwinUp (by decide +kernel),
   possible_of (stTile 3 {}) (by decide +kernel)⟩
theorem witness_LaneUpkeep :
    Possible (fun u => u.twinPowered = true ∧ u.twinUp 0 = true) ∧
    (State.tileFrameOk 0 (frameW 8 0 15 0 0 0 (zeros 64)) = true ∧
      tileForm 8 0 (((frameW 8 0 15 0 0 0 (zeros 64)).drop 16).take ((frameW 8 0 15 0 0 0 (zeros 64)).length - 20)) = true ∧
      Possible (fun u => u.laneOn 0 = true ∧ u.locked 0 = true)) ∧
    Possible (fun u => u.laneUp 0 = true ∧ u.rd (pgTLNK 0) R.TLNK_STAT_BREAKHOP ≠ 0 ∧ u.breakAt 0 0 = true ∧
      u.isActive = true ∧ u.anyTwin = true) ∧
    Possible (fun u => u.laneUp 0 = true ∧ u.rd (pgTLNK 0) R.TLNK_STAT_BREAKHOP ≠ 0 ∧ u.breakAt 0 0 = true) :=
  ⟨possible_of stTwinUp (by decide +kernel),
   ⟨by decide +kernel, by decide +kernel, possible_of (stTile 6 {}) (by decide +kernel)⟩,
   possible_of (let s := (stTile 6 { pos := [(0, { unlockW := 2 })] }).wr pgTWIN R.TWIN_STAT_LANE0 1;
     { s with dev := { s.dev with role := .active } }) (by decide +kernel),
   possible_of (stTile 6 { pos := [(0, { unlockW := 2 })] }) (by decide +kernel)⟩

/-- A device with one tile at lane 0 and its head health. -/
def stHlth (x : TileHealth) (j : JobsS) (d : DevState) : State :=
  let s := ((((stIn d).wr (pgRAST 0) R.RAST_CTL_NTILES 1).wr (pgTLNK 0) R.TLNK_STAT_LSTATE 6).wr (pgHLTH 0) R.HLTH_CTL_MEASEN 1)
  { (s.wr (pgHLTH 0) R.HLTH_WARM_LINES 1).setHead (pgTLNK 0) { s.head (pgTLNK 0) with en := true } with
    tileHealth := [(0, x)], jobs := j }
/-- A result of one reading at row 0 and column 0 with tag 0 and a code. -/
def measW (code : Nat) : List Byte :=
  frameW 6 2 14 0 0 0 (leBytes 0 2 ++ leBytes 1 1 ++ zeros 3 ++ leBytes 1 2 ++ leBytes code 1 ++ zeros 7 ++ zeros 2)
/-- The command that it answers. -/
def cmdW : MeasCmd := { tag := 0, row := 0, col := 0, count := 1, at_ := 0 }
theorem witness_HeadHealth :
    Possible (fun u => u.rdb (pgHLTH 0) R.HLTH_CTL_MEASEN = true ∧ u.tilesOpen = true ∧ u.dev.role ≠ .standby ∧
      u.sideState = false ∧ 0 < u.fitted 0 ∧ u.laneUp (laneOf 0 0) = true ∧ (u.tileH 0 0).out = none ∧
      (∀ i, (u.tileH 0 0).issued = some i → i + us (max 10 (u.rd (pgHLTH 0) R.HLTH_MEASCFG_INT)) ≤ u.now)) ∧
    (byteAt (tilePayload (measW 0)) 8 = 0 ∧ leAt (tilePayload (measW 0)) 6 2 = cmdW.count ∧
      Possible (fun u => u.early = [] ∧ u.capsFirst.statFor 0 2 0 (measW 0) ∧ ((u.capsFirst.statSeen 0 0 (measW 0)).tileH (0 / 5) (tileOf 0 0)).out = some cmdW)) ∧
    (byteAt (tilePayload (measW 1)) 8 = 1 ∧ leAt (tilePayload (measW 1)) 6 2 = cmdW.count ∧
      Possible (fun u => u.early = [] ∧ u.capsFirst.statFor 0 2 0 (measW 1) ∧ ((u.capsFirst.statSeen 0 0 (measW 1)).tileH (0 / 5) (tileOf 0 0)).out = some cmdW)) ∧
    Possible (fun u => (u.tileH 0 0).out = some cmdW ∧
      cmdW.at_ + ms (atLeast1 (u.rd (pgHLTH 0) R.HLTH_MEASCFG_TMO)) ≤ u.now) ∧
    Possible (fun u => u.accepts .svc (fieldAddr (pgHLTH 0) R.HLTH_CMD) .hlth 0 = true ∧
      (u.stored (pgHLTH 0) R.HLTH_CMD (withBit 0#32 R.HLTH_CMD_REBASE)).resultsFirst.cmdTiles 0 = [0]) ∧
    Possible (fun u => u.accepts .svc (fieldAddr (pgHLTH 0) R.HLTH_CMD) .hlth 0 = true) ∧
    Possible (fun u => u.jobs.cur = some (jobL 7) ∧ 0 < u.rd (pgHLTH 0) R.HLTH_WARM_LINES ∧ bitOf (jobL 7).bars 0 = true ∧
      (u.barF 0).warmChecked = false ∧ (u.rd (pgHLTH 0) R.HLTH_WARM_LINES : Nat) * 4096 ≤ u.ell (jobL 7) 0) :=
  ⟨possible_of (stHlth {} {} .ready) ⟨by decide +kernel, by decide +kernel, by decide +kernel, by decide +kernel,
     by decide +kernel, by decide +kernel, by decide +kernel, fun i h => by cases h⟩,
   ⟨by decide +kernel, by decide +kernel, possible_of (stHlth { out := some cmdW } {} .ready)
     ⟨rfl, ⟨by decide +kernel, by decide +kernel, by decide +kernel, rfl, rfl, rfl, rfl, by decide +kernel⟩, by decide +kernel⟩⟩,
   ⟨by decide +kernel, by decide +kernel, possible_of (stHlth { out := some cmdW } {} .ready)
     ⟨rfl, ⟨by decide +kernel, by decide +kernel, by decide +kernel, rfl, rfl, rfl, rfl, by decide +kernel⟩, by decide +kernel⟩⟩,
   possible_of { stHlth { out := some cmdW } {} .ready with counter := 0x10000000000#80 } (by decide +kernel),
   possible_of (stHlth {} {} .ready) (by decide +kernel), possible_of (stHlth {} {} .ready) (by decide +kernel),
   possible_of { stHlth {} { cur := some (jobL 7) } .printing with pos := { off := 20000000 } } (by decide +kernel)⟩

/-- A device with camera port 0 in a state. -/
def stCam (pstate : Nat) (c : CamPort) : State :=
  { (stIn .ready).wr (pgCAMP 0) R.CAM_PSTAT_PSTATE pstate with cam := { ports := [(0, c)] } }
/-- A trigger. -/
def trigW : CamTrig := { tick := 0, pos := 0, exp := 1, mode := false, first := 0 }
/-- Cycles of a line of `n` clocks, one pixel each, with FV active. -/
def cyclesW (n : Nat) : List CamCycle := List.replicate n ⟨true, true, 0#24⟩
theorem witness_CameraLines :
    Possible (fun u =>
      let px := ((cyclesW 1).filter (u.cycleOn 0)).flatMap (cyclePixels (u.camFmt 0))
      u.pState 0 = 2 ∧ (u.frMode 0 = true ∨ (cyclesW 1).head?.any (u.fvActive 0) = true) ∧
        px.length = u.camWidth 0 ∧ (u.camP 0).trigs = trigW :: [] ∧
        sumN ((u.camP 0).store.map CamLine.bytes) + storeBytes (u.camFmt 0) px.length ≤ 2 ^ 20) ∧
    Possible (fun u => u.pState 0 ≠ 0 ∧ (u.frMode 0 = true ∨ (cyclesW 2).head?.any (u.fvActive 0) = true) ∧
      (((cyclesW 2).filter (u.cycleOn 0)).flatMap (cyclePixels (u.camFmt 0))).length ≠ u.camWidth 0) ∧
    Possible (fun u => u.pState 0 ≠ 0 ∧ u.frMode 0 = false ∧ (cyclesW 0).head?.any (u.fvActive 0) = false) ∧
    Possible (fun u =>
      let z := u.frameBoundary 0
      u.pState 0 = 1 ∧ u.camTMode 0 = z.camTMode 0 ∧ u.camExp 0 = z.camExp 0 ∧ u.camMode 0 = z.camMode 0 ∧
        (z.camP 0).trigs = trigW :: []) ∧
    Possible (fun u => u.pState 0 = 1 ∧ u.camTMode 0 ≠ (u.frameBoundary 0).camTMode 0) ∧
    Possible (fun u => u.pState 0 = 2 ∧ u.frMode 0 = false) ∧
    Possible (fun u => u.pState 0 = 2 ∧ u.rdb (pgCAMP 0) R.CAM_PSTAT_PCLKOK = true) ∧
    Possible (fun u => u.pState 0 ≠ 0) :=
  ⟨possible_of ((stCam 2 { trigs := [trigW] }).wr (pgCAMP 0) R.CAM_WIDTH_WIDTH 1) (by decide +kernel),
   possible_of ((stCam 2 {}).wr (pgCAMP 0) R.CAM_WIDTH_WIDTH 1) (by decide +kernel),
   possible_of (stCam 1 {}) (by decide +kernel), possible_of (stCam 1 { trigs := [trigW] }) (by decide +kernel),
   possible_of { stCam 1 {} with waiting := [(fieldAddr (pgCAMP 0) R.CAM_TRIG, { value := 1#32, cls := .frame })] } (by decide +kernel),
   possible_of (stCam 2 {}) (by decide +kernel),
   possible_of ((stCam 2 {}).wr (pgCAMP 0) R.CAM_PSTAT_PCLKOK 1) (by decide +kernel),
   possible_of (stCam 1 {}) (by decide +kernel)⟩
/-- A stored line. -/
def lineW : CamLine :=
  { frame := 0, line := 0, fmt := 0, pixels := [0], bytes := 3, trig := none, dropped := false, exp := 1, mode := false }
theorem witness_CameraTriggers :
    (stCam 1 { pulse := true, pulseEnd := 160 }).camBusy 0 = true ∧
    ((stCam 1 {}).camBusy 0 = false ∧ (stCam 1 {}).firstTrigger 0 = true ∧ ((stCam 1 {}).camP 0).expAt ≠ some (stCam 1 {}).now) ∧
    Possible (fun u => u.pState 0 ≠ 0 ∧ u.camTMode 0 = 1 ∧ u.nextPitch 0 ≤ u.camX 0 ∧ u.pos.track.reverse = false ∧
      u.pos.track.valid = true) ∧
    Possible (fun u => u.pState 0 ≠ 0 ∧ u.camTMode 0 = 2 ∧
      u.now % (160 * atLeast1 (u.rd (pgCAMP 0) R.CAM_PERIOD_PERIOD)) = 0 ∧ (u.camP 0).due ≠ some u.now) ∧
    Possible (fun u =>
      let z := u.stored (pgCAMP 1) R.CAM_SWTRIG (withBit 0#32 R.CAM_SWTRIG_GO)
      u.accepts .svc (fieldAddr (pgCAMP 1) R.CAM_SWTRIG) .camp 1 = true ∧ z.pState 1 ≠ 0 ∧ z.camTMode 1 = 3) ∧
    Possible (fun u => (u.camP 0).pulse = true ∧ (u.camP 0).pulseEnd ≤ u.now) ∧
    Possible (fun u => u.nextPort = some 0 ∧ (u.camP 0).store = lineW :: []) ∧
    (bitOf (1#32).toNat 0 = true ∧ bitOf (1#32).toNat 1 = false ∧
      Possible (fun u => u.accepts .svc (fieldAddr pgCAMI R.CAM_TBLSWAP) .cami 0 = true)) :=
  ⟨by decide +kernel, by decide +kernel,
   possible_of { (stCam 1 {}).wr (pgCAMP 0) R.CAM_TRIG_TMODE 1 with pos := { off := 2 ^ 60, track := { valid := true } } }
     (by decide +kernel),
   possible_of ((stCam 1 {}).wr (pgCAMP 0) R.CAM_TRIG_TMODE 2) (by decide +kernel),
   possible_of (((stCam 1 {}).wr (pgCAMP 1) R.CAM_TRIG_TMODE 3).wr (pgCAMP 1) R.CAM_PSTAT_PSTATE 1) (by decide +kernel),
   possible_of (stCam 1 { pulse := true }) (by decide +kernel),
   possible_of (stCam 1 { store := [lineW] }) (by decide +kernel),
   ⟨by decide, by decide, possible_of (stCam 1 {}) (by decide +kernel)⟩⟩
/-- A job with the loop on bar 0. -/
def stLoop (good : Nat) : State :=
  { stJob .printing { cur := some (jobL 7) } with
    loop := { on := true, bars := [0], due := [(0, 0)], strips := [(0, { good := good })] } }
theorem witness_ColourLoop :
    Possible (fun u => u.jobs.cur = some (jobL 7) ∧ u.loop.due = [(0, 0)] ∧ u.loopBlocked = false ∧ (u.loopStrip 0 0).good ≠ 0) ∧
    Possible (fun u => u.jobs.cur = some (jobL 7) ∧ u.loop.due = [(0, 0)] ∧ u.loopBlocked = true ∧ (u.loopStrip 0 0).good ≠ 0) ∧
    Possible (fun u => u.jobs.cur = some (jobL 7) ∧ u.loop.due = [(0, 0)] ∧ (u.loopStrip 0 0).good = 0) ∧
    Possible (fun u => u.accepts .svc (fieldAddr pgLOOP R.LOOP_CMD) .loop 0 = true ∧ u.loop.on = true) :=
  ⟨possible_of (stLoop 1) (by decide +kernel), possible_of ((stLoop 1).wr pgLOOP R.LOOP_STAT_HOLDWHY 1) (by decide +kernel),
   possible_of (stLoop 0) (by decide +kernel), possible_of (stLoop 0) (by decide +kernel)⟩

/-- A device whose Weir is in a period, with one activity. -/
def stWeir (start : Nat) (a : WeirAct) (spare : Nat) : State :=
  { stIn .ready with weir := { begun := true, start := start, spare := spare, acts := [(2, a)] }, counter := 0x10000000000#80 }
theorem witness_WeirPeriods :
    Possible (fun u => u.weir.begun = true ∧ u.weir.start + u.weirPeriod = u.now) ∧
    (stWeir 0 {} 0).actThrottled 2 = false ∧
    ({ stIn .ready with weir := { throttled := true } } : State).actThrottled 12 = true ∧
    Possible (fun u => u.weir.begun = true ∧ u.now < u.weir.start + u.weirPeriod ∧ 0 < (u.act 2).level) ∧
    Possible (fun u => u.weir.begun = true ∧ u.now < u.weir.start + u.weirPeriod ∧ (u.act 2).level = 0 ∧ 0 < (u.act 2).bank ∧
      0 < u.weir.spare ∧ u.actThrottled 2 = false) ∧
    Possible (fun u => u.weir.begun = true ∧ u.now < u.weir.start + u.weirPeriod ∧ (u.act 2).level = 0 ∧
      ((u.act 2).bank = 0 ∨ u.weir.spare = 0 ∨ u.actThrottled 2 = true)) ∧
    Possible (fun u => u.accepts .svc (fieldAddr pgWEIR R.WEIR_FLOOROVR) .weir 0 = true) ∧
    (let s := ({ stIn .ready with staged := [(fieldAddr pgWEIR (R.WEIR_BUDGET_BUDGET 2), 0xFFFF#32)],
                                  committed := [(fieldAddr pgWEIR (R.WEIR_BUDGET_BUDGET 2), 0xFFFF#32)] } : State).setHead pgWEIR
       { (stIn .ready).head pgWEIR with awaiting := some .period }
     s.dueWords pgWEIR .period = (fieldAddr pgWEIR (R.WEIR_BUDGET_BUDGET 2), 0xFFFF#32) :: [] ∧
       weirOver (weirSums (s.applyWords (s.dueWords pgWEIR .period)).budget)
         ((s.applyWords (s.dueWords pgWEIR .period)).weirFloors (s.applyWords (s.dueWords pgWEIR .period)).weirPeriod) ≠ none) :=
  ⟨⟨0x10000000000#80, stWeir (0x10000000000 - (stIn .ready).weirPeriod) {} 0, by decide +kernel⟩, by decide +kernel,
   by decide +kernel, ⟨0x10000000000#80, stWeir 0x10000000000 { level := 1 } 0, by decide +kernel⟩,
   ⟨0x10000000000#80, stWeir 0x10000000000 { bank := 1 } 1, by decide +kernel⟩,
   ⟨0x10000000000#80, stWeir 0x10000000000 {} 1, by decide +kernel⟩, possible_of (stIn .ready) (by decide +kernel), by decide +kernel⟩
/-- A device with one subchannel in a state. -/
def stSc (scstate : Nat) (c : DramSc) : State := ((stIn .ready).setDram { scs := [(3, c)] }).setScState 3 scstate
/-- A scrub read, and a read of the host. -/
def txnW (port : Nat) : DramTxn := { pa := 0, port := port, bursts := 4, write := false, rmw := false, bar := 0, admitAt := 0 }
theorem witness_DramSlots :
    Possible (fun u => (u.scState 3 = 2 ∨ u.scState 3 = 4) ∧ (u.sc 3).busy ≤ u.now ∧
      (u.scRecov 3 = true ∨ u.debtMax ≤ (u.sc 3).debt)) ∧
    Possible (fun u => u.scState 3 = 2 ∧ (u.sc 3).busy ≤ u.now ∧ u.scRecov 3 = false ∧
      (u.sc 3).debt < u.debtMax ∧ u.bestTxn 3 [] [] [] (u.sc 3).queue none = some (0, 19) ∧
      ((u.sc 3).debt = 0 ∨ 19 / 2 ≤ 5)) ∧
    Possible (fun u => u.scState 3 = 2 ∧ (u.sc 3).busy ≤ u.now ∧ u.scRecov 3 = false ∧
      0 < (u.sc 3).debt ∧ (u.sc 3).debt < u.debtMax ∧
      ∀ b ∈ u.bestTxn 3 [] [] [] (u.sc 3).queue none, 5 < b.2 / 2) ∧
    Possible (fun u => u.scState 3 = 4 ∧ (u.sc 3).busy ≤ u.now ∧ u.scRecov 3 = false ∧ 0 < (u.sc 3).debt ∧
      (u.sc 3).debt < u.debtMax) ∧
    Possible (fun u => 2 ≤ u.scState 3 ∧ (u.sc 3).intEnd ≤ u.now) ∧
    Possible (fun u => (mfind (u.sc 3).rows 5).isSome = true ∧
      mget 0 (u.sc 3).used 5 + ns (atLeast1 (u.rd pgDRAM R.DRAM_CTL_IDLE)) ≤ u.now) ∧
    Possible (fun u => u.scState 3 = 3 ∧ (u.sc 3).recovAfter = false ∧
      u.rdb (pgSC 3) R.DRAM_TRNOVR_FIX = false ∧
      u.rd pgDRAM R.DRAM_RETRAIN_MINMARGIN ≤ (255#8).toNat ∧ u.rd pgDRAM R.DRAM_RETRAIN_MINMARGIN ≤ (254#8).toNat ∧
      u.rd pgDRAM R.DRAM_RETRAIN_MINMARGIN ≤ (253#8).toNat ∧
      u.rd pgDRAM R.DRAM_RETRAIN_MINMARGIN ≤ u.rd (pgSC 3) R.DRAM_SCMARGIN_CA) ∧
    Possible (fun u => u.scState 3 = 3 ∧ (u.sc 3).recovAfter = false) ∧
    (stIn .ready).isActive = false ∧
    Possible (fun u => u.rdb pgDRAM R.DRAM_CTL_SCRUBEN = true ∧ u.frozenDram = false ∧ 2 ≤ u.scState 3 ∧
      (u.sc 3).scrubAt + us (atLeast1 (u.rd pgDRAM R.DRAM_SCRUB_INT)) / (if u.scDegraded 3 then 2 else 1) ≤ u.now) :=
  ⟨possible_of (stSc 2 { debt := 4 }) (by decide +kernel), possible_of (stSc 2 { queue := [txnW 10] }) (by decide +kernel),
   possible_of (stSc 2 { debt := 1, queue := [txnW 10] }) (by decide +kernel), possible_of (stSc 4 { debt := 1 }) (by decide +kernel),
   possible_of (stSc 2 {}) (by decide +kernel),
   possible_of { stSc 2 { rows := [(5, 0)] } with counter := 0x10000000000#80 } (by decide +kernel),
   possible_of ((stSc 3 {}).wr (pgSC 3) R.DRAM_SCMARGIN_CA 255) (by decide +kernel), possible_of (stSc 3 {}) (by decide +kernel),
   by decide +kernel, possible_of { (stSc 2 {}).wr pgDRAM R.DRAM_CTL_SCRUBEN 1 with counter := 0x10000000000#80 } (by decide +kernel)⟩
theorem witness_ErrorsAndRelease :
    Possible (fun u => (u.sc 3).flight = txnW 4 :: [] ∧ u.frozenDram = false) ∧
    Possible (fun u => (u.sc 3).flight = txnW 4 :: [] ∧ u.frozenDram = true) ∧
    Possible (fun u => u.frozenDram = false) ∧
    ((stIn .ready).dev.state = .ready ∧ (stIn .ready).dev.sideAt = none) ∧
    Possible (fun u => u.accepts .svc (fieldAddr pgDRAM R.DRAM_FRZCTL) .dram 0 = true) ∧
    (stIn .frozen).dev.state = .frozen ∧
    Possible (fun u => u.dram.training = true) ∧
    Possible (fun u =>
      let z := u.setDram { u.dram with training := false }
      let y := ((z.trained []).wr pgDRAM R.DRAM_STAT_FROZEN 0).wr pgDRAM R.DRAM_STAT_FRZCAUSE 0
      u.dram.training = true ∧ (y.dropJobs.raise pgDRAM 2).dev.state = .frozen ∧
        (y.dropJobs.raise pgDRAM 2).pairMode = false) ∧
    Possible (fun _ => True) :=
  ⟨possible_of (stSc 2 { flight := [txnW 4] }) (by decide +kernel),
   possible_of ((stSc 4 { flight := [txnW 4] }).wr pgDRAM R.DRAM_STAT_FROZEN 1) (by decide +kernel),
   possible_of (stSc 2 {}) (by decide +kernel), by decide +kernel, possible_of (stIn .ready) (by decide +kernel), rfl,
   possible_of ((stIn .frozen).setDram { training := true }) (by decide +kernel),
   possible_of ((stIn .frozen).setDram { training := true }) (by decide +kernel), possible_of (stIn .ready) trivial⟩
theorem witness_CheckChannels :
    (stIn .ready).rdb pgCHK (R.CHK_CFG_MODE 15) = false ∧
    (let s := (stIn .ready).wr pgCHK (R.CHK_CFG_MODE 15) 1
     let r := chkByte (s.chkWidth 15) (s.chkPoly 15) (s.rdb pgCHK (R.CHK_CFG_REFIN 15)) (s.chkStart 15) 0x31#8
     s.rdb pgCHK (R.CHK_CFG_MODE 15) = true ∧ s.rdb pgCHK (R.CHK_CFG_UNITEV 15) = false ∧
       chkFinal (s.chkWidth 15) (s.rdb pgCHK (R.CHK_CFG_REFOUT 15)) (s.rdb pgCHK (R.CHK_CFG_INV 15)) r ≠ 0) ∧
    (chkPreset (bitsOf (0x3000#32).toNat 12 3) = some (0x00F, 0x1021, 0xFFFF) ∧ bitOf (0x3000#32).toNat 16 = false ∧
      bitsOf (0#32).toNat 12 3 = 0 ∧ bitOf (0#32).toNat 17 = false) ∧
    Possible (fun u => u.accepts .svc (fieldAddr pgCHK (R.CHK_CFG 19)) .chk 0 = true ∧ u.chkReserved 19 = false ∧
      u.rdb pgCHK (R.CHK_CFG_EN 19) = false) ∧
    Possible (fun u => u.takes .svc (headAddr pgCHK 0x20) .chk 0 = true) :=
  ⟨by decide +kernel, by decide +kernel, by decide +kernel, possible_of (stIn .ready) (by decide +kernel),
   possible_of (stIn .ready) (by decide +kernel)⟩

/-- A standby, or an active device, of a pair. -/
def stRole (r : Role) (d : DevState) : State := { stPair d 0 with dev := { (stPair d 0).dev with role := r } }
/-- A HELLO of the other device. -/
def helloW : Hello := { stPair .linkup 1 |>.hello with pairId := 1#32, roleSel := true, sysState := 0#32 }
/-- A HEART of an active device. -/
def heartW (role : Nat) : Heart :=
  { launch := 0#80, epoch := 0#32, sysState := BitVec.ofNat 32 (16 * role), received := 0#80, committed := [], x0 := 0#64, reason := 0#4 }
theorem witness_TwinFrames :
    Possible (fun u => u.twinPowered = true ∧ u.twin.paired = false ∧ u.twinState = 1 ∧ u.isActive = false ∧
      newerEpoch helloW.epoch.toNat u.twin.newest = false ∧ u.pairCode helloW = 0) ∧
    Possible (fun u => u.twinPowered = true ∧ u.twin.paired = false ∧ u.isActive = false ∧ u.dev.state = .linkup ∧
      newerEpoch helloW.epoch.toNat u.twin.newest = false ∧ u.pairCode { helloW with cap := 0#32 } ≠ 0) ∧
    Possible (fun u => u.twinPowered = true ∧ (u.isStandby = false ∨ wordRole (heartW 1).sysState ≠ 2)) ∧
    ((heartW 2).reason = 0 ∧ wordRole (heartW 2).sysState = 2 ∧
      Possible (fun u => u.twinPowered = true ∧ (u.sawEpoch (heartW 2).epoch.toNat).isStandby = true)) ∧
    Possible (fun u => u.twinPowered = true ∧ u.isStandby = true) ∧
    mfind ({ stRole .standby .ready with twin := { ownSums := [(sumKey 7 5, (9, 1))] } } : State).twin.ownSums (sumKey 7 5) = some (9, 1) ∧
    Possible (fun u => u.twinPowered = true ∧ (0#32).toNat = u.twin.deltaRx ∧ u.twin.early = [] ∧
      (({ u with twin := { u.twin with deltaRx := (u.twin.deltaRx + 1) % 2 ^ 32 } } : State).applyDelta
        (.consumed [(31, 5#64)])).twin.early = []) ∧
    Possible (fun u => u.twinPowered = true ∧ (0#32).toNat = (u.twin.deltaRx + 1) % 2 ^ 32 ∧ u.twin.deltaRx < 2 ^ 32 ∧
      u.twin.early = []) ∧
    Possible (fun u => u.twin.gapAt = some 0 ∧ 0 + ms 1 ≤ u.now ∧ u.isStandby = true ∧ u.twin.early = [(4, .consumed [])]) ∧
    Possible (fun u => u.twinPowered = true ∧ 0 < min 3 ((u.basin 31).p - (0#64).toNat) ∧
      (u.basin 31).p ≤ (0#64).toNat + u.basinSize 31) ∧
    Possible (fun u => u.twinPowered = true ∧ u.listening = true ∧ (0#64).toNat ≤ (u.basin 23).p ∧
      [1#8].drop ((u.basin 23).p - (0#64).toNat) ≠ [] ∧ u.hostBasin 23 = true ∧
      (u.basin 23).p + ([1#8].drop ((u.basin 23).p - (0#64).toNat)).length ≤ u.basinLimit 23) ∧
    (¬ (tileType (frameW 0 0 0 14 39 0 []) = 4 ∧ tileSub (frameW 0 0 0 14 39 0 []) = 0) ∧
      isPrbs (tileType (frameW 0 0 0 14 39 0 [])) (tileSub (frameW 0 0 0 14 39 0 [])) = false ∧
      Possible (fun u => u.twinPowered = true ∧ u.isStandby = true ∧ u.laneUp 39 = true ∧
        u.rdb (pgTLNK 39) R.TLNK_STAT_HEALED = true)) ∧
    (tileType (frameW 6 0 14 0 39 0 []) = 6 ∧
      Possible (fun u => u.twinPowered = true ∧ u.isStandby = false ∧ u.isActive = true ∧ u.twin.relay.contains 39 = true)) ∧
    Possible (fun u => u.accepts .svc (fieldAddr pgTWIN R.TWIN_CMD) .twin 0 = true ∧ u.isActive = true) ∧
    Possible (fun u => u.twinPowered = true ∧ u.twin.paired = false ∧ u.twin.helloAt + ms 1 ≤ u.now) ∧
    Possible (fun u => u.twinPowered = true ∧ u.rdb pgTWIN R.TWIN_STAT_LANE1 = false ∧
      ((u.wr pgTWIN R.TWIN_STAT_LANE1 1).raise pgTWIN 0 1).anyTwin = true) ∧
    Possible (fun u => u.twinPowered = true ∧ u.rdb pgTWIN R.TWIN_STAT_LANE0 = true ∧
      ((u.wr pgTWIN R.TWIN_STAT_LANE0 0).raise pgTWIN 1 0).anyTwin = false ∧ u.isStandby = true) :=
  ⟨possible_of { (stPair .linkup 0).setTwinState 1 with twin := { pairedId := 1 } } (by decide +kernel),
   possible_of { stPair .linkup 0 with twin := { pairedId := 1 } } (by decide +kernel),
   possible_of (stRole .active .ready) (by decide +kernel),
   ⟨rfl, by decide +kernel, possible_of (stRole .standby .ready) (by decide +kernel)⟩,
   possible_of (stRole .standby .ready) (by decide +kernel), by decide +kernel,
   possible_of (stRole .standby .ready) (by decide +kernel),
   possible_of { stRole .standby .ready with twin := { pairedId := 1, deltaRx := 2 ^ 32 - 1 } } (by decide +kernel),
   possible_of { stRole .standby .ready with
     twin := { gapAt := some 0, early := [(4, .consumed [])] }, counter := 0x10000000000#80 } (by decide +kernel),
   possible_of ((stRole .active .ready).setBasin 31 { p := 2 }) (by decide +kernel),
   possible_of ((((stRole .standby .ready).wr pgYRT R.YRT_CTL_LISTEN 1).wr pgBASNW (R.BASN_RCFG_EN 23) 1).wr pgBASNW
     (R.BASN_RCFG_LOG2SIZE 23) 12) (by decide +kernel),
   ⟨by decide +kernel, by decide +kernel, possible_of (((stRole .standby .ready).wr (pgTLNK 39) R.TLNK_STAT_LSTATE 6).wr
     (pgTLNK 39) R.TLNK_STAT_HEALED 1) (by decide +kernel)⟩,
   ⟨by decide +kernel, possible_of { stRole .active .ready with twin := { pairedId := 1, relay := [39] } } (by decide +kernel)⟩,
   possible_of (stRole .active .ready) (by decide +kernel),
   possible_of { stPair .linkup 0 with twin := { pairedId := 1 }, counter := 0x10000000000#80 } (by decide +kernel),
   possible_of ((stRole .active .ready).wr pgTWIN R.TWIN_STAT_LANE1 0) (by decide +kernel),
   possible_of ((stRole .standby .ready).wr pgTWIN R.TWIN_STAT_LANE1 0) (by decide +kernel)⟩
/-- A device of a pair whose heartbeat paths were last heard at ticks. -/
def stBeat (r : Role) (pin link : Nat) : State :=
  { stRole r .ready with twin := { pairedId := 1, pinLast := some pin, linkLast := some link }, counter := 0x10000000000#80 }
theorem witness_Heartbeats :
    Possible (fun u => u.twinPowered = true ∧ (u.twin.beatAt = 0 ∨ u.twin.beatAt + u.beatPeriod ≤ u.now) ∧
      (u.twin.beatAt = 0 ∨ u.now < u.twin.beatAt + u.beatPeriod + 41)) ∧
    Possible (fun u => u.twinPowered = true ∧ u.twin.pinLast ≠ none ∧ u.silent true = true ∧ u.silent false = false ∧
      u.twin.pinAlarmed = false) ∧
    Possible (fun u => u.twinPowered = true ∧ u.twin.linkLast ≠ none ∧ u.silent false = true ∧ u.silent true = false ∧
      u.twin.linkAlarmed = false) ∧
    Possible (fun u => u.twinPowered = true ∧ u.twin.pinLast ≠ none ∧ u.silent true = true ∧ u.silent false = true ∧
      u.isStandby = true ∧ u.twin.declared = none ∧ u.pagesUp = true) ∧
    Possible (fun u => u.twinPowered = true ∧ u.twin.pinLast ≠ none ∧ u.silent true = true ∧ u.silent false = true ∧
      u.isStandby = false ∧ u.isActive = true ∧ u.twinState = 3) ∧
    Possible (fun u => u.twinPowered = true ∧ u.rdb pgTWIN R.TWIN_STAT_HBPIN = false ∧ u.twin.declared = none) ∧
    Possible (fun u => u.twinPowered = true ∧ u.twin.healthAt + ms (atLeast1 (u.rd pgTWIN R.TWIN_HLTHCFG_PERIOD)) ≤ u.now) :=
  ⟨possible_of (stBeat .active 0 0) (by decide +kernel), possible_of (stBeat .standby 0 0x10000000000) (by decide +kernel),
   possible_of (stBeat .standby 0x10000000000 0) (by decide +kernel), possible_of (stBeat .standby 0 0) (by decide +kernel),
   possible_of ((stBeat .active 0 0).setTwinState 3) (by decide +kernel), possible_of (stBeat .active 0 0) (by decide +kernel),
   possible_of (stBeat .active 0 0) (by decide +kernel)⟩
theorem witness_SluiceAndTakeover :
    Possible (fun u => u.twin.declared ≠ none ∧ u.twin.sluiceIn = false ∧ u.isStandby = true ∧
      (u.dev.state = .ready ∨ u.inJob = true) ∧ u.beatWaits = false ∧ (u.twin.held = false ∨ (u.silent false = true ∧ u.silent true = true))) ∧
    Possible (fun u => u.beatWaits = true) ∧
    (stRole .standby .ready).dev.role ≠ .active ∧
    Possible (fun u => u.twin.declared = some (2, 0) ∧ u.twin.held = false ∧ u.twin.sluiceIn = true ∧
      0 + us (atLeast1 (u.rd pgTWIN R.TWIN_CFG_SLUICEWAIT)) ≤ u.now) ∧
    Possible (fun u => u.twin.sluiceIn = true ∧ u.isActive = true ∧ (u.dev.state = .ready ∨ u.inJob = true) ∧
      u.twin.sluiceInAt + us (if u.rdb pgSYS R.SYS_STRAP_ROLE_SEL then 2 else 40) ≤ u.now) ∧
    Possible (fun u => u.twin.sluiceIn = true) ∧
    Possible (fun u => u.twin.sluiceOut = true ∧ u.twin.monoEnd ≤ u.now ∧ u.isActive = true ∧
      u.dev.state ≠ .frozen ∧ u.dev.state ≠ .safe) ∧
    Possible (fun u => u.dev.state = .fenced ∧ u.twin.sluiceIn = false ∧ u.pairMode = false) ∧
    Possible (fun u => u.dev.state = .fenced ∧ u.twin.sluiceIn = false ∧ u.pairMode = true ∧ u.jobs.cur = none) ∧
    Possible (fun u => u.accepts .svc (fieldAddr pgTWIN R.TWIN_CMD) .twin 0 = true ∧ u.liveActive = true) ∧
    Possible (fun u => u.takes .svc (fieldAddr pgTWIN R.TWIN_CMD) .twin 0 = true) :=
  let t : TwinS := { pairedId := 1, declared := some (2, 0), sluiceIn := true, sluiceOut := true }
  let c := 0x10000000000#80
  ⟨possible_of { stRole .standby .ready with twin := { declared := some (2, 0) } } (by decide +kernel),
   possible_of { stRole .standby .ready with twin := { declared := some (1, 0) }, pending := [.hbInPulse 0#80] } (by decide +kernel),
   by decide +kernel,
   possible_of { stRole .standby .ready with twin := t, counter := c } (by decide +kernel),
   possible_of { stRole .active .ready with twin := t, counter := c } (by decide +kernel),
   possible_of { stRole .active .ready with twin := t } (by decide +kernel),
   possible_of { stRole .active .ready with twin := t, counter := c } (by decide +kernel),
   possible_of (stIn .fenced) (by decide +kernel), possible_of (stPair .fenced 0) (by decide +kernel),
   possible_of (stRole .active .ready) (by decide +kernel), possible_of (stRole .active .ready) (by decide +kernel)⟩

/-- A state in which sensors are sampled, with calibrated sensors. -/
def stTherm (x : ThermSensor) : State :=
  { (stIn .ready).wr pgSYS R.SYS_START_STEP 13 with part := { (stIn .ready).part with calOk := true }, therm := { sens := [(31, x)] } }
theorem witness_SensorsAndVcore :
    Possible (fun u => u.sensing = true ∧ u.reading 31 (20000#16).toNat = some 0 ∧ (u.sensor 31).fault = false ∧ 31 < 32) ∧
    Possible (fun u => u.sensing = true ∧ u.reading 31 (20000#16).toNat = some 0 ∧ (u.sensor 31).fault = true ∧
      (u.sensor 31).good + 1 < 16 ∧ 31 < 32) ∧
    (stTherm {}).level 1 < 1 ∧
    (limitsOk true (0x04030201#32).toNat = true ∧ limitsOk false (0x01030201#32).toNat = false) ∧
    Possible (fun u => u.accepts .svc (fieldAddr pgTHRM (if true then R.THRM_DRAMLIM else R.THRM_DIELIM)) .thrm 0 = true) ∧
    Possible (fun u => u.takes .svc (fieldAddr pgTHRM (if false then R.THRM_DRAMLIM else R.THRM_DIELIM)) .thrm 0 = true) ∧
    Possible (fun u => u.avs.stopped = false ∧ u.avs.lockedOut = false ∧ u.pagesUp = true ∧ u.dev.state ≠ .safe ∧
      u.rdb pgSYS R.SYS_AVSCFG_EN = true ∧ u.vcoreFixed = false ∧
      u.avs.intervalAt + ms (atLeast1 (u.rd pgSYS R.SYS_AVSCFG_INT)) ≤ u.now ∧
      256 + u.rd pgSYS R.SYS_AVSCFG_LOMARG ≤ u.avs.smin ∧
      u.avs.smin ≤ 256 + max (u.rd pgSYS R.SYS_AVSCFG_LOMARG + 1) (u.rd pgSYS R.SYS_AVSCFG_HIMARG)) ∧
    Possible (fun u => u.avs.stopped = false ∧ u.avs.lockedOut = false ∧ u.pagesUp = true ∧ u.dev.state ≠ .safe ∧
      u.rdb pgSYS R.SYS_AVSCFG_EN = true ∧ u.vcoreFixed = false ∧
      u.avs.intervalAt + ms (atLeast1 (u.rd pgSYS R.SYS_AVSCFG_INT)) ≤ u.now ∧
      u.avs.smin < 256 + u.rd pgSYS R.SYS_AVSCFG_LOMARG ∧
      u.rd pgSYS R.SYS_VCORE_TARGET + atLeast1 (u.rd pgSYS R.SYS_AVSCFG_STEP) < 900) ∧
    Possible (fun u => u.pagesUp = true ∧ u.avs.lockedOut = false) ∧
    Possible (fun u => u.accepts .svc (fieldAddr pgSYS R.SYS_AVSOVR) .sys 0 = true) ∧
    Possible (fun u => u.accepts .svc (fieldAddr pgSYS R.SYS_AVSCFG) .sys 0 = true ∧ u.rdb pgSYS R.SYS_AVSCFG_EN = false) :=
  let a (n : Nat) : State :=
    { (stIn .ready).wr pgSYS R.SYS_AVSCFG_EN 1 with avs := { stopped := false, smin := n }, counter := 0x10000000000#80 }
  ⟨possible_of (stTherm {}) (by decide +kernel), possible_of (stTherm { fault := true }) (by decide +kernel),
   by decide +kernel, by decide, possible_of (stIn .ready) (by decide +kernel), possible_of (stIn .ready) (by decide +kernel),
   possible_of (a (256 + max ((stIn .ready).rd pgSYS R.SYS_AVSCFG_LOMARG + 1) ((stIn .ready).rd pgSYS R.SYS_AVSCFG_HIMARG)))
     (by decide +kernel), possible_of (a 0) (by decide +kernel), possible_of (a 0) (by decide +kernel),
   possible_of (stIn .ready) (by decide +kernel), possible_of ((stIn .ready).wr pgSYS R.SYS_AVSCFG_EN 0) (by decide +kernel)⟩
/-- A state with one press input. -/
def stPio (x : PioIn) : State := { stIn .ready with pio := { ins := [(15, x)] } }
theorem witness_PressInputs :
    Possible (fun u => u.early = [] ∧ u.edgesFirst.pagesUp = true ∧ (u.edgesFirst.pin 15).hold = none ∧
      true ≠ (u.edgesFirst.pin 15).raw ∧ u.edgesFirst.rd pgPIO (R.PIO_ICFG_FILT 15) ≠ 0) ∧
    Possible (fun u => u.early = [] ∧ u.edgesFirst.pagesUp = true ∧ (u.edgesFirst.pin 15).hold = none ∧
      true ≠ (u.edgesFirst.pin 15).raw ∧ u.edgesFirst.rd pgPIO (R.PIO_ICFG_FILT 15) = 0) ∧
    Possible (fun u => u.early = [] ∧ u.edgesFirst.pagesUp = true ∧
      (u.edgesFirst.pin 15).hold = some { tick := 5, endTick := 2000000000000, level := true } ∧
      u.edgesFirst.now < 2000000000000 ∧ false ≠ (u.edgesFirst.pin 15).raw) ∧
    Possible (fun u => u.early = [] ∧ (u.edgesFirst.pin 15).hold = some { tick := 5, endTick := 5, level := true } ∧
      5 ≤ u.edgesFirst.now) ∧
    (let s := stPio {}
     s.rdb pgPIO R.PIO_IMAP_STOPEN = false ∧ s.rdb pgPIO R.PIO_IMAP_TRIGEN = false ∧
       s.rdb pgPIO R.PIO_IMAP_WEBEN = false ∧ s.rdb pgPIO (R.PIO_ICFG_EVEDGE 15) = false) ∧
    (let s := ((stPio {}).wr pgPIO R.PIO_IMAP_STOPEN 1).wr pgPIO R.PIO_IMAP_STOPIN 15
     s.rdb pgPIO R.PIO_IMAP_STOPEN = true ∧ s.rd pgPIO R.PIO_IMAP_STOPIN = 15 ∧
       s.rdb pgPIO R.PIO_IMAP_TRIGEN = false ∧ s.rdb pgPIO R.PIO_IMAP_WEBEN = false) :=
  ⟨possible_of ((stPio {}).wr pgPIO (R.PIO_ICFG_FILT 15) 3) (by decide +kernel),
   possible_of ((stPio {}).wr pgPIO (R.PIO_ICFG_FILT 15) 0) (by decide +kernel),
   possible_of { stPio { raw := true, hold := some { tick := 5, endTick := 2000000000000, level := true } } with
     counter := 0x10000000000#80 } (by decide +kernel),
   possible_of { stPio { hold := some { tick := 5, endTick := 5, level := true } } with counter := 0x10000000000#80 } (by decide +kernel),
   by decide +kernel, by decide +kernel⟩
end

section
/-!
SUPPORT. Laws that the proofs of this part share: bit fields and the registers that hold them, runs over a list, a change of
the device state, and a write that its block refuses.
-/
namespace Sys2Proof.Machine

/-- `t` has the registers, the DRAM store, the headers and the twin unit of `s`: all that a change of the device state keeps
and a proof below reads. -/
structure ChangeFrame (s t : State) : Prop where
  regs : t.regs = s.regs
  mem : t.mem = s.mem
  hdr : t.hdr = s.hdr
  twin : t.twin = s.twin

/-! ### Fields of registers -/

/-- Bits written into a number read back, modulo their width. -/
theorem bitsOf_setBits (n lo w v : Nat) : bitsOf (setBits n lo w v) lo w = v % 2 ^ w := by
  have hlo : n % 2 ^ lo < 2 ^ lo := Nat.mod_lt _ (Nat.two_pow_pos lo)
  have hsplit : setBits n lo w v = n % 2 ^ lo + 2 ^ lo * (v % 2 ^ w + 2 ^ w * (n / 2 ^ (lo + w))) := by
    simp only [setBits, Nat.pow_add, Nat.mul_add]; ac_rfl
  rw [bitsOf, hsplit, Nat.add_mul_div_left _ _ (Nat.two_pow_pos lo), Nat.div_eq_of_lt hlo, Nat.zero_add,
    Nat.add_mul_mod_self_left, Nat.mod_mod]

/-- A field below bit `m` does not see the bits from `m` on. -/
theorem bitsOf_mod (n lo w m : Nat) (h : lo + w ≤ m) : bitsOf (n % 2 ^ m) lo w = bitsOf n lo w := by
  apply Nat.eq_of_testBit_eq
  intro i
  simp only [bitsOf, Nat.testBit_mod_two_pow, Nat.testBit_div_two_pow]
  by_cases hi : i < w
  · have : i + lo < m := by omega
    simp [this]
  · simp [hi]

/-- A field of a register reads back what is written to it, modulo its width. -/
theorem rd_wr_same (s : State) (pg : Nat) (f : Fld) (v : Nat) (h : f.lo + f.w ≤ 32) :
    (s.wr pg f v).rd pg f = v % 2 ^ f.w := by
  simp only [State.rd, State.wr, word_setWord, if_true, BitVec.toNat_ofNat, bitsOf_mod _ _ _ _ h, bitsOf_setBits]

/-- A write of a field leaves every other word. -/
theorem word_wr_other (s : State) (pg : Nat) (f : Fld) (v a : Nat) (h : pg * 4096 + f.off ≠ a) :
    (s.wr pg f v).word a = s.word a := by
  simp only [State.wr, word_setWord, if_neg h]

/-- A write of a field leaves the fields of every other register. -/
theorem rd_wr_other (s : State) (pg : Nat) (f : Fld) (v : Nat) (q : Nat) (g : Fld)
    (h : pg * 4096 + f.off ≠ q * 4096 + g.off) : (s.wr pg f v).rd q g = s.rd q g := by
  simp only [State.rd, word_wr_other s pg f v _ h]

/-- A command bit of a value reads 1. -/
theorem bitOf_withBit (v : Word) (f : Fld) (h : f.lo < 32) : bitOf (withBit v f).toNat f.lo = true := by
  have hbit : (withBit v f).toNat.testBit f.lo = true := by
    rw [BitVec.testBit_toNat, withBit, BitVec.getLsbD_or, BitVec.getLsbD_ofNat]
    simp [h]
  rw [Nat.testBit_eq_decide_div_mod_eq] at hbit
  simpa [bitOf] using hbit

/-! ### The bits of the pins -/

/-- The sum of the first `k` weighted bits of a predicate spells the predicate below `k`. -/
theorem testBit_sumBits (p : Nat → Bool) (k n : Nat) :
    ((List.range k).foldl (fun a n => a + b2n (p n) * 2 ^ n) 0).testBit n = (decide (n < k) && p n) := by
  suffices h : (List.range k).foldl (fun a n => a + b2n (p n) * 2 ^ n) 0 < 2 ^ k ∧
      ((List.range k).foldl (fun a n => a + b2n (p n) * 2 ^ n) 0).testBit n = (decide (n < k) && p n) from h.2
  induction k with
  | zero => simp
  | succ k ih =>
    obtain ⟨hlt, hbit⟩ := ih
    rw [List.range_succ, List.foldl_append]
    generalize (List.range k).foldl (fun a n => a + b2n (p n) * 2 ^ n) 0 = a at hlt hbit
    have hb : b2n (p k) ≤ 1 := by cases p k <;> simp [b2n]
    simp only [List.foldl_cons, List.foldl_nil]
    constructor
    · have := Nat.mul_le_mul_right (2 ^ k) hb
      rw [Nat.pow_succ]; omega
    · rw [Nat.add_comm, Nat.mul_comm, Nat.testBit_two_pow_mul_add _ hlt]
      split
      · rw [hbit]; congr 1; simp; omega
      · rcases Nat.lt_trichotomy n k with h | rfl | h
        · omega
        · cases p n <;> simp [b2n]
        · have : (b2n (p k)).testBit (n - k) = false :=
            Nat.testBit_lt_two_pow (Nat.lt_of_le_of_lt hb (Nat.one_lt_two_pow (by omega)))
          rw [this]; simp; omega

/-- A pin of the 16 carries its bit of the predicate. -/
theorem getLsbD_bits16 (p : Nat → Bool) (n : Nat) (h : n < 16) : (BitVec.ofNat 16 (bits16 p)).getLsbD n = p n := by
  rw [BitVec.getLsbD_ofNat, bits16, testBit_sumBits]
  simp [h]

/-! ### Runs over a list -/

theorem each_eq_foldl {α : Type} (f : State → α → State) (s : State) (l : List α) :
    State.each f s l = l.foldl f s := by
  induction l generalizing s with
  | nil => rfl
  | cons a t ih => exact ih (f s a)

/-- What every operation of a run keeps, the run keeps. -/
theorem foldl_keeps {α β : Type} {f : State → α → State} {p : State → β} (l : List α)
    (h : ∀ s, ∀ a ∈ l, p (f s a) = p s) (s : State) : p (l.foldl f s) = p s := by
  induction l generalizing s with
  | nil => rfl
  | cons a t ih =>
    rw [List.foldl_cons, ih (fun s b hb => h s b (List.mem_cons_of_mem a hb)), h s a List.mem_cons_self]

/-- What the operation of each element establishes for it, and the others keep, holds after the run for each. -/
theorem foldl_establishes {f : State → Nat → State} {P : State → Nat → Prop} (hown : ∀ s k, P (f s k) k)
    (hother : ∀ s k n, k ≠ n → P s n → P (f s k) n) {l : List Nat} {n : Nat} (hn : n ∈ l) (s : State) :
    P (l.foldl f s) n := by
  have hkeep : ∀ (t : List Nat) (s : State), P s n → P (t.foldl f s) n := by
    intro t
    induction t with
    | nil => exact fun _ h => h
    | cons b t ih =>
      intro s h
      refine ih _ ?_
      by_cases hb : b = n
      · exact hb ▸ hown s b
      · exact hother s b n hb h
  induction l generalizing s with
  | nil => cases hn
  | cons a t ih =>
    rcases List.mem_cons.mp hn with rfl | ht
    · exact hkeep t _ (hown s n)
    · exact ih ht _

/-! ### A change of the device state (R25) -/

/-- A change of STATE, ROLE or both: PRIOR, TRANSEQ, and the SYS flag 0 with the new SYS_STATE (01, SYS_STATE). -/
theorem change_eq {s : State} {st : DevState} {role : Role} (cause : Nat) (h : ¬ (st = s.dev.state ∧ role = s.dev.role)) :
    (s.change st role cause).dev =
      { s.dev with state := st, role := role, cause := cause, transeq := s.dev.transeq + 1#8,
                   prior := if st = s.dev.state then s.dev.prior else s.dev.state } ∧
    (s.change st role cause).raised = s.raised ++ [(pgSYS, 0, (s.change st role cause).sysState)] := by
  simp only [State.change, if_neg h]
  exact ⟨rfl, rfl⟩

/-- A change of the device state leaves the registers, the DRAM store, the headers and the twin unit. -/
theorem change_frame (s : State) (st : DevState) (role : Role) (cause : Nat) : ChangeFrame s (s.change st role cause) := by
  simp only [State.change]
  split
  · exact ⟨rfl, rfl, rfl, rfl⟩
  · constructor <;> simp only [raise_fields, hit_fields]

theorem rd_change (s : State) (st : DevState) (role : Role) (cause pg : Nat) (f : Fld) :
    (s.change st role cause).rd pg f = s.rd pg f := by
  simp only [State.rd, State.word, (change_frame s st role cause).regs]

theorem twin_change (s : State) (st : DevState) (role : Role) (cause : Nat) : (s.change st role cause).twin = s.twin :=
  (change_frame s st role cause).twin

/-- A change to another state enters it with its cause. -/
theorem change_entered {s : State} {st : DevState} (role : Role) (cause : Nat) (hne : st ≠ s.dev.state) :
    (s.change st role cause).dev.state = st ∧ (s.change st role cause).dev.cause = cause := by
  rw [(change_eq cause fun h => hne h.1).1]
  exact ⟨rfl, rfl⟩

/-- A device that has not been in a side state before enters the one that R25 allows, with its cause. -/
theorem enterSide_entered {s : State} {st : DevState} {cause : Nat} (ha : sideAllowed s.dev.state cause st = true)
    (hst : st ≠ .halted) (hne : st ≠ s.dev.state) (hn : s.dev.sideAt = none) :
    (s.enterSide st cause).dev.state = st ∧ (s.enterSide st cause).dev.cause = cause := by
  have hp : s.priorTo = s.dev.state := by simp only [State.priorTo, hn]
  simp only [State.enterSide, ha, if_true, if_neg hst, hp]
  exact change_entered _ cause hne

/-! ### A write that its block refuses (R44) -/

/-- A write that its block refuses: the refusal of R44, on the state as the block left it. -/
theorem regWrite_denied {s t : State} {m : Master} {addr : Nat} {k : PageKind} {inst i c : Nat} {env : WriteEnv} {v : Word}
    {d : RegDef} {l : Bool} (h : s.takes m addr k inst = true) (ho : 0x40 ≤ pageOff addr)
    (hf : findReg k.regs (pageOff addr) = some (d, i)) (hc : c ≠ 0 ∧ c ≠ 5)
    (hw : s.writeBlock env m k inst addr d i v = (c, l, t)) :
    s.regWrite m addr v env = t.refuse m addr v.toNat c := by
  simp only [State.regWrite, accessWrite_takes env v h, State.performWrite, hf, hw, if_neg (Nat.not_lt.mpr ho), hc, ne_eq,
    not_false_eq_true, and_self, or_self, if_true, if_false]

end Sys2Proof.Machine
end

section
/-!
SUPPORT and CERTIFICATE. A safe state stays safe (O3, O4): what the last operations of a command leave.
-/
namespace Sys2Proof.Machine

/-! ### Settled outputs -/

/-- A driven output with a source level carries that level. -/
theorem outPin_of_outLevel {s : State} {n : Nat} {l : Bool} (ha : s.outsAllowed = true) (h : s.outLevel n = some l) :
    s.outPin n = l := by
  have hsrc : s.outSrc n ≠ 0 := by
    intro h0; simp [State.outLevel, h0] at h
  simp [State.outPin, State.outDriven, ha, hsrc, h]

/-- After the outputs have settled, every driven pin follows its source (R682 to R684). -/
theorem pinsFollow_settle (s : State) : s.settle.pinsFollow := by
  simp only [State.settle]
  split
  next ha =>
    intro _ n hn l hl
    exact (getLsbD_bits16 _ n hn).trans (outPin_of_outLevel ha hl)
  next ha => exact fun h => absurd h ha

/-! ### The end of a command -/

/-- The last operations of a command read the device state only, and leave it. -/
@[simp] theorem sideState_sluiceRule (s : State) : s.sluiceRule.sideState = s.sideState := by
  simp only [State.sluiceRule]; split <;> rfl
@[simp] theorem sideState_measDrop (s : State) : s.measDrop.sideState = s.sideState := by
  simp only [State.measDrop]; split <;> rfl

theorem sluiceReleased_sluiceRule (s : State) : s.sluiceRule.sluiceReleased := by
  intro h
  rw [sideState_sluiceRule] at h
  simp only [State.sluiceRule, if_pos h]; rfl

theorem noMeas_measDrop (s : State) : s.measDrop.noMeas := by
  intro h e he
  rw [sideState_measDrop] at h
  simp only [State.measDrop, if_pos h, List.mem_filter, List.mem_map] at he
  obtain ⟨⟨x, _, rfl⟩, _⟩ := he
  rfl

theorem pinsFollow_sluiceRule {s : State} (h : s.pinsFollow) : s.sluiceRule.pinsFollow := by
  simp only [State.sluiceRule]
  split
  · exact fun ha n hn l hl => h ha n hn l hl
  · exact h

theorem pinsFollow_measDrop {s : State} (h : s.pinsFollow) : s.measDrop.pinsFollow := by
  simp only [State.measDrop]
  split
  · exact fun ha n hn l hl => h ha n hn l hl
  · exact h

theorem sluiceReleased_measDrop {s : State} (h : s.sluiceReleased) : s.measDrop.sluiceReleased := by
  intro hs
  rw [sideState_measDrop] at hs
  simp only [State.measDrop, if_pos hs]
  exact h hs

/-- What follows every command makes the state safe, whatever the command has made of it. -/
theorem safe_finish (e s : State) : (e.finish s).safe :=
  ⟨sluiceReleased_measDrop (sluiceReleased_sluiceRule _), noMeas_measDrop _,
   pinsFollow_measDrop (pinsFollow_sluiceRule (pinsFollow_settle _))⟩

/-- The queue has no part in safety. -/
theorem safe_setPending {s : State} (q : List Instr) (h : s.safe) : ({ s with pending := q } : State).safe := h

theorem safe_after (e s : State) : (e.after s).safe := safe_setPending _ (safe_finish e s)

/-- Every command is an operation at its tick, and what follows every command. -/
theorem exec_does (c : Instr) (s : State) : ∃ t f, exec c s = s.does t f := by
  cases c <;> simp only [exec] <;> exact ⟨_, _, rfl⟩

/-- A command answers what follows every command of some state. -/
theorem exec_after {c : Instr} {s w : State} (h : exec c s = .next w) : ∃ e : State, w = e.after s := by
  obtain ⟨t, f, hf⟩ := exec_does c s
  rw [hf] at h
  injection h with hw
  exact ⟨f (s.atTick t), hw.symm⟩

/-- Settles O3: an empty queue idles, and what follows every command makes the state safe. -/
theorem stepKeepsSafe : Obligations.StepKeepsSafe := by
  intro s w hs h
  unfold step at h
  split at h
  next =>
    injection h with hw
    exact hw ▸ hs
  next =>
    obtain ⟨e, rfl⟩ := exec_after h
    exact safe_after e _

/-- Settles O4: RESET is no side state and drives no outputs. -/
theorem resetSafe : Obligations.ResetSafe := by
  have hside : State.reset.sideState = false := by decide
  have houts : State.reset.outsAllowed = false := by decide
  exact ⟨fun h => absurd h (by simp [hside]), fun h => absurd h (by simp [hside]), fun h => absurd h (by simp [houts])⟩

end Sys2Proof.Machine
end

section
/-!
SUPPORT and CERTIFICATE. What follows every command clears no event flag (O10): only an event record writes a header, and
it sets a flag.
-/
namespace Sys2Proof.Machine

/-! ### Headers that an operation leaves -/

@[simp] theorem hdr_hostSend (s : State) (n : Nat) (x : HostTx) : (s.hostSend n x).hdr = s.hdr := by
  simp only [State.hostSend]; repeat' split
  all_goals rfl

@[simp] theorem hdr_readOut (s : State) (c : Option (Nat × Nat)) : (s.readOut c).hdr = s.hdr := by
  cases c with
  | none => rfl
  | some e => simp only [State.readOut]; split <;> rfl

@[simp] theorem hdr_sendSeq (s : State) (k : Nat) (f : ToSend) : (s.sendSeq k f).hdr = s.hdr := by
  simp only [State.sendSeq, State.sendNow]; split <;> simp

@[simp] theorem hdr_streamEvent (s : State) (b pos : Nat) (bs : List Byte) (n : Nat) :
    (s.streamEvent b pos bs n).hdr = s.hdr := by
  induction n with
  | zero => rfl
  | succ n ih => simp only [State.streamEvent]; split <;> simp [ih]

@[simp] theorem hdr_stream (s : State) (b pos : Nat) (bs : List Byte) (n : Nat) :
    (s.stream b pos bs n).hdr = s.hdr := by
  induction n generalizing s pos bs with
  | zero => rfl
  | succ n ih => simp only [State.stream]; split <;> simp [ih]

@[simp] theorem hdr_basinPut (bs : List Byte) (s : State) (b n : Nat) : (s.basinPut b n bs).hdr = s.hdr := by
  induction bs generalizing s n with
  | nil => rfl
  | cons x xs ih => simp only [State.basinPut, ih]

@[simp] theorem hdr_recordRaw (s : State) (b : Nat) (bs : List Byte) : (s.recordRaw b bs).hdr = s.hdr := by
  simp only [State.recordRaw, State.appendRaw]; split <;> simp

@[simp] theorem hdr_chkFeed (s : State) (n inst : Nat) (bs : List Byte) (first last : Bool) (e : Option Nat) :
    (s.chkFeed n inst bs first last e).2.hdr = s.hdr := by
  simp only [State.chkFeed, apply_ite Prod.snd, apply_ite State.hdr, inc_fields, setChkCtx_fields, ite_self]

@[simp] theorem hdr_chkTap (s : State) (src inst : Nat) (bs : List Byte) (first last : Bool) (e : Option Nat) (n : Nat) :
    (s.chkTap src inst bs first last e n).2.hdr = s.hdr := by
  induction n with
  | zero => rfl
  | succ n ih => simp only [State.chkTap]; split <;> simp [ih]

/-! ### Flags that stay set -/

/-- Every flag set in `s` is set in `t`. -/
def State.flagsIn (s t : State) : Prop := ∀ pg f, s.flag pg f = true → t.flag pg f = true

theorem flagsIn_of_hdr {s t : State} (h : t.hdr = s.hdr) : s.flagsIn t := by
  intro pg f hf
  simpa only [State.flag, State.head, h] using hf

theorem State.flagsIn.trans {s t u : State} (h1 : s.flagsIn t) (h2 : t.flagsIn u) : s.flagsIn u :=
  fun pg f h => h2 pg f (h1 pg f h)

/-- Setting a flag of a header keeps the others (R72). -/
theorem flags_set (h : Hdr) (flag f : Nat) (hf : h.flags.getLsbD f = true) : (h.set flag).flags.getLsbD f = true := by
  simp [Hdr.set, hf]

/-- The header that an event flag leaves on its page, and on the others. -/
theorem head_raiseRaw (s : State) (pg flag d q : Nat) :
    (s.raiseRaw pg flag d).2.head q = if pg = q then (s.head pg).set flag else s.head q := by
  have h : (s.raiseRaw pg flag d).2.hdr = (s.setHead pg ((s.head pg).set flag)).hdr := by
    simp only [State.raiseRaw]; split <;> simp
  rw [← head_setHead, State.head, h]; rfl

theorem flagsIn_raiseRaw (s : State) (pg flag d : Nat) : s.flagsIn (s.raiseRaw pg flag d).2 := by
  intro q f hf
  rw [State.flag, head_raiseRaw]
  split
  next h => exact flags_set _ _ _ (h ▸ hf)
  next => exact hf

theorem flagsIn_raiseChk (fs : List (Nat × Nat)) (s : State) : s.flagsIn (s.raiseChk fs) := by
  induction fs generalizing s with
  | nil => exact flagsIn_of_hdr rfl
  | cons e t ih => exact (flagsIn_raiseRaw s _ _ _).trans (ih _)

theorem flagsIn_tap (s : State) (src inst : Nat) (bs : List Byte) (first last : Bool) (e : Option Nat) :
    s.flagsIn (s.tap src inst bs first last e) :=
  (flagsIn_of_hdr (hdr_chkTap s src inst bs first last e 20)).trans (flagsIn_raiseChk _ _)

theorem flagsIn_raiseNow (s : State) (pg flag d : Nat) : s.flagsIn (s.raiseNow pg flag d) := by
  have h := flagsIn_raiseRaw s pg flag d
  simp only [State.raiseNow]
  split
  · exact h.trans (flagsIn_tap _ _ _ _ _ _ _)
  · exact h

theorem flagsIn_raiseList (fs : List (Nat × Nat × Nat)) (s : State) : s.flagsIn (s.raiseList fs) := by
  induction fs generalizing s with
  | nil => exact flagsIn_of_hdr rfl
  | cons e t ih => exact (flagsIn_raiseNow s _ _ _).trans (ih _)

theorem flagsIn_raiseAll (s : State) : s.flagsIn s.raiseAll :=
  (flagsIn_of_hdr (t := { s with raised := [] }) rfl).trans (flagsIn_raiseList _ _)

/-! ### What follows every command -/

@[simp] theorem hdr_credits (s : State) : s.credits.hdr = s.hdr := by
  have h : ∀ (t : State) n, (t.creditCheck n).hdr = t.hdr := fun t n => by
    simp only [State.creditCheck, State.credit, State.draw]; split <;> simp
  simp [State.credits, h]

@[simp] theorem hdr_twinSendOn (s : State) (n : Nat) (f : TwinFrame) : (s.twinSendOn n f).hdr = s.hdr := by
  simp only [State.twinSendOn]; split <;> rfl

@[simp] theorem hdr_sendDelta (s : State) (d : Delta) : (s.sendDelta d).hdr = s.hdr := by
  simp only [State.sendDelta, State.twinKeep, State.twinSend]; split <;> simp

@[simp] theorem hdr_helloChange (s old : State) : (s.helloChange old).hdr = s.hdr := by
  simp only [State.helloChange, State.twinSendBoth]; split <;> simp

@[simp] theorem hdr_shareSessions (s old : State) (n : Nat) : (s.shareSessions old n).hdr = s.hdr := by
  induction n with
  | zero => rfl
  | succ n ih => simp only [State.shareSessions]; split <;> simp [ih]

@[simp] theorem hdr_holdMark (s : State) : s.holdMark.hdr = s.hdr := by
  simp only [State.holdMark]; repeat' split
  all_goals rfl

@[simp] theorem hdr_loopStatus (s : State) : s.loopStatus.hdr = s.hdr := rfl

@[simp] theorem hdr_loopHold (s : State) : s.loopHold.hdr = s.hdr := by
  simp only [State.loopHold]
  split
  · rfl
  · simp only [hdr_loopStatus, apply_ite State.hdr, hdr_holdMark, raise_fields, setLoop_fields, wr_fields,
      ite_self]

@[simp] theorem hdr_settle (s : State) : s.settle.hdr = s.hdr := by simp only [State.settle]; split <;> rfl
@[simp] theorem hdr_sluiceRule (s : State) : s.sluiceRule.hdr = s.hdr := by
  simp only [State.sluiceRule]; split <;> rfl
@[simp] theorem hdr_measDrop (s : State) : s.measDrop.hdr = s.hdr := by simp only [State.measDrop]; split <;> rfl

/-- The flags set by a command or before it are set after what follows the command. -/
theorem flagsIn_after (e s : State) : e.flagsIn (e.after s) := by
  have h1 : e.flagsIn e.loopHold.raiseAll := (flagsIn_of_hdr (hdr_loopHold e)).trans (flagsIn_raiseAll _)
  exact h1.trans (flagsIn_of_hdr (by simp [State.after, State.finish]))

/-- A register outside the side pages reads as the command left it. -/
theorem word_after (e s : State) (a : Nat) (h : sidePage (pageOf a) = false) : (e.after s).word a = e.word a := by
  rw [← inner_word _ a h, inner_after, inner_word _ a h]

/-- Settles O10: `State.inner` and the queue by the laws of what follows every command, flags and registers by the lemmas
above. -/
theorem afterKeeps : Obligations.AfterKeeps :=
  fun e s => ⟨inner_after e s, after_pending e s, flagsIn_after e s, word_after e s⟩

end Sys2Proof.Machine
end

section
/-!
CERTIFICATE. What reset leaves, the supply and reset pins, and the steps of start-up (O5, O12, O14).
-/
namespace Sys2Proof.Machine

/-! ### Reset -/

/-- Every register word has its reset value at reset. -/
theorem word_reset (a : Nat) : State.reset.word a = regReset a := rfl

theorem basinOn_reset (b : Nat) (h : b < 32) : State.reset.basinOn b = false := by
  have hall : ∀ c : Fin 32, State.reset.basinOn c.val = false := by decide +kernel
  exact hall ⟨b, h⟩

/-- Settles O5: empty stores answer their defaults, and every register word is its reset value. -/
theorem resetValues : Obligations.ResetValues :=
  ⟨rfl, rfl, by decide, fun _ => rfl, fun _ => rfl, basinOn_reset, fun _ _ => rfl, rfl, by decide, word_reset, rfl⟩

/-! ### Supply and reset pins -/

theorem goto_effect (s : State) (st : DevState) (h : s.dev.state ≠ st) :
    (s.goto st).dev = { s.dev with state := st, prior := s.dev.state, transeq := s.dev.transeq + 1#8 } ∧
    (s.goto st).raised = s.raised ++ [(pgSYS, 0, (s.goto st).sysState)] ∧ (s.goto st).regs = s.regs ∧
    (s.goto st).mem = s.mem ∧ (s.goto st).hdr = s.hdr := by
  have hne : st ≠ s.dev.state := fun e => h e.symm
  obtain ⟨hdev, hraised⟩ := change_eq (role := s.dev.role) s.dev.cause (fun hc => hne hc.1)
  rw [if_neg hne] at hdev
  have hkeep := change_frame s st s.dev.role s.dev.cause
  exact ⟨hdev, hraised, hkeep.regs, hkeep.mem, hkeep.hdr⟩

/-- LOAD starts as both pins are high (R25). -/
theorem startLoad_eq (s : State) (h : s.dev.state = .reset) (hp : s.dev.pwrgood = true) :
    s.startLoad = if s.dev.resetN then s.goto .load else s := by
  simp [State.startLoad, h, hp]

theorem runs_pwrgoodRise_low : Runs .pwrgoodRise (fun u => u.dev.state = .off ∧ u.dev.resetN = false) (fun u =>
    let z := u.cleared.wr pgSYS R.SYS_RSTCNT 0x10000
    { z with dev := { z.dev with state := .reset, pwrgood := true } }) := by
  refine runs_of (f := (·.powerUp)) (fun _ _ => rfl) fun u ⟨hs, hr⟩ => ?_
  have h : (u.cleared.wr pgSYS R.SYS_RSTCNT 0x10000).dev.resetN = false := hr
  simp only [State.powerUp, hs, ne_eq, not_true_eq_false, if_false]
  rw [startLoad_eq _ rfl rfl, h]
  rfl

theorem runs_pwrgoodRise_high : Runs .pwrgoodRise (fun u => u.dev.state = .off ∧ u.dev.resetN = true) (fun u =>
    let z := u.cleared.wr pgSYS R.SYS_RSTCNT 0x10000
    ({ z with dev := { z.dev with state := .reset, pwrgood := true } } : State).goto .load) := by
  refine runs_of (f := (·.powerUp)) (fun _ _ => rfl) fun u ⟨hs, hr⟩ => ?_
  have h : (u.cleared.wr pgSYS R.SYS_RSTCNT 0x10000).dev.resetN = true := hr
  simp only [State.powerUp, hs, ne_eq, not_true_eq_false, if_false]
  rw [startLoad_eq _ rfl rfl, h]
  rfl

theorem runs_resetNFall_off : Runs .resetNFall (fun u => u.dev.state = .off)
    (fun u => { u with dev := { u.dev with resetN := false } }) := by
  refine runs_of (f := (·.resetLow)) (fun _ _ => rfl) fun u hs => ?_
  simp only [State.resetLow, hs, if_true]

theorem runs_resetNFall_on : Runs .resetNFall (fun u => u.dev.state ≠ .off) (fun u =>
    let z := ({ u with dev := { u.dev with resetN := false } } : State).cleared
    ({ z with dev := { z.dev with state := .reset } } : State).wr pgSYS R.SYS_RSTCNT
      ((u.rd pgSYS R.SYS_RSTCNT_PIN + 1) % 65536)) := by
  refine runs_of (f := (·.resetLow)) (fun _ _ => rfl) fun u hs => ?_
  simp only [State.resetLow, if_neg hs]
  rfl

theorem runs_resetNRise : Runs .resetNRise (fun u => u.dev.state = .reset ∧ u.dev.pwrgood = true) (fun u =>
    ({ u with dev := { u.dev with resetN := true } } : State).goto .load) := by
  refine runs_of (f := (·.resetHigh)) (fun _ _ => rfl) fun u ⟨hs, hp⟩ => ?_
  exact startLoad_eq { u with dev := { u.dev with resetN := true } } hs hp

/-- Settles O12: each pin's operation, in the branch that the state chooses. -/
theorem supplyPins : Obligations.SupplyPins :=
  ⟨goto_effect, runs_pwrgoodRise_low, runs_pwrgoodRise_high,
   runs_of (f := (·.powerOff)) (fun _ _ => rfl) (fun _ _ => rfl), runs_resetNFall_off, runs_resetNFall_on, runs_resetNRise,
   runs_of (f := (·.vio33Up)) (fun _ _ => rfl) (fun _ _ => rfl)⟩

/-! ### BUILD and READY -/

section Build
variable {u : State}

/-- Step 7 of BUILD ends with calibration, or fails (R662). -/
theorem buildStep_calibrated (hs : u.dev.state = .build) (hn : u.startStep = 7) (fail : Option (Fin 5)) :
    u.buildStep (.calibrated fail) = match fail with
      | some k => u.startFail 7 k.val
      | none => u.toStep 8 := by
  cases fail <;> simp only [State.buildStep, hs, hn, ne_eq, not_true_eq_false, if_false, if_true]

/-- The SRAM test and DRAM training run together, as steps 8 and 9. -/
theorem steps89 (hn : u.startStep = 8 ∨ u.startStep = 9) : (u.startStep == 8 || u.startStep == 9) = true := by
  rcases hn with h | h <;> simp [h]

theorem buildStep_sram (hs : u.dev.state = .build) (hn : u.startStep = 8 ∨ u.startStep = 9) (ho : u.dev.sramOk = false)
    (g : Fin 16) (n : Nat) (hle : n ≤ 64) : u.buildStep (.sram g false n) =
      ({ u with dev := { u.dev with sramOk := true } } : State).toStep (if u.dev.dramOk then 10 else 9) := by
  simp only [State.buildStep, hs, steps89 hn, ho, ne_eq, not_true_eq_false, if_false, Bool.not_true, Bool.or_false,
    Bool.false_or, Bool.false_eq_true, decide_eq_true_eq, Nat.not_lt.mpr hle]

theorem buildStep_dram (hs : u.dev.state = .build) (hn : u.startStep = 8 ∨ u.startStep = 9) (ho : u.dev.dramOk = false)
    (l : List (BitVec 32)) : u.buildStep (.dram none l) =
      ({ u.trained (l.take 8) with dev := { (u.trained (l.take 8)).dev with dramOk := true } } : State).toStep
        (if (u.trained (l.take 8)).dev.sramOk then 10 else u.startStep) := by
  simp only [State.buildStep, hs, steps89 hn, ho, ne_eq, not_true_eq_false, if_false, Bool.not_true, Bool.or_false,
    Bool.false_eq_true]

theorem buildStep_fabric (hs : u.dev.state = .build) (hn : u.startStep = 10) (hf : 46080 ≤ u.part.f1)
    (hd : 35750 ≤ u.part.fd1) (v : BitVec 16) (hv : 256 ≤ v.toNat) :
    u.buildStep (.fabric true v) = (u.wr pgWEIR R.WEIR_SPEED v.toNat).toStep 11 := by
  have hfloor : ¬ (u.part.f1 < 46080 ∨ u.part.fd1 < 35750) := by omega
  simp only [State.buildStep, hs, hn, ne_eq, not_true_eq_false, if_false, if_true, Bool.not_true, Bool.false_eq_true,
    Nat.not_lt.mpr hv, wr_fields, hfloor]

theorem buildStep_initialised (hs : u.dev.state = .build) (hn : u.startStep = 11) (v : Option (BitVec 8)) :
    u.buildStep (.initialised v) = u.enterLinkup v := by
  simp only [State.buildStep, hs, hn, ne_eq, not_true_eq_false, if_false, if_true]

/-- READY alone: SOLO (R583, R666). -/
theorem enterReady_solo (hs : u.dev.state = .linkup) (hl : u.hostLanesUp = true) (hp : u.pairMode = false) :
    u.enterReady =
      ((((u.change .ready .solo u.dev.cause).setTwinState 0).wr pgSYS R.SYS_START_STEP 13).markTime 2).tryStart := by
  simp only [State.enterReady, hs, hl, hp]
  rfl

/-- READY in a pair that has formed, by the role that R583 gives. -/
theorem enterReady_pair (hs : u.dev.state = .linkup) (hl : u.hostLanesUp = true) (hp : u.pairMode = true)
    (h0 : u.twinUp 0 = true) (h1 : u.twinUp 1 = true) (hf : u.twin.paired = true) :
    u.enterReady = if u.pairRole = .active then
        if u.twin.sluiceIn then u
        else ((((u.becomeActive .ready).setTwinState 3).wr pgSYS R.SYS_START_STEP 13).markTime 2).sendAlign
      else (((u.change .ready .standby u.dev.cause).setTwinState 2).wr pgSYS R.SYS_START_STEP 13).markTime 2 := by
  simp only [State.enterReady, hs, hl, hp, h0, h1, hf]
  rfl

end Build

/-- Settles O14: each step in the branch that its state and result choose. -/
theorem buildAndReady : Obligations.BuildAndReady := by
  refine ⟨?calibrated, ?notCalibrated, ?sram, ?dram, ?fabric, ?initialised, ?solo, ?standby, ?active⟩
  case calibrated =>
    exact runs_of (f := (·.buildStep _)) (fun _ _ => rfl) fun u ⟨hs, hn⟩ => buildStep_calibrated hs hn none
  case notCalibrated =>
    exact fun n => runs_of (f := (·.buildStep _)) (fun _ _ => rfl) fun u ⟨hs, hn⟩ => buildStep_calibrated hs hn (some n)
  case sram =>
    exact fun g n hle => runs_of (f := (·.buildStep _)) (fun _ _ => rfl)
      fun u ⟨hs, hn, ho⟩ => buildStep_sram hs hn ho g n hle
  case dram =>
    exact fun l => runs_of (f := (·.buildStep _)) (fun _ _ => rfl) fun u ⟨hs, hn, ho⟩ => buildStep_dram hs hn ho l
  case fabric =>
    exact fun v hv => runs_of (f := (·.buildStep _)) (fun _ _ => rfl)
      fun u ⟨hs, hn, hf, hd⟩ => buildStep_fabric hs hn hf hd v hv
  case initialised =>
    exact fun v => runs_of (f := (·.buildStep _)) (fun _ _ => rfl) fun u ⟨hs, hn⟩ => buildStep_initialised hs hn v
  case solo =>
    exact runs_of (f := (·.enterReady)) (fun _ _ => rfl) fun u ⟨hs, hl, hp⟩ => enterReady_solo hs hl hp
  case standby =>
    refine runs_of (f := (·.enterReady)) (fun _ _ => rfl) fun u ⟨hs, hl, hp, h0, h1, hf, hr⟩ => ?_
    rw [enterReady_pair hs hl hp h0 h1 hf, if_neg hr]
  case active =>
    refine runs_of (f := (·.enterReady)) (fun _ _ => rfl) fun u ⟨hs, hl, hp, h0, h1, hf, hr, hi⟩ => ?_
    rw [enterReady_pair hs hl hp h0 h1 hf, if_pos hr, hi]
    rfl

end Sys2Proof.Machine
end

section
/-!
CERTIFICATE. Errors of the DRAM and SRAM, freeze and release (O54).
-/
namespace Sys2Proof.Machine

/-! ### Freeze (R554, R555) -/

@[simp] theorem dev_setSc (s : State) (n : Nat) (x : DramSc) : (s.setSc n x).dev = s.dev := by
  simp only [State.setSc, State.scRegs, wr_fields, setDram_fields]

@[simp] theorem dev_freezeSc (s : State) (k : Nat) : (s.freezeSc k).dev = s.dev := by
  simp only [State.freezeSc, State.setScState]
  split <;> simp only [State.setRecov, State.scBit, wr_fields, dev_setSc]

/-- A READY device freezes with the cause of the error. -/
theorem freeze_ready (s : State) (n : Nat) (data : Bool) (hs : s.dev.state = .ready) (hn : s.dev.sideAt = none) :
    (s.freeze n data).dev.state = .frozen ∧ (s.freeze n data).dev.cause = if data then 5 else 6 := by
  have hdev : ∀ z : State, (State.each State.freezeSc z (List.range 8)).dev = z.dev := fun z => by
    rw [each_eq_foldl]
    exact foldl_keeps (p := State.dev) _ (fun t k _ => dev_freezeSc t k) z
  simp only [State.freeze]
  refine enterSide_entered ?_ (by decide) ?_ ?_
  all_goals simp only [raise_fields, wr_fields, hdev]
  · show sideAllowed s.dev.state _ _ = true
    rw [hs]; rfl
  · show DevState.frozen ≠ s.dev.state
    rw [hs]; decide
  · exact hn

/-- Without other errors of the tick, a data error freezes the controller with its record. -/
theorem freezeBy_data {s : State} (hp : s.pending = []) (n : Nat) (e : DramErr) :
    s.freezeBy [(n, e)] [] = (s.setDram { s.dram with froze := e }).freeze n true := by
  simp [State.freezeBy, hp, lowest]

/-- Without other errors of the tick, a parity error freezes the controller with its code. -/
theorem freezeBy_parity {s : State} (hp : s.pending = []) (n code : Nat) :
    s.freezeBy [] [(n, code)] = (s.setDram { s.dram with parity := (code, n, s.now) }).freeze n false := by
  simp [State.freezeBy, hp, lowest, State.setDram]

/-- Of errors of one tick the data error of the lowest subchannel freezes the controller; the parity error is recorded. -/
theorem freezeBy_both {s : State} (hp : s.pending = []) {a b : Nat} (c : Nat) (e f : DramErr) (h : a < b) :
    s.freezeBy [(b, f), (a, e)] [(c, 0)] =
      ((s.setDram { s.dram with parity := (0, c, s.now) }).setDram
        { s.dram with parity := (0, c, s.now), froze := e }).freeze a true := by
  simp [State.freezeBy, hp, lowest, h, State.setDram]

/-! ### Read data (R551, R554) -/

section ReadData
variable {u : State} {n : Nat} {x : DramTxn} {rest : List DramTxn}

theorem readData_clean (hf : (u.sc n).flight = x :: rest) : u.readData n .clean =
    if u.frozenDram then u else (u.setSc n { u.sc n with flight := rest }).flightOver x := by
  simp only [State.readData, hf]

theorem readData_corrected (hf : (u.sc n).flight = x :: rest) (hz : u.frozenDram = false) (b : Fin 4) (w : Fin 8)
    (two : Bool) (syn : BitVec 16) : u.readData n (.corrected b w two syn) =
      ((u.setSc n { u.sc n with flight := rest }).flightOver x).corrected x b.val w.val syn.toNat two := by
  simp only [State.readData, hf, hz, Bool.false_eq_true, if_false]

theorem readData_uncorrectable (hf : (u.sc n).flight = x :: rest) (hz : u.frozenDram = false) (b : Fin 4) (w : Fin 8)
    (syn : BitVec 16) : u.readData n (.uncorrectable b w syn) =
      u.freezeBy [(n, u.errRecord x b.val w.val syn.toNat 3)] [] := by
  simp only [State.readData, hf, State.dataError, hz, Bool.false_and, Bool.false_eq_true, if_false]

theorem flightOver_read (s : State) (h : x.write = false) : s.flightOver x =
    (let back := bySeq x s.dram.back
     State.each State.txnDone (s.setDram { s.dram with back := back.filter s.olderRead })
       (back.filter fun y => !s.olderRead y)) := by
  simp only [State.flightOver, h, Bool.false_eq_true, if_false]

theorem parityError_unfrozen (hz : u.frozenDram = false) (code : Nat) :
    u.parityError n code = u.freezeBy [] [(n, code)] := by
  simp only [State.parityError, hz, Bool.false_and, Bool.false_eq_true, if_false]

end ReadData

/-! ### Release (R557) -/

/-- A write of FRZCTL stores it and, with RELEASE, starts the release. -/
theorem writeDram_frzctl (s : State) {d : RegDef} (hd : d.off = R.DRAM_FRZCTL.off) (v : Word) (hv : bitOf v.toNat 0 = true) :
    s.writeDram (fieldAddr pgDRAM R.DRAM_FRZCTL) d v =
      wrote (s.putReg pgDRAM (fieldAddr pgDRAM R.DRAM_FRZCTL) d v).freezeRelease := by
  have hmap : inRun R.DRAM_FRZCTL.off R.DRAM_MAPSC0.off 28 = false := by decide
  have hrsv : (R.DRAM_FRZCTL.off == R.DRAM_RSV.off) = false := by decide
  have hpg : pageNo (fieldAddr pgDRAM R.DRAM_FRZCTL) = pgDRAM := by decide
  simp only [State.writeDram, hmap, hrsv, hd, hv, State.putThen, hpg, Bool.false_or, Bool.false_and, Bool.false_eq_true,
    if_false, if_true]

/-- What the release has made of a subchannel: nothing is queued or in flight, and it trains. -/
def State.scReleased (s : State) (n : Nat) : Prop :=
  (s.sc n).queue = [] ∧ (s.sc n).flight = [] ∧ s.scState n = 1

/-- What a subchannel's release rests on: the subchannel and its status word. -/
theorem scReleased_congr {s t : State} {n : Nat} (hsc : t.sc n = s.sc n)
    (hw : t.word (fieldAddr (pgSC n) R.DRAM_SCSTAT) = s.word (fieldAddr (pgSC n) R.DRAM_SCSTAT)) (h : s.scReleased n) :
    t.scReleased n := by
  obtain ⟨hq, hf, hst⟩ := h
  refine ⟨hsc ▸ hq, hsc ▸ hf, ?_⟩
  rw [← hst]
  exact congrArg (fun w : Word => bitsOf w.toNat 0 3) hw

/-- A write outside the subchannel's status word leaves its release. -/
theorem scReleased_wr {s : State} {n pg : Nat} {f : Fld} (v : Nat)
    (h : pg * 4096 + f.off ≠ fieldAddr (pgSC n) R.DRAM_SCSTAT) (hs : s.scReleased n) : (s.wr pg f v).scReleased n :=
  scReleased_congr (by simp only [State.sc, wr_fields]) (word_wr_other s pg f v _ h) hs

/-- The status words of two subchannels, and that of the controller, are three registers. -/
theorem scstat_ne {k n : Nat} (h : k ≠ n) {f : Fld} (hf : f.off = R.DRAM_SCSTAT.off) :
    pgSC k * 4096 + f.off ≠ fieldAddr (pgSC n) R.DRAM_SCSTAT := by
  simp only [fieldAddr, pgSC, hf]; omega
theorem dramStat_ne (n : Nat) : pgDRAM * 4096 + R.DRAM_STAT_TRAINED.off ≠ fieldAddr (pgSC n) R.DRAM_SCSTAT := by
  simp only [fieldAddr, pgSC, pgDRAM, R.DRAM_STAT_TRAINED, R.DRAM_SCSTAT]; omega
/-- The configuration registers of the basins lie at other offsets than the status words. -/
theorem basnRcfg_ne (b n : Nat) : pgBASNW * 4096 + (R.BASN_RCFG_EN b).off ≠ fieldAddr (pgSC n) R.DRAM_SCSTAT := by
  simp only [fieldAddr, pgSC, pgBASNW, R.BASN_RCFG_EN, R.DRAM_SCSTAT]; omega

/-- The release of one subchannel: its queues are discarded and it trains (R557). -/
def State.releaseSc (s : State) (n : Nat) : State :=
  ((s.setSc n { s.sc n with queue := [], flight := [], waits := [], rows := [] }).setDegraded n false).setScState n 1

theorem sc_setDegraded (s : State) (k : Nat) (v : Bool) (n : Nat) : (s.setDegraded k v).sc n = s.sc n := by
  simp only [State.sc, State.setDegraded, State.scBit, wr_fields]

theorem sc_setSc (s : State) (k n : Nat) (x : DramSc) : (s.setSc k x).sc n = if k = n then x else s.sc n := by
  simp only [State.sc, State.setSc, State.scRegs, wr_fields, State.setDram, mget_mset]
  split
  · split <;> simp_all
  · rfl

theorem sc_releaseSc (s : State) (k n : Nat) : (s.releaseSc k).sc n =
    if k = n then { s.sc k with queue := [], flight := [], waits := [], rows := [] } else s.sc n := by
  have hst : ∀ (z : State) (v : Nat), (z.setScState k v).sc n = z.sc n := fun z v => by
    simp only [State.sc, State.setScState, wr_fields]
  rw [State.releaseSc, hst, sc_setDegraded, sc_setSc]

theorem scReleased_releaseSc (s : State) (k : Nat) : (s.releaseSc k).scReleased k := by
  refine ⟨?_, ?_, rd_wr_same _ _ _ _ (by decide)⟩ <;> rw [sc_releaseSc, if_pos rfl]

theorem scReleased_releaseSc_other (s : State) (k n : Nat) (h : k ≠ n) (hs : s.scReleased n) :
    (s.releaseSc k).scReleased n := by
  refine scReleased_congr ?_ ?_ hs
  · rw [sc_releaseSc, if_neg h]
  · have hsc : ∀ (f : Fld) (z : State) (v : Nat), f.off = R.DRAM_SCSTAT.off →
        (z.wr (pgSC k) f v).word (fieldAddr (pgSC n) R.DRAM_SCSTAT) = z.word (fieldAddr (pgSC n) R.DRAM_SCSTAT) :=
      fun f z v hf => word_wr_other z _ f v _ (scstat_ne h hf)
    simp only [State.releaseSc, State.setScState, State.setDegraded, State.scBit, State.setSc, State.scRegs]
    rw [hsc R.DRAM_SCSTAT_SCSTATE _ _ rfl, word_wr_other _ _ R.DRAM_STAT_DEGRADED _ _ (dramStat_ne n),
      hsc R.DRAM_SCSTAT_DEGRADED _ _ rfl, hsc R.DRAM_SCSTAT_QDEPTH _ _ rfl, hsc R.DRAM_SCSTAT_DEBT _ _ rfl]
    simp only [State.word, setDram_fields]

/-- A control field of a basin that the hardware writes leaves the release of a subchannel. -/
theorem scReleased_wrSelf {s : State} {n : Nat} (b v : Nat) (hs : s.scReleased n) :
    (s.wrSelf pgBASNW (R.BASN_RCFG_EN b) v).scReleased n := by
  simp only [State.wrSelf]
  split
  · exact hs
  · exact scReleased_wr v (basnRcfg_ne b n) hs

/-- A run of operations that each keep the release keeps it. -/
theorem scReleased_foldl {f : State → Nat → State} {n : Nat} (h : ∀ s b, s.scReleased n → (f s b).scReleased n)
    (l : List Nat) {s : State} (hs : s.scReleased n) : (l.foldl f s).scReleased n := by
  induction l generalizing s with
  | nil => exact hs
  | cons b t ih => exact ih (h s b hs)

/-- The controller's other data leave the release of a subchannel. -/
theorem scReleased_setDram {s : State} {n : Nat} {x : DramS} (hx : x.scs = s.dram.scs) (h : s.scReleased n) :
    (s.setDram x).scReleased n :=
  scReleased_congr (by simp only [State.sc, State.setDram, hx]) (by simp only [State.word, setDram_fields]) h

/-- A bar's delay lines have no part in the release of a subchannel. -/
theorem scReleased_setBarRast {s : State} {n : Nat} (b : Nat) (x : BarRast) (h : s.scReleased n) :
    (s.setBarRast b x).scReleased n :=
  scReleased_congr (by simp only [State.sc, setBarRast_fields]) (by simp only [State.word, setBarRast_fields]) h

/-- The release of a frozen controller (R557): a state in which every subchannel is released, with nothing held. -/
theorem freezeRelease_frozen (s : State) (hs : s.dev.state = .frozen) :
    ∃ z : State, (∀ n, n < 8 → z.scReleased n) ∧ s.freezeRelease =
      z.setDram { z.dram with heldQ := [], back := [], froze := {}, parity := (0, 0, 0), training := true } := by
  simp only [State.freezeRelease, hs, ne_eq, not_true_eq_false, if_false]
  refine ⟨_, fun n hn => ?_, rfl⟩
  have hsc : ∀ z : State, ((List.range 8).foldl State.releaseSc z).scReleased n :=
    foldl_establishes scReleased_releaseSc scReleased_releaseSc_other (List.mem_range.mpr hn)
  refine scReleased_wr 0 (dramStat_ne n) ?_
  refine scReleased_foldl (fun z b h => scReleased_setBarRast _ _ h) _ ?_
  refine scReleased_foldl (fun z b h => scReleased_wrSelf _ _ h) _ ?_
  refine scReleased_foldl (fun z b h => ?_) _ (hsc _)
  split
  · exact h
  · exact scReleased_wrSelf _ _ h

/-- After it the controller trains every subchannel, with nothing queued or in flight. -/
theorem freezeRelease_trains (s : State) (n : Nat) (hs : s.dev.state = .frozen) (hn : n < 8) :
    s.freezeRelease.dram.training = true ∧ s.freezeRelease.scReleased n := by
  obtain ⟨z, hz, heq⟩ := freezeRelease_frozen s hs
  rw [heq]
  exact ⟨rfl, scReleased_setDram rfl (hz n hn)⟩

section ReleaseDone
variable {u : State}

theorem releaseDone_fail (ht : u.dram.training = true) (n : Nat) (margins : List (BitVec 32)) :
    u.releaseDone (some n) margins =
      (State.each (fun s k => s.setScState k 4) (u.setDram { u.dram with training := false }) (List.range 8)).raise
        pgDRAM 3 n := by
  simp only [State.releaseDone, ht, Bool.not_true, Bool.false_eq_true, if_false, each_eq_foldl]

/-- A release that trains leads a device without a twin to READY (R25, R583). -/
theorem releaseDone_solo (ht : u.dram.training = true) (margins : List (BitVec 32)) {x : State}
    (hx : x = (((((u.setDram { u.dram with training := false }).trained margins).wr pgDRAM R.DRAM_STAT_FROZEN 0).wr pgDRAM
      R.DRAM_STAT_FRZCAUSE 0).dropJobs.raise pgDRAM 2)) (hs : x.dev.state = .frozen) (hp : x.pairMode = false) :
    u.releaseDone none margins = (x.setTwinState 0).change .ready .solo (x.setTwinState 0).dev.cause := by
  simp only [State.releaseDone, ht, Bool.not_true, Bool.false_eq_true, if_false, ← hx, hs, hp, ne_eq, not_true_eq_false,
    Bool.not_false, if_true, reduceCtorEq]

end ReleaseDone

/-- The FRZCTL register of the DRAM page. -/
theorem findReg_frzctl : ∃ d i, findReg PageKind.dram.regs (pageOff (fieldAddr pgDRAM R.DRAM_FRZCTL)) = some (d, i) ∧
    regAt (fieldAddr pgDRAM R.DRAM_FRZCTL) = some d ∧ d.off = R.DRAM_FRZCTL.off :=
  ⟨_, _, rfl, rfl, rfl⟩

/-- A command that writes RELEASE to FRZCTL and passes the checks. -/
theorem regCmd_release {u : State} {m : Master} (v : Word)
    (h : u.accepts m (fieldAddr pgDRAM R.DRAM_FRZCTL) .dram 0 = true) :
    u.regCmd m pgDRAM R.DRAM_FRZCTL (withBit v R.DRAM_FRZCTL_RELEASE) =
      (u.stored pgDRAM R.DRAM_FRZCTL (withBit v R.DRAM_FRZCTL_RELEASE)).freezeRelease.acceptedBy u m .dram 0
        (fieldAddr pgDRAM R.DRAM_FRZCTL) (withBit v R.DRAM_FRZCTL_RELEASE) := by
  obtain ⟨d, i, hf, ha, hd⟩ := findReg_frzctl
  have hbit : bitOf (withBit v R.DRAM_FRZCTL_RELEASE).toNat 0 = true := bitOf_withBit v R.DRAM_FRZCTL_RELEASE (by decide)
  have hstored : u.stored pgDRAM R.DRAM_FRZCTL (withBit v R.DRAM_FRZCTL_RELEASE) =
      u.putReg pgDRAM (fieldAddr pgDRAM R.DRAM_FRZCTL) d (withBit v R.DRAM_FRZCTL_RELEASE) := by
    simp only [State.stored, ha]
  rw [hstored]
  exact regWrite_accept h (by decide) hf (Or.inl rfl) (writeDram_frzctl u hd _ hbit)

/-- Settles O54: each error and each step of the release in the branch that its state chooses. -/
theorem errorsAndRelease : Obligations.ErrorsAndRelease := by
  refine ⟨?clean, ?readOver, ?corrected, ?uncorrectable, ?data, ?both, ?frozen, ?parity, ?parityFreeze, ?frozenState,
    ?release, ?released, ?fail, ?done, ?sramCorrected, ?sramFatal, ?sramNozzle⟩
  case clean =>
    refine fun sc x rest => runs_of (f := (·.readData sc.val .clean)) (fun _ _ => rfl) fun u ⟨hf, hz⟩ => ?_
    rw [readData_clean hf, hz]
    rfl
  case readOver => exact fun s x h => flightOver_read s h
  case corrected =>
    exact fun sc b w two syn x rest => runs_of (f := (·.readData sc.val _)) (fun _ _ => rfl)
      fun u ⟨hf, hz⟩ => readData_corrected hf hz b w two syn
  case uncorrectable =>
    exact fun sc b w syn x rest => runs_of (f := (·.readData sc.val _)) (fun _ _ => rfl)
      fun u ⟨hf, hz⟩ => readData_uncorrectable hf hz b w syn
  case data => exact fun s n e hp => freezeBy_data hp n e
  case both => exact fun s a b c e f hp h => freezeBy_both hp c e f h
  case frozen =>
    refine fun sc x rest => runs_of (f := (·.readData sc.val .clean)) (fun _ _ => rfl) fun u ⟨hf, hz⟩ => ?_
    rw [readData_clean hf, hz]
    rfl
  case parity =>
    exact fun sc code => runs_of (f := (·.parityError sc.val code.toNat)) (fun _ _ => rfl)
      fun u hz => parityError_unfrozen hz _
  case parityFreeze => exact fun s n code hp => freezeBy_parity hp n code
  case frozenState => exact freeze_ready
  case release =>
    exact fun m v => runs_of (f := (·.regCmd m pgDRAM R.DRAM_FRZCTL (withBit v R.DRAM_FRZCTL_RELEASE))) (fun _ _ => rfl)
      fun u h => regCmd_release v h
  case released => exact freezeRelease_trains
  case fail =>
    exact fun sc margins => runs_of (f := (·.releaseDone (some sc.val) margins)) (fun _ _ => rfl)
      fun u ht => releaseDone_fail ht sc.val margins
  case done =>
    exact fun margins => runs_of (f := (·.releaseDone none margins)) (fun _ _ => rfl)
      fun u ⟨ht, hs, hp⟩ => releaseDone_solo ht margins rfl hs hp
  case sramCorrected => exact fun site => runs_of (f := (·.sramScrub site false)) (fun _ _ => rfl) fun u _ => rfl
  case sramFatal => exact runs_of (f := (·.sramScrub .other true)) (fun _ _ => rfl) fun u _ => rfl
  case sramNozzle =>
    exact fun b i => runs_of (f := (·.sramScrub (.nozzle b i) true)) (fun _ _ => rfl) fun u _ => rfl

end Sys2Proof.Machine
end

section
/-!
CERTIFICATE. The Sluice, the takeover and the handover (O58).
-/
namespace Sys2Proof.Machine

/-! ### Becoming active (R579, R602) -/

/-- An epoch has 32 bits. -/
theorem nextEpoch_lt (s : State) : s.nextEpoch < 2 ^ 32 := Nat.mod_lt _ (by decide)

theorem twin_wr (s : State) (pg : Nat) (f : Fld) (v : Nat) : (s.wr pg f v).twin = s.twin := by
  simp only [wr_fields]

/-- A device that becomes active drives SLUICE_OUT and takes the next epoch. -/
theorem becomeActive_effect (s : State) (st : DevState) (h : s.dev.role ≠ .active) :
    (s.becomeActive st).dev.role = .active ∧ (s.becomeActive st).twin.sluiceOut = true ∧
      (s.becomeActive st).rd pgTWIN R.TWIN_EPOCH = s.nextEpoch := by
  simp only [State.becomeActive]
  refine ⟨?_, ?_, ?_⟩
  · rw [(change_eq _ fun hc => h (Eq.symm (by simpa only [wr_fields, setTwin_fields] using hc.2))).1]
  · rw [twin_change, twin_wr]
    rfl
  · rw [rd_change, rd_wr_same _ _ _ _ (by decide)]
    exact Nat.mod_eq_of_lt (nextEpoch_lt s)

/-! ### Takeover and Sluice (R602, R604 to R607) -/

section Sluice
variable {u : State}

theorem takeover_waits (hb : u.beatWaits = true) : u.takeover = u := by
  simp only [State.takeover, hb, Bool.or_true, Bool.true_or, if_true]

/-- The conditions of R604 and R606 together. -/
theorem takeover_eq (hd : u.twin.declared ≠ none) (hi : u.twin.sluiceIn = false) (hs : u.isStandby = true)
    (hr : u.dev.state = .ready ∨ u.inJob = true) (hb : u.beatWaits = false)
    (hh : u.twin.held = false ∨ (u.silent false = true ∧ u.silent true = true)) :
    u.takeover =
      (let bars := barsOf u.curBars
       let z := State.each State.takeBar u bars
       let y := z.setTwin { z.twin with declared := none, held := false, paired := false, peerC := [] }
       let x := (y.becomeActive y.dev.state).setTwinState 4
       let w := (x.raise pgTWIN 4 (x.rd pgTWIN R.TWIN_EPOCH)).epochSend.outDiff.wrSelf pgYRT R.YRT_CTL_LISTEN 0
       if bars = [] then w.takeoverDone else w) := by
  have hready : (u.dev.state == .ready || u.inJob) = true := by
    rcases hr with h | h <;> simp [h]
  have hheld : (u.twin.held && !(u.silent false && u.silent true)) = false := by
    rcases hh with h | ⟨h1, h2⟩
    · simp [h]
    · simp [h1, h2]
  have hdecl : u.twin.declared.isNone = false := by
    rw [← Bool.not_eq_true, Option.isNone_iff_eq_none]
    exact hd
  simp only [State.takeover, hdecl, hi, hs, hready, hb, hheld, Bool.not_true, Bool.or_self, Bool.false_eq_true, if_false,
    List.isEmpty_iff]

theorem sluiceWait_held {r at_ : Nat} (hd : u.twin.declared = some (r, at_)) (hh : u.twin.held = false)
    (hi : u.twin.sluiceIn = true) (ht : at_ + us (atLeast1 (u.rd pgTWIN R.TWIN_CFG_SLUICEWAIT)) ≤ u.now) :
    u.sluiceWait = (u.setTwin { u.twin with held := true }).raise pgTWIN 12 := by
  simp only [State.sluiceWait, hd, hh, hi, Nat.not_lt.mpr ht, decide_false, Bool.not_true, Bool.or_self,
    Bool.false_eq_true, if_false]

/-- Outside FROZEN and SAFE a cause for FENCED is entered, if R25 allows it (R27). -/
theorem fence_eq (cause pg first : Nat) (hf : u.dev.state ≠ .frozen) (hs : u.dev.state ≠ .safe) :
    u.fence cause pg first = u.enterSide .fenced cause := by
  simp only [State.fence, hf, hs, or_self, if_false]

theorem ne_frozen_safe (hr : u.dev.state = .ready ∨ u.inJob = true) :
    u.dev.state ≠ .frozen ∧ u.dev.state ≠ .safe := by
  simp only [State.inJob] at hr
  constructor <;> intro h <;> simp [h] at hr

theorem sluiceSeen_high (hi : u.twin.sluiceIn = true) (ha : u.isActive = true)
    (hr : u.dev.state = .ready ∨ u.inJob = true)
    (ht : u.twin.sluiceInAt + us (if u.rdb pgSYS R.SYS_STRAP_ROLE_SEL then 2 else 40) ≤ u.now) :
    u.sluiceSeen true = u.enterSide .fenced 3 := by
  obtain ⟨hf, hs⟩ := ne_frozen_safe hr
  rw [← fence_eq 3 pgTWIN 16 hf hs]
  simp only [State.sluiceSeen, hi, if_true, ha, ht, decide_true, Bool.and_self]

theorem sluiceSeen_low (hi : u.twin.sluiceIn = true) :
    u.sluiceSeen false = u.setTwin { u.twin with sluiceIn := false, sluiceInAt := u.now } := by
  simp only [State.sluiceSeen, hi, Bool.false_eq_true, if_false, Bool.false_and]

theorem monoExpire_fences (ho : u.twin.sluiceOut = true) (ht : u.twin.monoEnd ≤ u.now) (ha : u.isActive = true)
    (hf : u.dev.state ≠ .frozen) (hs : u.dev.state ≠ .safe) : u.monoExpire = u.sluiceLow.enterSide .fenced 3 := by
  rw [← fence_eq (u := u.sluiceLow) 3 pgTWIN 16 hf hs]
  simp only [State.monoExpire, ho, ha, Nat.not_lt.mpr ht, decide_false, Bool.not_true, Bool.or_self, Bool.false_eq_true,
    if_false, if_true]

/-! ### Host release (R25) -/

/-- What configures the pair is not part of being in step. -/
theorem pairMode_leaveStep (s : State) : s.leaveStep.pairMode = s.pairMode := by
  have hsolo : s.leaveStep.rd pgTWIN R.TWIN_CFG_SOLO = s.rd pgTWIN R.TWIN_CFG_SOLO :=
    calc s.leaveStep.rd pgTWIN R.TWIN_CFG_SOLO
      _ = (s.wr pgTWIN R.TWIN_STAT_INSTEP 0).rd pgTWIN R.TWIN_CFG_SOLO := by
        simp only [State.rd, State.word, State.leaveStep, setTwin_fields]
      _ = s.rd pgTWIN R.TWIN_CFG_SOLO := rd_wr_other _ _ _ _ _ _ (by decide)
  have hid : s.leaveStep.twin.pairedId = s.twin.pairedId := by simp only [State.leaveStep, State.setTwin, wr_fields]
  have hpart : s.leaveStep.part = s.part := by simp only [State.leaveStep, setTwin_fields, wr_fields]
  simp only [State.pairMode, State.twinPart, State.rdb, hsolo, hid, hpart]

theorem pairMode_released (s : State) :
    ((s.setTwin { s.twin with declared := none, held := false }).leaveStep).pairMode = s.pairMode := by
  rw [pairMode_leaveStep]; rfl

@[simp] theorem leaveStep_dev (s : State) : s.leaveStep.dev = s.dev := by
  simp only [State.leaveStep, setTwin_fields, wr_fields]
@[simp] theorem leaveStep_jobs (s : State) : s.leaveStep.jobs = s.jobs := by
  simp only [State.leaveStep, setTwin_fields, wr_fields]

/-- The host release acts on a FENCED device with SLUICE_IN low. -/
theorem released_guard (hs : u.dev.state = .fenced) (hi : u.twin.sluiceIn = false) :
    (decide (u.dev.state ≠ .fenced) || u.twin.sluiceIn) = false := by
  simp [hs, hi]

theorem hostRelease_solo (hs : u.dev.state = .fenced) (hi : u.twin.sluiceIn = false) (hp : u.pairMode = false) :
    u.hostRelease =
      (let z := ((u.setTwin { u.twin with declared := none, held := false }).leaveStep).dropJobs
       (z.change .ready .solo u.dev.cause).setTwinState 0) := by
  simp only [State.hostRelease, released_guard hs hi, pairMode_released, hp, leaveStep_dev, setTwin_fields,
    Bool.false_eq_true, if_false, Bool.not_false, if_true]

theorem hostRelease_standby (hs : u.dev.state = .fenced) (hi : u.twin.sluiceIn = false) (hp : u.pairMode = true)
    (hj : u.jobs.cur = none) :
    u.hostRelease = (((u.setTwin { u.twin with declared := none, held := false }).leaveStep).setTwinState 2).change .ready
      .standby u.dev.cause := by
  simp only [State.hostRelease, released_guard hs hi, pairMode_released, hp, State.setTwinState, wr_fields, leaveStep_dev,
    leaveStep_jobs, setTwin_fields, hj, Bool.false_eq_true, if_false, Bool.not_true]

end Sluice

/-! ### Handover (R611) -/

/-- The command register of the TWIN page. -/
theorem findReg_twinCmd : ∃ d i, findReg PageKind.twin.regs (pageOff (fieldAddr pgTWIN R.TWIN_CMD)) = some (d, i) ∧
    d.off = R.TWIN_CMD.off :=
  ⟨_, _, rfl, rfl⟩

/-- HANDOVER alone, with what the device is told of its twin. -/
theorem writeTwin_handover (s : State) (m : Master) (addr : Nat) {d : RegDef} (hd : d.off = R.TWIN_CMD.off) (b : Bool) :
    s.writeTwin { inStep := some b } m addr d (withBit 0#32 R.TWIN_CMD_HANDOVER) =
      if s.liveActive && b then wrote s.handover else denied s := by
  have h0 : bitOf (withBit 0#32 R.TWIN_CMD_HANDOVER).toNat 0 = true := by decide
  have h1 : bitOf (withBit 0#32 R.TWIN_CMD_HANDOVER).toNat 1 = false := by decide
  simp only [State.writeTwin, hd, if_true, h0, h1, Bool.true_and, Bool.false_eq_true, if_false]
  cases s.liveActive && b <;> rfl

/-- A handover that the device accepts (R611). -/
theorem regCmd_handover {u : State} {m : Master} (h : u.accepts m (fieldAddr pgTWIN R.TWIN_CMD) .twin 0 = true)
    (hl : u.liveActive = true) :
    u.regCmd m pgTWIN R.TWIN_CMD (withBit 0#32 R.TWIN_CMD_HANDOVER) { inStep := some true } =
      u.handover.acceptedBy u m .twin 0 (fieldAddr pgTWIN R.TWIN_CMD) (withBit 0#32 R.TWIN_CMD_HANDOVER) := by
  obtain ⟨d, i, hf, hd⟩ := findReg_twinCmd
  have hw := writeTwin_handover u m (fieldAddr pgTWIN R.TWIN_CMD) hd true
  rw [hl] at hw
  exact regWrite_accept h (by decide) hf (Or.inl rfl) hw

/-- A handover while the twin is not in step is refused with 0x08. -/
theorem regCmd_handover_refused {u : State} {m : Master} (h : u.takes m (fieldAddr pgTWIN R.TWIN_CMD) .twin 0 = true) :
    u.regCmd m pgTWIN R.TWIN_CMD (withBit 0#32 R.TWIN_CMD_HANDOVER) { inStep := some false } =
      u.refuse m (fieldAddr pgTWIN R.TWIN_CMD) (withBit 0#32 R.TWIN_CMD_HANDOVER).toNat 8 := by
  obtain ⟨d, i, hf, hd⟩ := findReg_twinCmd
  have hw := writeTwin_handover u m (fieldAddr pgTWIN R.TWIN_CMD) hd false
  rw [Bool.and_false] at hw
  exact regWrite_denied h (by decide) hf (by decide) hw

/-- Settles O58: each command in the branch that its condition chooses. -/
theorem sluiceAndTakeover : Obligations.SluiceAndTakeover := by
  refine ⟨?takeover, ?waits, ?active, ?held, ?high, ?low, ?mono, ?solo, ?standby, ?handover, ?refused⟩
  case takeover =>
    exact runs_of (f := (·.takeover)) (fun _ _ => rfl)
      fun u ⟨hd, hi, hs, hr, hb, hh⟩ => takeover_eq hd hi hs hr hb hh
  case waits => exact runs_of (f := (·.takeover)) (fun _ _ => rfl) fun u hb => takeover_waits hb
  case active => exact becomeActive_effect
  case held =>
    exact fun r at_ => runs_of (f := (·.sluiceWait)) (fun _ _ => rfl)
      fun u ⟨hd, hh, hi, ht⟩ => sluiceWait_held hd hh hi ht
  case high =>
    exact runs_of (f := (·.sluiceSeen true)) (fun _ _ => rfl) fun u ⟨hi, ha, hr, ht⟩ => sluiceSeen_high hi ha hr ht
  case low => exact runs_of (f := (·.sluiceSeen false)) (fun _ _ => rfl) fun u hi => sluiceSeen_low hi
  case mono =>
    exact runs_of (f := (·.monoExpire)) (fun _ _ => rfl)
      fun u ⟨ho, ht, ha, hf, hs⟩ => monoExpire_fences ho ht ha hf hs
  case solo =>
    exact fun m => runs_of (f := (·.hostRelease)) (fun _ _ => rfl) fun u ⟨hs, hi, hp⟩ => hostRelease_solo hs hi hp
  case standby =>
    exact fun m => runs_of (f := (·.hostRelease)) (fun _ _ => rfl)
      fun u ⟨hs, hi, hp, hj⟩ => hostRelease_standby hs hi hp hj
  case handover =>
    exact fun m => runs_of
      (f := (·.regCmd m pgTWIN R.TWIN_CMD (withBit 0#32 R.TWIN_CMD_HANDOVER) { inStep := some true }))
      (fun _ _ => rfl) fun u ⟨h, hl⟩ => regCmd_handover h hl
  case refused =>
    exact fun m => runs_of
      (f := (·.regCmd m pgTWIN R.TWIN_CMD (withBit 0#32 R.TWIN_CMD_HANDOVER) { inStep := some false }))
      (fun _ _ => rfl) fun u h => regCmd_handover_refused h

end Sys2Proof.Machine
end

section
/-!
SUPPORT. Laws that the commands of a page share: a refused write of its header, the bits of a value with a command bit, and a
value in its mailbox.
-/
namespace Sys2Proof.Machine

/-- A write of a header register that its page refuses: the refusal of R44. -/
theorem regWrite_head_denied {s t : State} {m : Master} {addr : Nat} {k : PageKind} {inst c : Nat} {env : WriteEnv} {v : Word}
    {l : Bool} (h : s.takes m addr k inst = true) (ho : pageOff addr < 0x40) (hc : c ≠ 0 ∧ c ≠ 5)
    (hw : s.writeHead m (pageNo addr) k inst (pageOff addr) v.toNat = (c, l, t)) :
    s.regWrite m addr v env = t.refuse m addr v.toNat c := by
  simp only [State.regWrite, accessWrite_takes env v h, State.performWrite, hw, if_pos ho, hc, ne_eq, not_false_eq_true,
    and_self, if_true]

/-! ### Command bits -/

theorem bitOf_eq_testBit (n i : Nat) : bitOf n i = n.testBit i := by
  rw [Nat.testBit_eq_decide_div_mod_eq]; rfl

/-- A command bit adds itself to the bits of a value. -/
theorem bitOf_withBit_eq (v : Word) (f : Fld) (c : Nat) (hf : f.lo < 32) :
    bitOf (withBit v f).toNat c = (bitOf v.toNat c || decide (c = f.lo)) := by
  rw [bitOf_eq_testBit, bitOf_eq_testBit, BitVec.testBit_toNat, BitVec.testBit_toNat, withBit, BitVec.getLsbD_or,
    BitVec.getLsbD_ofNat, Nat.testBit_two_pow]
  congr 1
  by_cases h : f.lo = c
  · subst h; simp [hf]
  · simp [h, Ne.symm h]

/-! ### A value in the mailbox (R71) -/

/-- Words written from the low end up: the number agrees with the value on the bits written so far. -/
theorem setBits_low {n v lo : Nat} (w : Nat) (h : n % 2 ^ lo = v % 2 ^ lo) :
    setBits n lo w (bitsOf v lo w) % 2 ^ (lo + w) = v % 2 ^ (lo + w) := by
  have hlt : v % 2 ^ lo + v / 2 ^ lo % 2 ^ w * 2 ^ lo = v % 2 ^ (lo + w) := by
    rw [Nat.pow_add, Nat.mod_mul, Nat.mul_comm]
  rw [setBits, h, bitsOf, Nat.mod_mod, hlt, Nat.add_mul_mod_self_right, Nat.mod_mod]

theorem mbx_setMbx (s : State) (pg : Nat) (m : Master) (x : Mbx) : (s.setMbx pg m x).mbx pg m = x := by
  simp only [State.mbx, State.setMbx, head_setHead, if_true, mget_mset]
  split
  · exact Eq.symm ‹_›
  · rfl

/-- The next data word extends the part of a value that the mailbox holds. -/
theorem writeData_low {s : State} {m : Master} {pg v i : Nat} (hi : i < 4)
    (h : (s.mbx pg m).data.toNat % 2 ^ (32 * i) = v % 2 ^ (32 * i)) :
    ((s.writeData m pg i (bitsOf v (32 * i) 32)).mbx pg m).data.toNat % 2 ^ (32 * (i + 1)) = v % 2 ^ (32 * (i + 1)) := by
  rw [State.writeData, mbx_setMbx, BitVec.toNat_ofNat, Nat.mod_mod_of_dvd _ (Nat.pow_dvd_pow 2 (by omega))]
  exact setBits_low 32 h

/-- A value of 128 bits written word by word stands in the mailbox. -/
theorem mbxLoaded_data (s : State) (m : Master) (pg v : Nat) :
    ((s.mbxLoaded m pg v).mbx pg m).data.toNat = v % 2 ^ 128 := by
  have h0 : (s.mbx pg m).data.toNat % 2 ^ (32 * 0) = v % 2 ^ (32 * 0) := by omega
  have h4 := writeData_low (by decide) (writeData_low (by decide) (writeData_low (by decide)
    (writeData_low (by decide) h0)))
  exact (Nat.mod_eq_of_lt (BitVec.isLt _)).symm.trans h4

/-- Loading a mailbox leaves the device state. -/
theorem mbxLoaded_inJob (s : State) (m : Master) (pg v : Nat) : (s.mbxLoaded m pg v).inJob = s.inJob := by
  have hdev : (s.mbxLoaded m pg v).dev = s.dev := foldl_keeps _ (fun z i _ => (writeData_fields z m pg i _).2.1) s
  simp only [State.inJob, hdev]

/-- A page without a twin image passes no data word on. -/
theorem mbxLoadedOn_off (s : State) (m : Master) (pg : Nat) {k : PageKind} (v : Nat) (hk : k.mirror = false) :
    s.mbxLoadedOn m pg k v = s.mbxLoaded m pg v := by
  simp only [State.mbxLoadedOn, State.mbxLoaded, mirrorWrite_off _ _ _ _ _ _ hk]

end Sys2Proof.Machine
end

section
/-!
CERTIFICATE. The position unit: edges and standstill, serial sensors, and the commands of the page (O38, O39, O40).
-/
namespace Sys2Proof.Machine

/-! ### Edges (R143 to R145, R147 to R149) -/

section Edges
variable {s : State} {i : Nat} {level : Bool}

/-- An edge on a counting input without a pending one starts its hold (R143). -/
theorem edgeCapture_starts (hon : s.edgeOn i = true) (hh : (s.edgeIn i).hold = none) (hl : (s.edgeIn i).level ≠ level) :
    s.edgeCapture i level = s.setEdgeIn i { s.edgeIn i with
      hold := some { tick := s.now, endTick := s.now + s.minSp i, level := level } } := by
  simp only [State.edgeCapture, hon, hh, if_neg hl.symm, Bool.not_true, Bool.false_eq_true, if_false]

/-- The opposite edge within the hold discards both (R144). -/
theorem edgeCapture_cancels {h : EdgeHold} (hon : s.edgeOn i = true) (hh : (s.edgeIn i).hold = some h)
    (hl : h.level ≠ level) :
    s.edgeCapture i level = (s.setEdgeIn i { s.edgeIn i with hold := none }).edgeFault i := by
  simp only [State.edgeCapture, hon, hh, if_neg hl.symm, Bool.not_true, Bool.false_eq_true, if_false]

/-- A discarded pair of an encoder: counted, flagged, and an error towards its fault (R144, R151). -/
theorem edgeFault_encoder (h : i < 6) :
    s.edgeFault i = ((s.inc pgPOS (R.POS_FLTCNT_EDGE (i / 3))).raise pgPOS 0 i).encError (i / 3) s.now := by
  simp only [State.edgeFault, if_pos h]

/-- What an accepted transition of A with B at rest counts, decoded by MULT and signed by INV (R148). -/
theorem acceptAB_A {n : Nat} {t : Nat} (hb : (s.edgeIn (3 * n + 1)).hold = none) :
    s.acceptAB n (3 * n) t level =
      (s.setEdgeIn (3 * n) { level := level, hold := none }).encCount n
        (s.signed n (quadCount (s.rd pgPOS (R.POS_ENCCFG_MULT n)) (s.edgeIn (3 * n)).level (s.edgeIn (3 * n + 1)).level
          level (s.edgeIn (3 * n + 1)).level)) t := by
  have hne : ¬ 3 * n = 3 * n + 1 := by omega
  simp only [State.acceptAB, if_true, hb, if_neg hne]
  rfl

/-- The inputs 0 and 3 are A of the two encoders. -/
theorem acceptEdge_A {n : Nat} (hn : n < 2) (h : EdgeHold) :
    s.acceptEdge (3 * n) h = s.acceptAB n (3 * n) h.tick h.level := by
  have hlt : 3 * n < 6 := by omega
  have hmod : ¬ 3 * n % 3 = 2 := by omega
  have hdiv : 3 * n / 3 = n := by omega
  simp only [State.acceptEdge, if_pos hlt, if_neg hmod, hdiv]

/-- Of holds that have ended, a last one is accepted with what a reversal brings (R145). -/
theorem acceptDue_last {k : Nat} {h : EdgeHold} (hd : s.firstDue = some (i, h))
    (hr : ((s.acceptEdge i h).webTurned s).firstDue = none) :
    s.acceptDue (k + 2) = (s.acceptEdge i h).webTurned s := by
  simp only [State.acceptDue, hd, hr]

end Edges

/-! ### Standstill and stretch (R164, R165, R181, R182) -/

section Web
variable {s : State}

/-- STANDTMO after the last counting edge the speed decays (R164). -/
theorem standTimeout_decays {te : Nat} (hl : s.pos.track.lastEdge = some te) (he : s.pos.track.edges ≠ [])
    (ht : te + s.standTmo ≤ s.now) : s.standTimeout = (s.wr pgPOS R.POS_STAT_DECAY 1).posStatus := by
  have hwait : (s.pos.track.edges.isEmpty || decide (s.now < te + s.standTmo)) = false := by
    simp [List.isEmpty_eq_false_iff.mpr he, Nat.not_lt.mpr ht]
  simp only [State.standTimeout, hl, hwait, Bool.false_eq_true, if_false]

/-- Below STANDV the history restarts and standstill is declared, with X0 in the flag; the Hall history goes on where its own
bound stands (R165, R170). -/
theorem standDeclare_declares
    (hh : s.fellBelow s.pos.hall.track (s.rd pgPOS R.POS_HALLSCALE) = false) (hf : s.fellBelow s.pos.track s.srcScale = true)
    (hm : s.msrc ≠ 0)
    (hs : ((s.setPos { s.pos with track := s.pos.track.restart, wSpoiled := true }).wr pgPOS R.POS_STAT_DECAY 0).rdb pgPOS
      R.POS_STAT_STANDSTILL = false) :
    s.standDeclare =
      (let y := (s.setPos { s.pos with track := s.pos.track.restart, wSpoiled := true }).wr pgPOS R.POS_STAT_DECAY 0
       let x := (y.wr pgPOS R.POS_STAT_STANDSTILL 1).raiseI pgPOS 15 (to256 y.x0)
       (x.noteX x.now).posStatus) := by
  simp only [State.standDeclare, hh, hf, hm, hs, Bool.false_eq_true, Bool.not_true, decide_false, Bool.or_self, if_false]

/-- A complete stretch window with a sample within LIMIT moves the target and begins the next one (R181, R182). -/
theorem stretchWindow_sound {raw : Int}
    (hraw : raw = ((s.encDist 1 - s.pos.wD1 - (s.x0 - s.pos.wX0)) * ppbUnit).fdiv (s.x0 - s.pos.wX0) -
      s.rdi pgPOS R.POS_STRZERO * 65536)
    (hw : s.strWin ≤ (s.x0 - s.pos.wX0).natAbs) (hm : s.msrc = 1) (ho : s.pos.wOn = true) (hp : s.pos.wSpoiled = false)
    (h0 : s.encService 0 = true) (h1 : s.encService 1 = true)
    (hlim : raw.natAbs ≤ s.rd pgPOS R.POS_STRCFG_LIMIT * 65536000) :
    s.stretchWindow =
      (let y := s.setPos { s.pos with
        sFrom := s.stretch, sAt := some s.x0, tracked := true,
        sTo := s.stretch + (raw - s.stretch).fdiv (2 ^ min 12 (s.rd pgPOS R.POS_STRCFG_FILT) : Nat) }
       (y.setPos { y.pos with
        wX0 := y.x0, wD1 := y.encDist 1, wSpoiled := !(y.encService 0 && y.encService 1) }).posStatus) := by
  subst hraw
  have hgo : ¬ (((s.x0 - s.pos.wX0).natAbs : Int) < s.strWin ∨ s.msrc ≠ 1 ∨ s.pos.wOn = false) := by
    simp only [hm, ho, Int.not_lt.mpr hw, ne_eq, not_true_eq_false, Bool.true_eq_false, or_self, not_false_eq_true]
  have hsound : ¬ (s.pos.wSpoiled = true ∨ (!(s.encService 0 && s.encService 1)) = true) := by
    simp [hp, h0, h1]
  simp only [State.stretchWindow, if_neg hgo, if_neg hsound, if_neg (Nat.not_lt.mpr hlim)]

end Web

/-- Settles O38: each command in the branch that its condition chooses, after the edges whose hold has ended. -/
theorem edgesAndStandstill : Obligations.EdgesAndStandstill := by
  refine ⟨?starts, ?cancels, ?accepts, ?decays, ?declares, ?stretch⟩
  case starts =>
    refine fun i level => runs_of (f := (·.edgeSeen i.val level)) (fun _ _ => rfl) fun u ⟨hon, hh, hl⟩ => ?_
    rw [State.edgeSeen, edgeCapture_starts hon hh hl]
  case cancels =>
    refine fun i level h hi hl => runs_of (f := (·.edgeSeen i.val level)) (fun _ _ => rfl) fun u ⟨hon, hh⟩ => ?_
    rw [State.edgeSeen, edgeCapture_cancels hon hh hl, edgeFault_encoder hi]
    rfl
  case accepts =>
    refine fun i n h => runs_of (f := (·.edgeAccept)) (fun _ _ => rfl) fun u ⟨hd, hb, hr⟩ => ?_
    have hcount := (acceptEdge_A n.isLt h).trans (acceptAB_A (s := u) (level := h.level) hb)
    rw [State.edgeAccept, State.edgesFirst, acceptDue_last hd (by rw [hcount]; exact hr), hcount]
  case decays =>
    exact fun te => runs_of (f := (·.edgesFirst.standTimeout)) (fun _ _ => rfl)
      fun u ⟨hl, he, ht⟩ => standTimeout_decays hl he ht
  case declares =>
    refine runs_of (f := (·.standNow)) (fun _ _ => rfl) fun u ⟨hh, hf, hm, hs⟩ => ?_
    simp only [State.standNow, standDeclare_declares hh hf hm hs]
  case stretch =>
    exact runs_of (f := (·.edgesFirst.stretchWindow)) (fun _ _ => rfl)
      fun u ⟨hw, hm, ho, hp, h0, h1, hlim⟩ => stretchWindow_sound rfl hw hm ho hp h0 h1 hlim

/-! ### Serial sensors (R173 to R179) -/

/-- The received CRC bits, inverted where SSNCRC.INV says so (R175). -/
def State.ssnRx (s : State) (n : Nat) (w : SsnWord) : Nat :=
  let rx := w.crc.toNat % 2 ^ s.ssnWidth n
  if s.rdb pgPOS (R.POS_SSNCRC_INV n) then 2 ^ s.ssnWidth n - 1 - rx else rx

section Sensor
variable {s : State} {n : Nat}

/-- At the start of a PERIOD window an idle sensor of a device that clocks it is asked (R173, R179). -/
theorem ssnRequest_asks (hon : s.ssnOn n = true) (hst : s.isStandby = false)
    (hp : s.now % us (atLeast1 (s.rd pgPOS (R.POS_SSNCFG_PERIOD n))) = 0) (hb : (s.ssn n).busy = none) :
    s.ssnRequest n = s.setSsn n { s.ssn n with busy := some s.now } := by
  simp only [State.ssnRequest, hon, hst, hp, hb, Bool.not_false, Bool.and_self, beq_self_eq_true, Option.isNone_none, if_true]

section Word
variable {w : SsnWord} {first : Nat} (hon : s.ssnOn n = true) (hb : (s.ssn n).busy = some first)
  (ht : s.now < first + s.ssnTmo n) (ha : w.ack = false)
include hon hb ht ha

/-- A word in time ends the exchange and is judged by its CRC, then by its error and warning bits (R174 to R177). -/
theorem ssnWord_judged : s.ssnWord n w =
    (let y := s.setSsn n { s.ssn n with busy := none }
     let position := w.position.toNat % 2 ^ s.ssnBits n
     let latch := first + s.rd pgPOS (R.POS_SSNTIM_LAT n) * 160
     if s.ssnRx n w ≠ s.ssnCrc n position w.err w.warn then
       ((y.inc pgPOS (R.POS_SSNCNT_CRC n)).raise pgPOS 9 n).ssnBad n
     else
       let x := y.setSsn n { y.ssn n with
         position := position, err := w.err, warn := w.warn, words := (y.ssn n).words + 1#16,
         bound := s.ssnBound n latch, latch := latch }
       if w.err then (x.raise pgPOS 10 n).ssnBad n
       else
         let z := x.setSsn n { x.ssn n with bad := 0 }
         if w.warn then z.raise pgPOS 11 n else z) := by
  have hlate : ¬ (w.ack || decide (first + s.ssnTmo n ≤ s.now)) = true := by simp [ha, ht]
  simp only [State.ssnWord, hon, hb, Option.isNone_some, Option.getD_some, Bool.not_true, Bool.false_and, Bool.or_self,
    Bool.false_eq_true, if_false]
  exact if_neg hlate

/-- A word in time whose CRC does not match: discarded, counted, flagged (R175). -/
theorem ssnWord_badCrc (hc : s.ssnRx n w ≠ s.ssnCrc n (w.position.toNat % 2 ^ s.ssnBits n) w.err w.warn) :
    s.ssnWord n w =
      (((s.setSsn n { s.ssn n with busy := none }).inc pgPOS (R.POS_SSNCNT_CRC n)).raise pgPOS 9 n).ssnBad n :=
  (ssnWord_judged hon hb ht ha).trans (if_pos hc)

/-- A word in time with a sound CRC and neither error nor warning bit: its position, the count bound to its latch tick, and
an end to the run of bad words (R174 to R178). -/
theorem ssnWord_good (he : w.err = false) (hw : w.warn = false)
    (hc : s.ssnRx n w = s.ssnCrc n (w.position.toNat % 2 ^ s.ssnBits n) false false) :
    s.ssnWord n w =
      (let latch := first + s.rd pgPOS (R.POS_SSNTIM_LAT n) * 160
       let y := s.setSsn n { s.ssn n with busy := none }
       let x := y.setSsn n { y.ssn n with
         position := w.position.toNat % 2 ^ s.ssnBits n, err := false, warn := false,
         words := (y.ssn n).words + 1#16, bound := s.ssnBound n latch, latch := latch }
       x.setSsn n { x.ssn n with bad := 0 }) := by
  rw [ssnWord_judged hon hb ht ha, he, hw, if_neg (fun hne => hne hc)]
  rfl

end Word

/-- No complete word within TMO: discarded (R176). -/
theorem ssnTimeout_discards {first : Nat} (hon : s.ssnOn n = true) (hb : (s.ssn n).busy = some first)
    (ht : first + s.ssnTmo n ≤ s.now) :
    s.ssnTimeout n = (s.setSsn n { s.ssn n with busy := none }).ssnMissed n := by
  simp only [State.ssnTimeout, hon, hb, Bool.not_true, Bool.false_eq_true, if_false, if_pos ht]

end Sensor

/-- Settles O39: the request, the word and the timeout, each in the branch that its condition chooses. -/
theorem serialSensors : Obligations.SerialSensors := by
  refine ⟨?request, ?good, ?badCrc, ?timeout⟩
  case request =>
    exact fun n => runs_of (f := (·.ssnRequest n.val)) (fun _ _ => rfl)
      fun u ⟨hon, hst, hp, hb⟩ => ssnRequest_asks hon hst hp hb
  case good =>
    exact fun n w first ha he hw => runs_of (f := (·.edgesFirst.ssnWord n.val w)) (fun _ _ => rfl)
      fun u ⟨hon, hb, ht, hc⟩ => ssnWord_good hon hb ht ha he hw hc
  case badCrc =>
    exact fun n w first ha => runs_of (f := (·.edgesFirst.ssnWord n.val w)) (fun _ _ => rfl)
      fun u ⟨hon, hb, ht, hc⟩ => ssnWord_badCrc hon hb ht ha hc
  case timeout =>
    exact fun n first => runs_of (f := (·.edgesFirst.ssnTimeout n.val)) (fun _ _ => rfl)
      fun u ⟨hon, hb, ht⟩ => ssnTimeout_discards hon hb ht

/-! ### Commands (R152, R169, R177, R180, R711) -/

/-- What a command bit of POS_CTL clears. -/
def State.posClear (s : State) : Nat → State
  | 8 => s.clearEnc 0
  | 9 => s.clearEnc 1
  | 10 => s.clearHall
  | 11 => s.clearSsn 0
  | 12 => s.clearSsn 1
  | _ => s

theorem posClear_encoder (s : State) (n : Fin 2) : s.posClear (8 + n.val) = s.clearEnc n.val :=
  match n with
  | 0 => rfl
  | 1 => rfl

theorem posClear_sensor (s : State) (n : Fin 2) : s.posClear (11 + n.val) = s.clearSsn n.val :=
  match n with
  | 0 => rfl
  | 1 => rfl

theorem clrFlt_lo (n : Fin 2) : (if n = 0 then R.POS_CTL_CLRFLT0 else R.POS_CTL_CLRFLT1).lo = 8 + n.val := by
  revert n; decide

theorem clrSsn_lo (n : Fin 2) : (if n = 0 then R.POS_CTL_CLRSSN0 else R.POS_CTL_CLRSSN1).lo = 11 + n.val := by
  revert n; decide

/-- A write of POS_CTL with one command bit: what the bit clears, then what the enables of the inputs start and stop. -/
theorem posCtl_bit {s old : State} {v : Word} {f : Fld} (hv : ∀ c, 8 ≤ c → c ≤ 12 → bitOf v.toNat c = false)
    (h8 : 8 ≤ f.lo) (h12 : f.lo ≤ 12) :
    s.posCtl old (withBit v f).toNat =
      (State.each State.ssnIdle (s.posClear f.lo) [0, 1]).posEnables (old.encOn 0) (old.encOn 1) (old.edgeOn 6) := by
  have hbit : ∀ c, 8 ≤ c → c ≤ 12 → bitOf (withBit v f).toNat c = decide (c = f.lo) := fun c h1 h2 => by
    rw [bitOf_withBit_eq v f c (by omega), hv c h1 h2, Bool.false_or]
  simp only [State.posCtl, hbit 8 (by omega) (by omega), hbit 9 (by omega) (by omega), hbit 10 (by omega) (by omega),
    hbit 11 (by omega) (by omega), hbit 12 (by omega) (by omega)]
  have hcases : f.lo = 8 ∨ f.lo = 9 ∨ f.lo = 10 ∨ f.lo = 11 ∨ f.lo = 12 := by omega
  rcases hcases with h | h | h | h | h <;> rw [h] <;> rfl

/-- The POS_CTL register of the POS page. -/
theorem findReg_posCtl : ∃ d i, findReg PageKind.pos.regs (pageOff (fieldAddr pgPOS R.POS_CTL)) = some (d, i) ∧
    regAt (fieldAddr pgPOS R.POS_CTL) = some d ∧ d.off = R.POS_CTL.off :=
  ⟨_, _, rfl, rfl, rfl⟩

/-- A command of POS_CTL that passes the checks. -/
theorem regCmd_posCtl {u : State} {m : Master} {v : Word} {f : Fld}
    (h : u.accepts m (fieldAddr pgPOS R.POS_CTL) .pos 0 = true)
    (hv : ∀ c, 8 ≤ c → c ≤ 12 → bitOf v.toNat c = false) (h8 : 8 ≤ f.lo) (h12 : f.lo ≤ 12) :
    u.regCmd m pgPOS R.POS_CTL (withBit v f) =
      ((State.each State.ssnIdle ((u.stored pgPOS R.POS_CTL (withBit v f)).posClear f.lo) [0, 1]).posEnables (u.encOn 0)
        (u.encOn 1) (u.edgeOn 6)).acceptedBy u m .pos 0 (fieldAddr pgPOS R.POS_CTL) (withBit v f) := by
  obtain ⟨d, i, hf, ha, hd⟩ := findReg_posCtl
  rw [← posCtl_bit hv h8 h12]
  refine regWrite_accept h (by decide) hf (Or.inl rfl) ?_
  simp only [State.writeBlock, State.putThen, wrote, hd, if_true, State.stored, ha]
  rfl

/-- A write of POS_CTL leaves the encoders and the counter. -/
theorem stored_posCtl (s : State) (v : Word) :
    (s.stored pgPOS R.POS_CTL v).pos = s.pos ∧ (s.stored pgPOS R.POS_CTL v).counter = s.counter :=
  ⟨rfl, rfl⟩

/-- CLRFLTn in a window without an error or discrepancy of its own: the fault clears and the counts start anew (R152). -/
theorem clearEnc_fresh {s : State} {n : Nat} (he : (s.enc n).errAt ≠ s.now ∨ (s.enc n).errNow = 0)
    (hd : (s.enc n).disAt ≠ some s.now) :
    s.clearEnc n =
      (let z := s.wr pgPOS (if n = 0 then R.POS_STAT_ENC0FLT else R.POS_STAT_ENC1FLT) 0
       (z.setEnc n { z.enc n with errs := [] }).wr pgPOS (consecFld n) 0) := by
  have hk : (if (s.enc n).errAt = s.now then (s.enc n).errNow else 0) = 0 := by
    split
    · exact he.resolve_left (fun hne => hne ‹_›)
    · rfl
  have hnone : ∀ m : Nat, (decide (m ≠ 0) && decide (m ≤ 0)) = false := fun m => by
    cases m <;> simp
  simp only [State.clearEnc, hk, if_neg hd, hnone, Bool.or_self, Bool.and_false, if_true]
  rfl

/-- The write of PG_CTL.EN on the POS page: refused where it would stop counting in a job (R711). -/
theorem writeHead_posEnable (s : State) (m : Master) (en : Bool) :
    s.writeHead m pgPOS .pos 0 0x08 (ctlEnable en).toNat =
      if !en && s.inJob then denied s
      else wrote ((State.each State.ssnIdle (s.setHead pgPOS { s.head pgPOS with en := en }) [0, 1]).posEnables (s.encOn 0)
        (s.encOn 1) (s.edgeOn 6)) := by
  cases en <;> rfl

section Enable
variable {u : State} {m : Master} {en : Bool} (h : u.takes m (headAddr pgPOS 0x08) .pos 0 = true)
include h

theorem regWrite_posEnable (hj : en = true ∨ u.inJob = false) :
    u.regWrite m (headAddr pgPOS 0x08) (ctlEnable en) =
      ((State.each State.ssnIdle (u.setHead pgPOS { u.head pgPOS with en := en }) [0, 1]).posEnables (u.encOn 0) (u.encOn 1)
        (u.edgeOn 6)).mirrorWrite m .pos (headAddr pgPOS 0x08) (ctlEnable en).toNat u.isActive := by
  have hgo : ¬ (!en && u.inJob) = true := by
    rcases hj with rfl | hj
    · simp
    · simp [hj]
  exact regWrite_head h (by decide) ((writeHead_posEnable u m en).trans (if_neg hgo)) rfl

theorem regWrite_posDisable_inJob (hj : u.inJob = true) :
    u.regWrite m (headAddr pgPOS 0x08) (ctlEnable false) = u.refuse m (headAddr pgPOS 0x08) 0 8 :=
  regWrite_head_denied h (by decide) (by decide) ((writeHead_posEnable u m false).trans (if_pos hj))

end Enable

/-- Item 0 of the POS page outside a job: X0 takes the value (R180). -/
theorem mbxWrite_posX0 {u : State} {m : Master} (x : BitVec 64) (h : u.takes m (headAddr pgPOS 0x20) .pos 0 = true)
    (hj : u.inJob = false) :
    u.mbxWrite m pgPOS 0 x.toNat =
      (let z := u.mbxLoaded m pgPOS x.toNat
       (z.setX0 (sgn 64 x.toNat * 256)).setMbx pgPOS m ((z.mbx pgPOS m).done 0 true (z.mbx pgPOS m).data)) := by
  have hitem : (u.mbxLoaded m pgPOS x.toNat).itemWrite .pos 0 0 ((u.mbxLoaded m pgPOS x.toNat).mbx pgPOS m).data.toNat =
      (true, (u.mbxLoaded m pgPOS x.toNat).setX0 (sgn 64 x.toNat * 256)) := by
    have hlow : x.toNat % 2 ^ 128 % 2 ^ 64 = x.toNat := by
      have := x.isLt
      omega
    simp only [State.itemWrite, mbxLoaded_inJob, hj, Bool.false_eq_true, if_false, mbxLoaded_data, hlow]
  rw [mbxWrite_done rfl (by decide) rfl h (Or.inr rfl) (by rw [hitem]), State.mbxDone, hitem]
  rfl

/-- Settles O40: POS_CTL by its command bit, EN and X0 by the checks of their header registers. -/
theorem posCommands : Obligations.PosCommands := by
  refine ⟨?encoder, ?hall, ?sensor, ?enable, ?refused, ?x0⟩
  case encoder =>
    refine fun m n => runs_of (f := fun u => u.regCmd m pgPOS R.POS_CTL
      (withBit (u.word (fieldAddr pgPOS R.POS_CTL)) (if n = 0 then R.POS_CTL_CLRFLT0 else R.POS_CTL_CLRFLT1)))
      (fun _ _ => rfl) fun u ⟨h, hv, he, hd⟩ => ?_
    have hlo := clrFlt_lo n
    rw [regCmd_posCtl h hv (by omega) (by omega), hlo, posClear_encoder,
      clearEnc_fresh (by simpa only [State.enc, State.now, stored_posCtl] using he)
        (by simpa only [State.enc, State.now, stored_posCtl] using hd)]
  case hall =>
    exact fun m => runs_of (f := fun u => u.regCmd m pgPOS R.POS_CTL
      (withBit (u.word (fieldAddr pgPOS R.POS_CTL)) R.POS_CTL_CLRHALL))
      (fun _ _ => rfl) fun u ⟨h, hv⟩ => regCmd_posCtl h hv (by decide) (by decide)
  case sensor =>
    refine fun m n => runs_of (f := fun u => u.regCmd m pgPOS R.POS_CTL
      (withBit (u.word (fieldAddr pgPOS R.POS_CTL)) (if n = 0 then R.POS_CTL_CLRSSN0 else R.POS_CTL_CLRSSN1)))
      (fun _ _ => rfl) fun u ⟨h, hv⟩ => ?_
    have hlo := clrSsn_lo n
    rw [regCmd_posCtl h hv (by omega) (by omega), hlo, posClear_sensor]
    rfl
  case enable =>
    exact fun m en => runs_of (f := (·.regWrite m (headAddr pgPOS 0x08) (ctlEnable en))) (fun _ _ => rfl)
      fun u ⟨h, hj⟩ => regWrite_posEnable h hj
  case refused =>
    exact fun m => runs_of (f := (·.regWrite m (headAddr pgPOS 0x08) (ctlEnable false))) (fun _ _ => rfl)
      fun u ⟨h, hj⟩ => regWrite_posDisable_inJob h hj
  case x0 =>
    refine fun m x => runs_of (f := (·.mbxWrite m pgPOS 0 x.toNat)) (fun _ _ => rfl) fun u ⟨h, hj⟩ => ?_
    simp only [mbxWrite_posX0 x h hj, mbxLoadedOn_off _ _ _ _ (show PageKind.pos.mirror = false from rfl),
      mirrorWrite_off _ _ _ _ _ _ (show PageKind.pos.mirror = false from rfl)]
    rfl

end Sys2Proof.Machine
end

section
/-!
CERTIFICATE. The press inputs: the hold of a transition, and the functions that an accepted edge feeds (O60).
-/
namespace Sys2Proof.Machine

section Press
variable {s : State} {i : Nat} {level : Bool}

/-- With no hold that has ended, the end of a hold does nothing. -/
theorem pioHoldEnd_waits (h : ∀ x, (s.pin i).hold = some x → s.now < x.endTick) : s.pioHoldEnd i = s := by
  rw [State.pioHoldEnd]
  cases hh : (s.pin i).hold with
  | none => rfl
  | some x => exact if_neg (Nat.not_le.mpr (h x hh))

/-- A hold that has ended: the edge is accepted at its captured tick (R678). -/
theorem pioHoldEnd_accepts {x : PioHold} (hh : (s.pin i).hold = some x) (ht : x.endTick ≤ s.now) :
    s.pioHoldEnd i = s.acceptPio i x.tick x.level := by
  simp only [State.pioHoldEnd, hh, if_pos ht]

/-- A transition with no other held: held for its filter time, or accepted at once (R678). -/
theorem pioSeen_idle (hp : s.pagesUp = true) (hh : (s.pin i).hold = none) (hl : level ≠ (s.pin i).raw) :
    s.pioSeen i level =
      (let y := s.setPin i { s.pin i with raw := level, hold := none }
       if s.rd pgPIO (R.PIO_ICFG_FILT i) = 0 then y.acceptPio i s.now level
       else y.setPin i { y.pin i with
         hold := some { tick := y.now, endTick := y.now + s.rd pgPIO (R.PIO_ICFG_FILT i) * 1600, level := level } }) := by
  have hwait : s.pioHoldEnd i = s := pioHoldEnd_waits (by simp [hh])
  have hfilt : s.rd pgPIO (R.PIO_ICFG_FILT i) * 1600 = 0 ↔ s.rd pgPIO (R.PIO_ICFG_FILT i) = 0 := by omega
  simp only [State.pioSeen, hp, if_true, State.pioTransition, hwait, if_neg hl, hh]
  exact ite_congr (propext hfilt) (fun _ => rfl) (fun _ => rfl)

/-- A return within the hold discards the transition held: a glitch, counted and flagged (R678). -/
theorem pioSeen_glitch {h : PioHold} (hp : s.pagesUp = true) (hh : (s.pin i).hold = some h) (ht : s.now < h.endTick)
    (hl : level ≠ (s.pin i).raw) :
    s.pioSeen i level =
      ((s.setPin i { s.pin i with raw := level, hold := none }).inc pgPIO R.PIO_GLITCH).raise pgPIO 1 i := by
  have hwait : s.pioHoldEnd i = s := pioHoldEnd_waits (by simpa [hh] using ht)
  simp only [State.pioSeen, hp, if_true, State.pioTransition, hwait, if_neg hl, hh]

/-- Of the functions of an input only the stop request is mapped: an active edge that feeds it asks for a stop (R680, R686). -/
theorem inputFunctions_stop {tick : Nat} {active : Bool} (ht : s.rdb pgPIO R.PIO_IMAP_TRIGEN = false)
    (hw : s.rdb pgPIO R.PIO_IMAP_WEBEN = false) :
    s.inputFunctions i tick active =
      if (s.rdb pgPIO R.PIO_IMAP_STOPEN && decide (s.rd pgPIO R.PIO_IMAP_STOPIN = i)) && active then s.stopRequest i
      else s := by
  simp only [State.inputFunctions, ht, hw, Bool.false_and, Bool.not_false, Bool.false_eq_true, if_true, if_false]

/-- An accepted edge of an input without a function and without an event: its level, tick and count (R678, R679). -/
theorem acceptPio_plain {tick : Nat} (hs : s.rdb pgPIO R.PIO_IMAP_STOPEN = false)
    (ht : s.rdb pgPIO R.PIO_IMAP_TRIGEN = false) (hw : s.rdb pgPIO R.PIO_IMAP_WEBEN = false)
    (he : s.rdb pgPIO (R.PIO_ICFG_EVEDGE i) = false) :
    s.acceptPio i tick level =
      s.setPin i { s.pin i with level := level, hold := none, tick := tick, count := (s.pin i).count + 1#32 } := by
  have hkeep : ∀ x f, (s.setPin i x).rdb pgPIO f = s.rdb pgPIO f := fun _ _ => rfl
  simp only [State.acceptPio, hkeep, he, Bool.false_eq_true, if_false]
  rw [inputFunctions_stop ((hkeep _ _).trans ht) ((hkeep _ _).trans hw), hkeep, hs]
  rfl

end Press

/-- Settles O60: each transition by its hold and filter, and the functions that an accepted edge feeds. -/
theorem pressInputs : Obligations.PressInputs := by
  refine ⟨?held, ?atOnce, ?glitch, ?accepted, ?plain, ?stop⟩
  case held =>
    refine fun i l => runs_of (f := (·.edgesFirst.pioSeen i.val l)) (fun _ _ => rfl) fun u ⟨_, hp, hh, hl, hf⟩ => ?_
    rw [pioSeen_idle hp hh hl]
    exact if_neg hf
  case atOnce =>
    refine fun i l => runs_of (f := (·.edgesFirst.pioSeen i.val l)) (fun _ _ => rfl) fun u ⟨_, hp, hh, hl, hf⟩ => ?_
    rw [pioSeen_idle hp hh hl]
    exact if_pos hf
  case glitch =>
    exact fun i l h => runs_of (f := (·.edgesFirst.pioSeen i.val l)) (fun _ _ => rfl)
      fun u ⟨_, hp, hh, ht, hl⟩ => pioSeen_glitch hp hh ht hl
  case accepted =>
    exact fun i h => runs_of (f := (·.edgesFirst.pioHoldEnd i.val)) (fun _ _ => rfl)
      fun u ⟨_, hh, ht⟩ => pioHoldEnd_accepts hh ht
  case plain => exact fun s i tick l hs ht hw he => acceptPio_plain hs ht hw he
  case stop =>
    refine fun s i tick hs hi ht hw => ?_
    rw [inputFunctions_stop ht hw, hs, hi]
    simp only [decide_true, Bool.and_self, if_true]

end Sys2Proof.Machine
end

section
/-!
SUPPORT. Laws that the proofs of this part share: fields that an operation leaves, and a register command of any page.
-/
namespace Sys2Proof.Machine

/-! ### Fields that an operation leaves -/

theorem rdb_raise (s : State) (pg flag d q : Nat) (g : Fld) : (s.raise pg flag d).rdb q g = s.rdb q g := by
  simp only [State.rdb, State.rd, State.word, raise_fields]

/-- A count that wraps leaves the other registers of its page. -/
theorem rdb_incWrap_other (s : State) {pg : Nat} {f g : Fld} (h : f.off ≠ g.off) :
    (s.incWrap pg f).rdb pg g = s.rdb pg g := by
  rw [State.rdb, State.rdb, ← rd_wr_other s pg f (s.rd pg f + 1) pg g (by omega)]
  rfl

/-! ### A register command (R33, R36) -/

theorem pageNo_fieldAddr (pg : Nat) {f : Fld} (h : f.off < 4096) : pageNo (fieldAddr pg f) = pg := pageNo_headAddr pg f.off h

theorem pageOff_fieldAddr (pg : Nat) {f : Fld} (h : f.off < 4096) : pageOff (fieldAddr pg f) = f.off :=
  pageOff_headAddr pg f.off h

/-- A register of a page is the register at its address. -/
theorem regAt_fieldAddr {pg i inst : Nat} {f : Fld} {k : PageKind} {d : RegDef} (hpg : pg < 4096) (hlt : f.off < 4096)
    (hk : pageKind pg = some (k, inst)) (hf : findReg k.regs f.off = some (d, i)) : regAt (fieldAddr pg f) = some d := by
  have hno : fieldAddr pg f / 4096 = pg := pageNo_fieldAddr pg hlt
  have hof : fieldAddr pg f % 4096 = f.off := pageOff_fieldAddr pg hlt
  have hspace : ¬ 2 ^ 24 ≤ fieldAddr pg f := by simp only [fieldAddr]; omega
  simp only [regAt, if_neg hspace, hno, hk, hof, hf, Option.map_some]

/-- The checks of a write find the page of its address. -/
theorem pageKind_of_takes {s : State} {m : Master} {addr inst : Nat} {k : PageKind} (h : s.takes m addr k inst = true) :
    pageKind (pageNo addr) = some (k, inst) := by
  simp only [State.takes, Bool.and_eq_true, beq_iff_eq] at h
  obtain ⟨⟨⟨⟨⟨⟨hk, -⟩, -⟩, -⟩, -⟩, -⟩, -⟩ := h
  exact hk

/-- A write of a register that passes the checks, and that its block stores before it acts: what the block makes of the
stored register. -/
theorem regCmd_stored {u : State} {m : Master} {pg i inst : Nat} {f : Fld} {k : PageKind} {d : RegDef} {v : Word}
    {g : State → State} (h : u.accepts m (fieldAddr pg f) k inst = true) (hpg : pg < 4096) (h40 : 0x40 ≤ f.off)
    (hlt : f.off < 4096) (hf : findReg k.regs f.off = some (d, i))
    (hw : u.writeBlock {} m k inst (fieldAddr pg f) d i v = u.putThen (fieldAddr pg f) d v g) :
    u.regCmd m pg f v = (g (u.stored pg f v)).acceptedBy u m k inst (fieldAddr pg f) v := by
  have htakes : u.takes m (fieldAddr pg f) k inst = true := (Bool.and_eq_true_iff.mp h).1
  have hk : pageKind pg = some (k, inst) := pageNo_fieldAddr pg hlt ▸ pageKind_of_takes htakes
  have hst : u.stored pg f v = u.putReg (pageNo (fieldAddr pg f)) (fieldAddr pg f) d v := by
    simp only [State.stored, regAt_fieldAddr hpg hlt hk hf, pageNo_fieldAddr pg hlt]
  rw [hst]
  rw [← pageOff_fieldAddr pg hlt] at h40 hf
  exact regWrite_accept h h40 hf (Or.inl rfl) hw

end Sys2Proof.Machine
end

section
/-!
CERTIFICATE. Host lanes: arrival and ingest of a frame, PAUSE, and a lane that comes up or goes down (O27).
-/
namespace Sys2Proof.Machine

section HostLane
variable {s : State} {n : Nat}

/-- A sound YRT frame that fits waits at the end of its lane's FIFO, with its YRT bytes counted as received (R194, R222). -/
theorem frameIn_yrt {f : List Byte} (hl : 64 ≤ f.length) (hc : leAt f (f.length - 4) 4 = fcs32 (f.take (f.length - 4)))
    (hup : s.rdb (pgHLNK n) R.HLNK_STAT_UP = true) (hm : f.length ≤ s.maxFrame n)
    (ht : etherType (f.take (f.length - 4)) = s.rd pgYRT R.YRT_CTL_ETYPE) (he : s.enabled pgYRT = true)
    (hf : (s.setLane n { s.lane n with yrtRx := (s.lane n).yrtRx + yrtBytes (f.take (f.length - 4)) }).fifoLevel n +
      yrtBytes (f.take (f.length - 4)) ≤ 131072) :
    s.frameIn n f =
      (let k := yrtBytes (f.take (f.length - 4))
       let z := s.setLane n { s.lane n with yrtRx := (s.lane n).yrtRx + k }
       z.setLane n { z.lane n with fifo := (z.lane n).fifo ++ [{ bytes := f.take (f.length - 4), yrt := k }] }) := by
  have hlen : ¬ (f.length < 64 ∨ s.maxFrame n < f.length) := by omega
  have hen : ∀ l, (s.setLane n l).enabled pgYRT = true := fun _ => he
  have hfit := Nat.not_lt.mpr hf
  simp only [State.frameIn, hup, if_neg hlen, hc, ht, hen, hfit, BEq.rfl, Bool.not_true, Bool.true_eq_false,
    Bool.false_eq_true, ne_eq, not_true_eq_false, if_false]

/-- A PAUSE with PAUSEEN 1 stops the lane for its quanta of 512 bit times (R196). -/
theorem pause_stops {q : Nat} (hq : 0 < q) (hup : s.rdb (pgHLNK n) R.HLNK_STAT_UP = true)
    (hp : s.rdb (pgHLNK n) R.HLNK_CTL_PAUSEEN = true) :
    s.pause n q =
      (let z := (s.incWrap (pgHLNK n) R.HLNK_PAUSE).raise (pgHLNK n) 4
       (z.setLane n { z.lane n with pauseEnd := z.now + q *
         (if z.rd (pgHLNK n) R.HLNK_CTL_MODE = 1 then 81920 else 32768) / 100 }).wr (pgHLNK n) R.HLNK_STAT_PAUSED 1) := by
  simp only [State.pause, hup, rdb_raise, rdb_incWrap_other _ (show R.HLNK_PAUSE.off ≠ R.HLNK_CTL_PAUSEEN.off by decide), hp,
    Bool.not_true, Bool.false_eq_true, if_false, if_neg (Nat.pos_iff_ne_zero.mp hq)]

/-- A PAUSE with PAUSEEN 0 is counted and flagged only (R196). -/
theorem pause_ignored {q : Nat} (hup : s.rdb (pgHLNK n) R.HLNK_STAT_UP = true)
    (hp : s.rdb (pgHLNK n) R.HLNK_CTL_PAUSEEN = false) :
    s.pause n q = (s.incWrap (pgHLNK n) R.HLNK_PAUSE).raise (pgHLNK n) 4 := by
  simp only [State.pause, hup, rdb_raise, rdb_incWrap_other _ (show R.HLNK_PAUSE.off ≠ R.HLNK_CTL_PAUSEEN.off by decide), hp,
    Bool.not_true, Bool.not_false, Bool.false_eq_true, if_true, if_false]

/-- A pause whose quanta have expired ends (R196). -/
theorem pauseOver_ends (hp : s.rdb (pgHLNK n) R.HLNK_STAT_PAUSED = true) (ht : (s.lane n).pauseEnd ≤ s.now) :
    s.pauseOver n = s.unpause n := by
  simp only [State.pauseOver, hp, ht, decide_true, Bool.and_self, if_true]

/-- A lane that is on and not up comes up with its counts at 0 (R193, R197). -/
theorem laneComesUp_up (hp : s.pagesUp = true) (hd : s.rdb (pgHLNK n) R.HLNK_STAT_UP = false)
    (hm : s.rd (pgHLNK n) R.HLNK_CTL_MODE = 1 ∨ s.rd (pgHLNK n) R.HLNK_CTL_MODE = 2) :
    s.laneComesUp n =
      (let z := ((s.setLane n { s.lane n with d := 0, reconfig := false, yrtRx := 0 }).wr (pgHLNK n) R.HLNK_STAT_UP 1).wr
        (pgHLNK n) R.HLNK_STAT_BLOCKLOCK 1
       (z.wr (pgHLNK n) R.HLNK_STAT_FECLOCK (b2n (z.laneFec n != 0))).raise (pgHLNK n) 0) := by
  have hon : (s.rd (pgHLNK n) R.HLNK_CTL_MODE == 1 || s.rd (pgHLNK n) R.HLNK_CTL_MODE == 2) = true := by simpa using hm
  simp only [State.laneComesUp, hp, hd, hon, Bool.not_true, Bool.or_false, Bool.false_eq_true, if_false]

/-- A lane that is up goes down with its sessions; its address, what it sends and its pending change stay (R60, R222). -/
theorem laneDown_up (hup : s.rdb (pgHLNK n) R.HLNK_STAT_UP = true) :
    s.laneDown n =
      (let z := s.closeWhere (fun x => x.open_ && decide (x.lane = n)) 8
       let l := z.lane n
       let y := z.setLane n { mac := l.mac, tx := l.tx, reconfig := l.reconfig }
       (y.wr (pgHLNK n) R.HLNK_STAT (y.rd (pgHLNK n) R.HLNK_STAT / 16 * 16)).raise (pgHLNK n) 1) := by
  simp only [State.laneDown, hup, Bool.true_eq_false, if_false]

end HostLane

/-- A write of HLNK_CTL that changes MODE or FEC takes the lane down, to come up again (R197). -/
theorem regCmd_hlnkCtl {u : State} {m : Master} {n : Fin 4} {v : Word}
    (h : u.accepts m (fieldAddr (pgHLNK n.val) R.HLNK_CTL) .hlnk n.val = true)
    (hne : u.rd (pgHLNK n.val) R.HLNK_CTL % 16 ≠ (u.stored (pgHLNK n.val) R.HLNK_CTL v).rd (pgHLNK n.val) R.HLNK_CTL % 16) :
    u.regCmd m (pgHLNK n.val) R.HLNK_CTL v =
      (let z := (u.stored (pgHLNK n.val) R.HLNK_CTL v).laneDown n.val
       (z.setLane n.val { z.lane n.val with reconfig := true }).acceptedBy u m .hlnk n.val
         (fieldAddr (pgHLNK n.val) R.HLNK_CTL) v) := by
  have hpg : pgHLNK n.val < 4096 := by simp only [pgHLNK]; omega
  rw [regCmd_stored h hpg (by decide) (by decide) rfl (g := fun s => s.laneReconfig n.val (u.rd (pgHLNK n.val) R.HLNK_CTL)) rfl,
    State.laneReconfig, if_neg hne]

/-- Settles O27: each arrival and each change of a lane by the operation that carries it. -/
theorem hostLanes : Obligations.HostLanes := by
  refine ⟨?frame, ?pause, ?ignored, ?resume, ?up, ?down, ?reconfig⟩
  case frame =>
    exact fun n f hl hc => runs_of (f := (·.frameIn n.val f)) (fun _ _ => rfl)
      fun u ⟨hup, hm, ht, he, hf⟩ => frameIn_yrt hl hc hup hm ht he hf
  case pause =>
    exact fun n q hq => runs_of (f := (·.pause n.val q.toNat)) (fun _ _ => rfl) fun u ⟨hup, hp⟩ => pause_stops hq hup hp
  case ignored =>
    exact fun n q => runs_of (f := (·.pause n.val q.toNat)) (fun _ _ => rfl) fun u ⟨hup, hp⟩ => pause_ignored hup hp
  case resume =>
    exact fun n => runs_of (f := (·.pauseOver n.val)) (fun _ _ => rfl) fun u ⟨hp, ht⟩ => pauseOver_ends hp ht
  case up =>
    exact fun n => runs_of (f := (·.laneComesUp n.val)) (fun _ _ => rfl) fun u ⟨hp, hd, hm⟩ => laneComesUp_up hp hd hm
  case down => exact fun n => runs_of (f := (·.laneDown n.val)) (fun _ _ => rfl) fun u hup => laneDown_up hup
  case reconfig =>
    exact fun m n v => runs_of (f := (·.regCmd m (pgHLNK n.val) R.HLNK_CTL v)) (fun _ _ => rfl)
      fun u ⟨h, hne⟩ => regCmd_hlnkCtl h hne

end Sys2Proof.Machine
end

section
/-!
CERTIFICATE. The ingest FIFO, frames outside the sequence of a session, and the periodic CREDIT (O28).
-/
namespace Sys2Proof.Machine

section Ingest
variable {s : State} {n : Nat} {f : RxFrame} {rest : List RxFrame}

/-- Within the budget the oldest frame leaves whole, a token for each 4 bytes, and waits to be handled (R222, R228). -/
theorem drain_whole (hf : (s.weirRoll.lane n).fifo = f :: rest)
    (hb : (f.yrt - f.gone + 3) / 4 ≤ (s.weirRoll.act (10 + n)).level) :
    s.drain n =
      (let z := s.weirRoll
       let x := z.act (10 + n)
       let k := (f.yrt - f.gone + 3) / 4
       ((z.setAct (10 + n) { x with level := x.level - k, admitted := x.admitted + k }).setLane n
         { z.lane n with fifo := rest, rx := (z.lane n).rx ++ [f] }).addD n (f.yrt - f.gone)) := by
  have hbytes : min (f.yrt - f.gone) (4 * ((f.yrt - f.gone + 3) / 4)) = f.yrt - f.gone := by omega
  simp only [State.drain, hf, Nat.min_eq_left hb, hbytes, Nat.lt_irrefl, decide_false, Bool.or_false, if_true]

/-- With the budget spent the FIFO stalls: the bytes that the last tokens pay for leave, the rest of the frame stays (R229). -/
theorem drain_stalls (hf : (s.weirRoll.lane n).fifo = f :: rest)
    (hb : (s.weirRoll.act (10 + n)).level < (f.yrt - f.gone + 3) / 4) :
    s.drain n =
      (let z := s.weirRoll
       let x := z.act (10 + n)
       ((z.setAct (10 + n) { x with level := 0, admitted := x.admitted + x.level, stalled := true }).setLane n
         { z.lane n with fifo := { f with gone := f.gone + 4 * x.level } :: rest }).addD n (4 * x.level)) := by
  have hbytes : min (f.yrt - f.gone) (4 * (s.weirRoll.act (10 + n)).level) = 4 * (s.weirRoll.act (10 + n)).level := by omega
  simp only [State.drain, hf, Nat.min_eq_right (Nat.le_of_lt hb), hbytes, hb, decide_true, Bool.or_true, Nat.sub_self,
    if_neg (Nat.ne_of_lt hb)]

end Ingest

section Frames
variable {s : State} {n kind : Nat} {x : RxFrame} {rest : List RxFrame}

/-- The oldest drained frame is handled by the command of its kind (R198). -/
theorem takeYrt_front (hr : (s.lane n).rx = x :: rest) (hk : (parseYrt x.bytes).kind = kind) (f : State → Yrt → State) :
    s.takeYrt n kind f = f (s.setLane n { s.lane n with rx := rest }) (parseYrt x.bytes) := by
  simp only [State.takeYrt, hr, hk, if_true]

/-- A frame of an open session, outside its sequence, is handled for that session, which has heard from its host
(R60, R204, R210). -/
theorem takeYrt_unsequenced (h : s.yrtFor n kind x rest) (f : State → Nat → Yrt → State) :
    s.takeYrt n kind (fun s y => s.unsequenced n y f) = f (s.yrtTaken n x rest) (parseYrt x.bytes).sess (parseYrt x.bytes) := by
  obtain ⟨hr, hk, hl, hs, ho, hn, hm⟩ := h
  have hin : (s.setLane n { s.lane n with rx := rest }).inSession n (parseYrt x.bytes) =
      (some (parseYrt x.bytes).sess, s.yrtTaken n x rest) := if_pos ⟨hs, ho, hn, hm⟩
  rw [takeYrt_front hr hk, State.unsequenced, show (s.setLane n _).listening = false from hl, hin]
  rfl

end Frames

/-- The CREDIT that ends a CREDINT interval names every enabled host-produced basin (R225). -/
theorem creditPeriodic_due {s : State} {n : Nat} (ho : s.laneOpen n = true)
    (ht : (s.lane n).creditAt + us (atLeast1 (s.rd pgYRT R.YRT_TIMERS_CREDINT)) ≤ s.now) :
    s.creditPeriodic n = s.credit n s.hostBasins := by
  simp only [State.creditPeriodic, ho, ht, decide_true, Bool.and_self, if_true]

/-- Settles O28: draining by the level of the lane's ingest budget, frames outside sequence by the session that they name. -/
theorem ingestAndAcks : Obligations.IngestAndAcks := by
  refine ⟨?whole, ?stalls, ?invalid, ?ack, ?nak, ?credit⟩
  case whole =>
    exact fun n f rest => runs_of (f := (·.drain n.val)) (fun _ _ => rfl) fun u ⟨hf, hb⟩ => drain_whole hf hb
  case stalls =>
    exact fun n f rest => runs_of (f := (·.drain n.val)) (fun _ _ => rfl) fun u ⟨hf, hb⟩ => drain_stalls hf hb
  case invalid =>
    exact fun n x rest hk => runs_of (f := (·.takeYrt n.val 0 fun s _ => s.yrtInvalid)) (fun _ _ => rfl)
      fun u hr => takeYrt_front hr hk _
  case ack =>
    exact fun n x rest => runs_of (f := (·.takeYrt n.val 0x13 fun s y => s.unsequenced n.val y fun s _ _ => s))
      (fun _ _ => rfl) fun u h => takeYrt_unsequenced h _
  case nak =>
    exact fun n x rest => runs_of (f := (·.takeYrt n.val 0x12 fun s y => s.unsequenced n.val y State.yrtNak))
      (fun _ _ => rfl) fun u h => takeYrt_unsequenced h _
  case credit =>
    exact fun n => runs_of (f := (·.creditPeriodic n.val)) (fun _ _ => rfl) fun u ⟨ho, ht⟩ => creditPeriodic_due ho ht

end Sys2Proof.Machine
end

section
/-!
CERTIFICATE. Command records: C passes a record, and it acts or is refused (O35).
-/
namespace Sys2Proof.Machine

/-! ### What passing a record leaves -/

/-- Checking the credits leaves the jobs. -/
theorem jobs_credits (s : State) : s.credits.jobs = s.jobs := (congrArg State.jobs (inner_credits s) :)

/-- A report of a consumer count leaves the jobs. -/
theorem jobs_reportC (s : State) (b : Nat) : (s.reportC b).jobs = s.jobs := by
  simp only [State.reportC]
  split
  · rw [State.tellC]
    exact (congrArg State.jobs (inner_sendDelta (s.setTwin _) _) :)
  · rfl

/-- An advance of C leaves the jobs. -/
theorem jobs_consume (s : State) (b c : Nat) : (s.consume b c).jobs = s.jobs := by
  simp only [State.consume]
  split
  · rfl
  · rw [jobs_credits, jobs_reportC]; rfl

/-- C passes a record, and only the order of the waiting records changes among the jobs. -/
theorem jobs_passRecord (s : State) (b : Nat) :
    (s.passRecord b).jobs = { s.jobs with order := dropFirst b s.jobs.order } := jobs_consume _ _ _

/-- The status registers of the jobs leave the jobs. -/
theorem jobs_jobRegs (s : State) : s.jobRegs.jobs = s.jobs := by simp only [State.jobRegs, wr_fields]

/-! ### Taking a record (R231 to R234) -/

/-- What a sound record of a TYPE does once C has passed it (R231, R236). -/
def State.recordActs (s : State) (b : Nat) (r : List Byte) : Nat → State
  | 1 => s.takeJob b r
  | 2 => if s.namesCur (leAt r 4 4) then s.haltJob 1 else s
  | 3 => if s.namesCur (leAt r 4 4) then s.resumeJob else s
  | 4 => s.takeAbort (leAt r 4 4)
  | _ => s.takeEnd (leAt r 4 4) (leAt r 40 6)

section Record
variable {s : State} {b type : Nat}

/-- The command of a record's TYPE takes it. -/
theorem takeIf_record (h : s.recordIs b type) {p : Nat → Bool} (hp : p type = true) : s.takeIf p = s.takeRecord b := by
  obtain ⟨ht, hn, -, -, hb⟩ := h
  simp only [State.takeIf, ht, hn, hb, hp, Bool.not_true, Bool.false_eq_true, if_true, if_false]

/-- A sound record acts by its TYPE once C has passed it. -/
theorem takeRecord_sound (h : s.recordIs b type) :
    s.takeRecord b = (s.passRecord b).recordActs b (s.recordAt b) type := by
  obtain ⟨-, -, hc, ho, rfl⟩ := h
  simp only [State.takeRecord, hc, ho, Bool.not_true, Bool.false_eq_true, if_false]
  rfl

/-- The command of a record's TYPE takes it, and the record acts. -/
theorem takeIf_sound (h : s.recordIs b type) {p : Nat → Bool} (hp : p type = true) :
    s.takeIf p = (s.passRecord b).recordActs b (s.recordAt b) type :=
  (takeIf_record h hp).trans (takeRecord_sound h)

/-- The one record that waits has a wrong CRC: it is refused with reason 1 (R232). -/
theorem takeAll_badCrc {at_ : Nat} (ht : s.takesRecords = true) (ho : s.jobs.order = [(at_, b)]) (hb : s.basinOn b = true)
    (hc : recordCrc (s.recordAt b) = false) :
    s.takeAll s.jobs.order.length = (s.passRecord b).jobRefuse (leAt (s.recordAt b) 4 4) 1 b := by
  have hnext : s.nextRecord s.jobs.order [] = some b := by
    simp only [ho, State.nextRecord, hb, State.recordWaits, hc, List.contains_nil, Bool.false_and, Bool.not_true,
      Bool.or_self, Bool.false_eq_true, if_false]
  rw [show s.jobs.order.length = 1 by rw [ho]; rfl]
  simp only [State.takeAll, ht, hnext, State.takeRecord, hc, Bool.not_true, Bool.not_false, Bool.false_eq_true, if_true,
    if_false]

end Record

/-! ### What a record does (R232, R235, R236, R320, R421) -/

section Effect
variable {s : State}

/-- With a job in the running place none starts (R235). -/
theorem tryStart_running (h : s.jobs.cur ≠ none) : s.tryStart = s := by
  obtain ⟨j, hj⟩ := Option.ne_none_iff_exists'.mp h
  simp only [State.tryStart, hj]

/-- A JOB that nothing refuses is queued behind the running job (R232, R233). -/
theorem takeJob_queued {b : Nat} {r : List Byte} (hr : s.jobReason (parseJob r) = 0) (hc : s.jobs.cur ≠ none) :
    s.takeJob b r =
      ((s.setJobs { s.jobs with queued := some { parseJob r with cmdBasin := b } }).raise pgBASN 0
        (parseJob r).id).jobRegs := by
  simp only [State.takeJob, hr, ne_eq, not_true_eq_false, if_false]
  refine tryStart_running ?_
  rw [jobs_jobRegs]
  exact hc

/-- A JOB that something refuses is refused with its reason (R232). -/
theorem takeJob_refused {b : Nat} {r : List Byte} (hr : s.jobReason (parseJob r) ≠ 0) :
    s.takeJob b r = s.jobRefuse (parseJob r).id (s.jobReason (parseJob r)) b := if_pos hr

/-- The id of the running job, or the one that stands for any, names it (R236). -/
theorem namesCur_of {j : Job} {id : Nat} (hj : s.jobs.cur = some j) (hid : id = 0xFFFFFFFF ∨ id = j.id) :
    s.namesCur id = true := by
  simpa only [State.namesCur, hj, Option.isSome_some, Bool.true_and, Option.map_some, Option.some.injEq, Bool.or_eq_true,
    decide_eq_true_eq, eq_comm (a := j.id)] using hid

/-- A halt takes the clean stop slot of every bar that has none, and the device enters HALTED (R236, R320). -/
theorem haltJob_printing {j : Job} (hj : s.jobs.cur = some j) (hs : s.dev.state = .printing) (cause : Nat) :
    s.haltJob cause =
      (let y := State.each (State.stopBar j) s ((barsOf j.bars).filter fun b => (s.barF b).stop.isNone)
       ((y.setJobs { y.jobs with haltAt := some y.now }).enterSide .halted cause).loopHold.jobRegs) := by
  simp only [State.haltJob, hj, hs, ne_eq, not_true_eq_false, if_false]

/-- A resume returns to PRINTING; bars outside the stop sequence are free again, with the warm-up (R236, R421). -/
theorem resumeJob_halted {j : Job} (hj : s.jobs.cur = some j) (hs : s.dev.state = .halted) (hp : s.pio.stopAt ≠ some s.now) :
    s.resumeJob =
      (State.each (fun s b =>
        let y := s.warmSets b (s.barF b).sigma (s.rd (pgHLTH b) R.HLTH_WARM_RESUME : Nat)
        if bitOf y.waitBar b then y else y.freeBar b) (s.goto .printing) (barsOf j.bars)).loopHold.jobRegs := by
  simp only [State.resumeJob, hj, hs, beq_eq_false_iff_ne.mpr hp, ne_eq, not_true_eq_false, decide_false, Bool.or_self,
    Bool.false_eq_true, if_false]

/-- An ABORT of the queued job alone removes it (R236). -/
theorem takeAbort_queued {j k : Job} (hne : j.id ≠ k.id) (hid : k.id ≠ 0xFFFFFFFF) (hj : s.jobs.cur = some j)
    (hk : s.jobs.queued = some k) :
    s.takeAbort k.id = ((s.setJobs { s.jobs with queued := none }).raise pgBASN 3 k.id).jobRegs := by
  have hn : s.namesCur k.id = false := by
    simp only [State.namesCur, hj, Option.map_some, Option.some.injEq, hid, hne, decide_false, Bool.or_self, Bool.and_false]
  simp only [State.takeAbort, hn, hk, Option.map_some, Bool.false_eq_true, if_true, if_false]

/-- The first END of an unbounded live job gives its end (R236). -/
theorem takeEnd_live {j : Job} (hk : j.kind = 1) (hl : j.lines = 0) (he : j.ended = none) (hj : s.jobs.cur = some j)
    (line : Nat) :
    s.takeEnd j.id line = s.setJobs { s.jobs with cur := some { j with ended := some line } } := by
  have hend : j.endable j.id = true := by
    simp only [Job.endable, hk, hl, he, Option.isNone_none, and_self, decide_true, Bool.true_or, Bool.and_self]
  simp only [State.takeEnd, hj, hend, hk, if_true]
  rfl

end Effect

/-- Settles O35: the command of each TYPE takes its record, and what the record does. -/
theorem commandRecords : Obligations.CommandRecords := by
  refine ⟨?badCrc, ?queued, ?refused, ?halt, ?resume, ?abort, ?ends⟩
  case badCrc =>
    exact fun b => runs_of (f := fun u => u.takeAll u.jobs.order.length) (fun _ _ => rfl)
      fun u ⟨ht, ⟨_, ho⟩, hb, hc⟩ => takeAll_badCrc ht ho hb hc
  case queued =>
    refine fun b => runs_of (f := (·.takeIf (· == 1))) (fun _ _ => rfl) fun u ⟨h, hr, hc⟩ => ?_
    rw [takeIf_sound h rfl]
    exact takeJob_queued hr (by rw [jobs_passRecord]; exact hc)
  case refused =>
    refine fun b => runs_of (f := (·.takeIf (· == 1))) (fun _ _ => rfl) fun u ⟨h, hr⟩ => ?_
    rw [takeIf_sound h rfl]
    exact takeJob_refused hr
  case halt =>
    refine fun b j => runs_of (f := (·.takeIf (· == 2))) (fun _ _ => rfl) fun u ⟨h, hj, hs, hid⟩ => ?_
    rw [takeIf_sound h rfl]
    exact (if_pos (namesCur_of hj hid)).trans (haltJob_printing hj hs 1)
  case resume =>
    refine fun b j => runs_of (f := (·.takeIf (· == 3))) (fun _ _ => rfl) fun u ⟨h, hj, hs, hp, hid⟩ => ?_
    rw [takeIf_sound h rfl]
    exact (if_pos (namesCur_of hj hid)).trans (resumeJob_halted hj hs hp)
  case abort =>
    refine fun b j k hne hid => runs_of (f := (·.takeIf (· == 4))) (fun _ _ => rfl) fun u ⟨h, hj, hk, hi⟩ => ?_
    rw [takeIf_sound h rfl]
    simp only [State.recordActs, hi]
    exact takeAbort_queued hne hid hj hk
  case ends =>
    refine fun b j hk hl he => runs_of (f := (·.takeIf fun p => p == 0 || 5 ≤ p)) (fun _ _ => rfl)
      fun u ⟨h, hj, hi⟩ => ?_
    rw [takeIf_sound h rfl]
    simp only [State.recordActs, hi]
    exact takeEnd_live hk hl he hj _

end Sys2Proof.Machine
end

section
/-!
SUPPORT. A mailbox write on a page with a twin image: an active device passes every word on to its standby (R71, R584).
-/
namespace Sys2Proof.Machine

/-! ### The image of a write changes the twin unit only -/

theorem twinSendOn_twin (s : State) (n : Nat) (f : TwinFrame) : ∃ x, s.twinSendOn n f = s.setTwin x := by
  simp only [State.twinSendOn]
  split <;> exact ⟨_, rfl⟩

theorem twinSend_twin (s : State) (f : TwinFrame) : ∃ x, s.twinSend f = s.setTwin x := by
  simp only [State.twinSend]
  split <;> exact twinSendOn_twin s _ f

theorem sendDelta_twin (s : State) (d : Delta) : ∃ x, s.sendDelta d = s.setTwin x := by
  obtain ⟨x, hx⟩ := twinSend_twin (s.setTwin _) (.delta s.twin.deltaTx d)
  exact ⟨x, hx⟩

theorem mirrorWrite_twin (s : State) (m : Master) (k : PageKind) (addr v : Nat) (a : Bool) :
    ∃ x, s.mirrorWrite m k addr v a = s.setTwin x := by
  simp only [State.mirrorWrite]
  split
  · exact sendDelta_twin s _
  · exact ⟨s.twin, rfl⟩

/-! ### The data words -/

/-- `t` has the registers, the device state, the part and the sessions of `s`: all that the checks of a write read. -/
structure SameChecks (s t : State) : Prop where
  regs : t.regs = s.regs
  dev : t.dev = s.dev
  part : t.part = s.part
  sess : t.sess = s.sess

/-- One data word of a mailbox write, with its image for the standby. -/
def State.mbxWordOn (s : State) (m : Master) (pg : Nat) (k : PageKind) (value : Nat) (active : Bool) (i : Nat) : State :=
  (s.writeData m pg i (bitsOf value (32 * i) 32)).mirrorWrite m k (headAddr pg (0x28 + 4 * i))
    (bitsOf value (32 * i) 32) active

theorem mbxLoadedOn_eq (s : State) (m : Master) (pg : Nat) (k : PageKind) (value : Nat) :
    s.mbxLoadedOn m pg k value = (List.range 4).foldl (·.mbxWordOn m pg k value s.isActive ·) s := rfl

section Words
variable {s t : State} {m : Master} {pg value : Nat} {k : PageKind} {inst : Nat} {a : Bool}

/-- A data word leaves what the checks read. -/
theorem SameChecks.mbxWordOn (h : SameChecks s t) (i : Nat) : SameChecks s (t.mbxWordOn m pg k value a i) := by
  obtain ⟨x, hx⟩ := mirrorWrite_twin (t.writeData m pg i (bitsOf value (32 * i) 32)) m k (headAddr pg (0x28 + 4 * i))
    (bitsOf value (32 * i) 32) a
  obtain ⟨hregs, hdev, hpart, hsess⟩ := writeData_fields t m pg i (bitsOf value (32 * i) 32)
  rw [State.mbxWordOn, hx]
  exact ⟨hregs.trans h.regs, hdev.trans h.dev, hpart.trans h.part, hsess.trans h.sess⟩

/-- Where the checks of the mailbox pass, a write of a data register is the data word with its image. -/
theorem regWrite_mbxWord (hc : SameChecks s t) (h : s.takes m (headAddr pg 0x20) k inst = true) {i : Nat} (hi : i < 4) :
    t.regWrite m (headAddr pg (0x28 + 4 * i)) (BitVec.ofNat 32 (bitsOf value (32 * i) 32)) =
      t.mbxWordOn m pg k value s.isActive i := by
  have ht : t.takes m (headAddr pg (0x28 + 4 * i)) k inst = true :=
    takes_head (a := 0x20) (by omega) (by omega) (by omega) hc.regs hc.dev hc.part hc.sess h
  have hv : (BitVec.ofNat 32 (bitsOf value (32 * i) 32)).toNat = bitsOf value (32 * i) 32 := by
    simp only [BitVec.toNat_ofNat, bitsOf, Nat.mod_mod]
  have hoff : pageOff (headAddr pg (0x28 + 4 * i)) = 0x28 + 4 * i := pageOff_headAddr _ _ (by omega)
  have hact : t.isActive = s.isActive := by simp only [State.isActive, hc.dev]
  have hwrite : t.writeHead m pg k inst (0x28 + 4 * i) (bitsOf value (32 * i) 32) =
      wrote (t.writeData m pg i (bitsOf value (32 * i) 32)) := by
    rcases (by omega : i = 0 ∨ i = 1 ∨ i = 2 ∨ i = 3) with rfl | rfl | rfl | rfl <;> rfl
  rw [regWrite_head (t := t.writeData m pg i (bitsOf value (32 * i) 32)) (l := true) ht (by omega)
    (by rw [hoff, hv, pageNo_headAddr _ _ (by omega)]; exact hwrite)
    (by simp only [hoff, Bool.true_and, beq_eq_false_iff_ne]; omega),
    hact, hv]
  rfl

/-- The data words of a mailbox write load the mailbox, and leave what the checks read. -/
theorem mbxWords_load (h : s.takes m (headAddr pg 0x20) k inst = true) (n : Nat) (hn : n ≤ 4) :
    (List.range n).foldl (fun s i => s.regWrite m (headAddr pg (0x28 + 4 * i)) (BitVec.ofNat 32 (bitsOf value (32 * i) 32))) s =
      (List.range n).foldl (·.mbxWordOn m pg k value s.isActive ·) s ∧
    SameChecks s ((List.range n).foldl (·.mbxWordOn m pg k value s.isActive ·) s) := by
  induction n with
  | zero => exact ⟨rfl, rfl, rfl, rfl, rfl⟩
  | succ n ih =>
    obtain ⟨heq, hc⟩ := ih (by omega)
    simp only [List.range_succ, List.foldl_append, List.foldl_cons, List.foldl_nil, heq]
    exact ⟨regWrite_mbxWord hc h (by omega), hc.mbxWordOn n⟩

/-- A data word extends the part of a value that the mailbox holds, whatever its image is. -/
theorem mbxWordOn_low {i : Nat} (hi : i < 4) (h : (s.mbx pg m).data.toNat % 2 ^ (32 * i) = value % 2 ^ (32 * i)) :
    ((s.mbxWordOn m pg k value a i).mbx pg m).data.toNat % 2 ^ (32 * (i + 1)) = value % 2 ^ (32 * (i + 1)) := by
  obtain ⟨x, hx⟩ := mirrorWrite_twin (s.writeData m pg i (bitsOf value (32 * i) 32)) m k (headAddr pg (0x28 + 4 * i))
    (bitsOf value (32 * i) 32) a
  rw [State.mbxWordOn, hx]
  exact writeData_low hi h

/-- A value of 128 bits written word by word stands in the mailbox. -/
theorem mbxLoadedOn_data (s : State) (m : Master) (pg : Nat) (k : PageKind) (value : Nat) :
    ((s.mbxLoadedOn m pg k value).mbx pg m).data.toNat = value % 2 ^ 128 := by
  have hwords : ∀ n ≤ 4, (((List.range n).foldl (·.mbxWordOn m pg k value s.isActive ·) s).mbx pg m).data.toNat %
      2 ^ (32 * n) = value % 2 ^ (32 * n) := by
    intro n hn
    induction n with
    | zero => omega
    | succ n ih =>
      simp only [List.range_succ, List.foldl_append, List.foldl_cons, List.foldl_nil]
      exact mbxWordOn_low (by omega) (ih (by omega))
  exact (Nat.mod_eq_of_lt (BitVec.isLt _)).symm.trans (hwords 4 (by omega))

/-- A mailbox write of an item that its block accepts, with the image of the selection (R71, R584). -/
theorem mbxWrite_doneOn {item : Nat} (hi : item < 2 ^ 12) (hp : itemPriv k item = false)
    (h : s.takes m (headAddr pg 0x20) k inst = true) (hu : (s.mbxLoadedOn m pg k value).itemUse k item = .readWrite)
    (hw : ((s.mbxLoadedOn m pg k value).itemWrite k inst item ((s.mbxLoadedOn m pg k value).mbx pg m).data.toNat).1 = true) :
    s.mbxWrite m pg item value =
      ((s.mbxLoadedOn m pg k value).mbxDone m pg k inst item).mirrorWrite m k (headAddr pg 0x20)
        (selWord item true).toNat s.isActive := by
  obtain ⟨hload, hc⟩ := mbxWords_load (value := value) h 4 (Nat.le_refl 4)
  simp only [State.mbxWrite, hload, ← mbxLoadedOn_eq] at hc ⊢
  generalize s.mbxLoadedOn m pg k value = z at hu hw hc ⊢
  have hact : z.isActive = s.isActive := by simp only [State.isActive, hc.dev]
  have hitem : bitsOf (selWord item true).toNat 0 12 = item := by simp [selWord, bitsOf]; omega
  have hdir : bitOf (selWord item true).toNat 15 = true := by simp [selWord, bitOf]; omega
  have hz : z.takes m (headAddr pg 0x20) k inst = true :=
    takes_head (a := 0x20) (by omega) (by omega) (by omega) hc.regs hc.dev hc.part hc.sess h
  rw [regWrite_head (l := false) (t := z.mbxDone m pg k inst item) hz (by rw [pageOff_headAddr] <;> omega) ?_ rfl, hact]
  rw [pageOff_headAddr _ _ (by omega), pageNo_headAddr _ _ (by omega)]
  simp only [State.writeHead, State.writeSel, hitem, hdir, hp, hu, hw, Bool.false_and, Bool.false_eq_true, if_true, if_false]
  rfl

end Words

end Sys2Proof.Machine
end

section
/-!
CERTIFICATE. Basins that a host enables, disables and consumes, and bands that land (O37).
-/
namespace Sys2Proof.Machine

/-! ### Enabling and disabling (R213 to R215) -/

/-- A value without a one-bit field reads 0 there. -/
theorem bitOf_withoutBit (v : Word) (f : Fld) (h : f.lo < 32) : bitOf (withoutBit v f).toNat f.lo = false := by
  have hbit : (BitVec.ofNat 32 (2 ^ f.lo)).getLsbD f.lo = true := by
    rw [BitVec.getLsbD_ofNat, Nat.testBit_two_pow_self]; simp [h]
  rw [bitOf_eq_testBit, BitVec.testBit_toNat, withoutBit, BitVec.getLsbD_and, BitVec.getLsbD_not, hbit]
  simp

/-- The BASN_RCFG registers of the ring table window. -/
theorem findReg_basnRcfg (b : Fin 32) : ∃ d, findReg PageKind.basnw.regs (R.BASN_RCFG b.val).off = some (d, b.val) ∧
    d.off = 0x44 := by
  refine ⟨⟨0x44, 32, 16, .imm, 0xc0, 0x3f7, 0x0, 0x0, 0x0⟩, ?_, rfl⟩
  revert b
  decide

/-- What an accepted write of BASN_RCFG does once the register is stored: DEVPROD follows USE, and a basin that starts or
stops counts anew (R214, R216). -/
def State.basnRcfg (s : State) (b : Nat) (was on : Bool) (v : Nat) : State :=
  let s := s.wr pgBASNW (R.BASN_RCFG_DEVPROD b) (b2n (bitOf v 2))
  let s := if was = on then s else s.basinAnew b
  if !was && on then
    State.each (fun s n => s.setLane n { s.lane n with creditL := merase (s.lane n).creditL b }) (s.setBasin b {})
      (List.range 4)
  else s

section Rcfg
variable {u : State} {m : Master} {b : Fin 32} {v : Word}

/-- A write of BASN_RCFG that R215 does not refuse. -/
theorem regCmd_basnRcfg (h : u.accepts m (fieldAddr pgBASNW (R.BASN_RCFG b.val)) .basnw 1 = true)
    (hmove : (u.basinOn b.val && (bitsOf (u.rd pgBASNW (R.BASN_RCFG b.val)) 1 2 != bitsOf v.toNat 1 2 ||
      bitsOf (u.rd pgBASNW (R.BASN_RCFG b.val)) 4 6 != bitsOf v.toNat 4 6)) = false)
    (hstop : (u.basinOn b.val && !bitOf v.toNat 0 && u.basinNamed b.val) = false)
    (hstart : (!u.basinOn b.val && bitOf v.toNat 0 && !u.basinFits b.val v.toNat) = false) :
    u.regCmd m pgBASNW (R.BASN_RCFG b.val) v =
      ((u.stored pgBASNW (R.BASN_RCFG b.val) v).basnRcfg b.val (u.basinOn b.val) (bitOf v.toNat 0) v.toNat).acceptedBy u m
        .basnw 1 (fieldAddr pgBASNW (R.BASN_RCFG b.val)) v := by
  obtain ⟨d, hf, hd⟩ := findReg_basnRcfg b
  have hlo : 0x40 ≤ (R.BASN_RCFG b.val).off := by simp only [R.BASN_RCFG]; omega
  have hhi : (R.BASN_RCFG b.val).off < 4096 := by simp only [R.BASN_RCFG]; omega
  refine regCmd_stored (g := (·.basnRcfg b.val (u.basinOn b.val) (bitOf v.toNat 0) v.toNat)) h (by decide) hlo hhi hf ?_
  simp only [State.writeBlock, State.writeBasnw, hd, hmove, hstop, hstart, Bool.false_eq_true, if_true, if_false]
  rfl

/-- An enable of a basin that fits starts it at P and C 0, and no lane has told a limit of it (R213, R214). -/
theorem regCmd_basinEnable (h : u.accepts m (fieldAddr pgBASNW (R.BASN_RCFG b.val)) .basnw 1 = true)
    (hoff : u.basinOn b.val = false) (hfit : u.basinFits b.val (withBit v (R.BASN_RCFG_EN b.val)).toNat = true) :
    u.regCmd m pgBASNW (R.BASN_RCFG b.val) (withBit v (R.BASN_RCFG_EN b.val)) =
      (let w := withBit v (R.BASN_RCFG_EN b.val)
       let z := (u.stored pgBASNW (R.BASN_RCFG b.val) w).wr pgBASNW (R.BASN_RCFG_DEVPROD b.val) (b2n (bitOf w.toNat 2))
       (State.each (fun s n => s.setLane n { s.lane n with creditL := merase (s.lane n).creditL b.val })
         ((z.basinAnew b.val).setBasin b.val {}) (List.range 4)).acceptedBy u m .basnw 1
         (fieldAddr pgBASNW (R.BASN_RCFG b.val)) w) := by
  have hen : bitOf (withBit v (R.BASN_RCFG_EN b.val)).toNat 0 = true :=
    bitOf_withBit v (R.BASN_RCFG_EN b.val) (by simp [R.BASN_RCFG_EN])
  rw [regCmd_basnRcfg h (by simp [hoff]) (by simp [hoff]) (by simp [hfit]), hoff, hen]
  rfl

/-- A disable of a basin that no job names, with its USE and size as they are, stops it (R214, R215). -/
theorem regCmd_basinDisable (h : u.accepts m (fieldAddr pgBASNW (R.BASN_RCFG b.val)) .basnw 1 = true)
    (hon : u.basinOn b.val = true)
    (huse : bitsOf (u.rd pgBASNW (R.BASN_RCFG b.val)) 1 2 = bitsOf (withoutBit v (R.BASN_RCFG_EN b.val)).toNat 1 2)
    (hsize : bitsOf (u.rd pgBASNW (R.BASN_RCFG b.val)) 4 6 = bitsOf (withoutBit v (R.BASN_RCFG_EN b.val)).toNat 4 6)
    (hname : u.basinNamed b.val = false) :
    u.regCmd m pgBASNW (R.BASN_RCFG b.val) (withoutBit v (R.BASN_RCFG_EN b.val)) =
      (let w := withoutBit v (R.BASN_RCFG_EN b.val)
       (((u.stored pgBASNW (R.BASN_RCFG b.val) w).wr pgBASNW (R.BASN_RCFG_DEVPROD b.val) (b2n (bitOf w.toNat 2))).basinAnew
         b.val).acceptedBy u m .basnw 1 (fieldAddr pgBASNW (R.BASN_RCFG b.val)) w) := by
  have hen : bitOf (withoutBit v (R.BASN_RCFG_EN b.val)).toNat 0 = false :=
    bitOf_withoutBit v (R.BASN_RCFG_EN b.val) (by simp [R.BASN_RCFG_EN])
  rw [regCmd_basnRcfg h (by simp [huse, hsize]) (by simp [hname]) (by simp [hon]), hon, hen]
  rfl

end Rcfg

/-! ### Consuming (R217) -/

/-- A new C of a device-produced basin, ahead of the old one and not past P, is accepted (R217). -/
theorem itemWrite_basnC {s : State} {b v : Nat} (hon : s.basinOn b = true) (hdev : s.basinDev b = true)
    (hc : (s.basin b).c < v % 2 ^ 64) (hp : v % 2 ^ 64 ≤ (s.basin b).p) :
    s.itemWrite .basn 0 (4 * b + 1) v =
      (true, ((s.setBasin b { s.basin b with c := v % 2 ^ 64 }).reportC b).credits) := by
  have hb : (4 * b + 1) / 4 = b := by omega
  have hadv : s.consume b (v % 2 ^ 64) = ((s.setBasin b { s.basin b with c := v % 2 ^ 64 }).reportC b).credits :=
    if_neg (Nat.not_le.mpr hc)
  simp only [State.itemWrite, hb, hon, hdev, Nat.le_of_lt hc, hp, and_self, decide_true, Bool.and_self, if_true, hadv]

/-- The host's write of C: the basin takes it, and the mailbox shows the value (R71, R217). -/
theorem mbxWrite_basnC {u : State} {m : Master} {b : Fin 32} {value : BitVec 128}
    (h : u.takes m (headAddr pgBASN 0x20) .basn 0 = true)
    (hon : (u.mbxLoadedOn m pgBASN .basn value.toNat).basinOn b.val = true)
    (hdev : (u.mbxLoadedOn m pgBASN .basn value.toNat).basinDev b.val = true)
    (hc : ((u.mbxLoadedOn m pgBASN .basn value.toNat).basin b.val).c < value.toNat % 2 ^ 64)
    (hp : value.toNat % 2 ^ 64 ≤ ((u.mbxLoadedOn m pgBASN .basn value.toNat).basin b.val).p) :
    u.mbxWrite m pgBASN (4 * b.val + 1) value.toNat =
      (let z := u.mbxLoadedOn m pgBASN .basn value.toNat
       let y := ((z.setBasin b.val { z.basin b.val with c := value.toNat % 2 ^ 64 }).reportC b.val).credits
       (y.setMbx pgBASN m ((z.mbx pgBASN m).done (4 * b.val + 1) true (z.mbx pgBASN m).data)).mirrorWrite m .basn
         (headAddr pgBASN 0x20) (selWord (4 * b.val + 1) true).toNat u.isActive) := by
  have hdata : ((u.mbxLoadedOn m pgBASN .basn value.toNat).mbx pgBASN m).data.toNat = value.toNat :=
    (mbxLoadedOn_data u m pgBASN .basn value.toNat).trans (Nat.mod_eq_of_lt value.isLt)
  have huse : (u.mbxLoadedOn m pgBASN .basn value.toNat).itemUse .basn (4 * b.val + 1) = .readWrite := by
    have hmod : (4 * b.val + 1) % 4 = 1 := by omega
    simp only [State.itemUse, if_neg (show ¬ 128 ≤ 4 * b.val + 1 by omega), hmod, if_true]
  have hitem := itemWrite_basnC hon hdev hc hp
  rw [mbxWrite_doneOn (by omega) rfl h huse (by rw [hdata, hitem])]
  simp only [State.mbxDone, State.mbxShown, huse, hdata, hitem, reduceCtorEq, if_false]

/-! ### Bands (R238, R239, R249) -/

section Band
variable {s : State} {j : Job} {bs : List Byte}

/-- The next band joins its job when all its checks pass (R238). -/
theorem landBand_sound (hb : s.bandBytes j = some bs) (hl : s.landing j bs bs.length = ⟨j.nextBand, false, false, false⟩) :
    s.landBand j = (s.tap 2 j.basin (bs.drop 64) true true (some (leAt bs 32 4)),
      j.land (mkBand j bs ⟨j.nextBand, false, false, false⟩) false) := by
  simp [State.landBand, hb, hl, mkBand]

/-- The next band joins its job as bad when only its CRC fails, counted and flagged (R239, R249). -/
theorem landBand_badCrc (hb : s.bandBytes j = some bs) (hl : s.landing j bs bs.length = ⟨j.nextBand, false, true, false⟩) :
    s.landBand j =
      (((s.tap 2 j.basin (bs.drop 64) true true (some (leAt bs 32 4))).inc pgBASN R.BASN_BANDCRC_FAIL).raise pgBASN 4
        j.nextBand,
       j.land (mkBand j bs ⟨j.nextBand, false, true, false⟩) false) := by
  simp [State.landBand, hb, hl, mkBand]

end Band

/-- Settles O37: an enable and a disable by the checks of BASN_RCFG, C by its mailbox item, and a band by its landing. -/
theorem basinsAndBands : Obligations.BasinsAndBands := by
  refine ⟨?enable, ?disable, ?consume, ?sound, ?badCrc⟩
  case enable =>
    exact fun m b v => runs_of (f := (·.regCmd m pgBASNW (R.BASN_RCFG b.val) (withBit v (R.BASN_RCFG_EN b.val))))
      (fun _ _ => rfl) fun u ⟨h, hoff, hfit⟩ => regCmd_basinEnable h hoff hfit
  case disable =>
    exact fun m b v => runs_of (f := (·.regCmd m pgBASNW (R.BASN_RCFG b.val) (withoutBit v (R.BASN_RCFG_EN b.val))))
      (fun _ _ => rfl) fun u ⟨h, hon, huse, hsize, hname⟩ => regCmd_basinDisable h hon huse hsize hname
  case consume =>
    exact fun m b value => runs_of (f := (·.mbxWrite m pgBASN (4 * b.val + 1) value.toNat)) (fun _ _ => rfl)
      fun u ⟨h, hon, hdev, hc, hp⟩ => mbxWrite_basnC h hon hdev hc hp
  case sound =>
    refine fun j bs _ => runs_of (f := (·.bandLand false)) (fun _ _ => rfl) fun u ⟨hj, hb, hl⟩ => ?_
    simp only [State.bandLand, hj, landBand_sound hb hl, Bool.false_eq_true, if_false]
    rfl
  case badCrc =>
    refine fun j bs _ => runs_of (f := (·.bandLand true)) (fun _ _ => rfl) fun u ⟨hj, hb, hl⟩ => ?_
    simp only [State.bandLand, hj, landBand_badCrc hb hl, if_true]

end Sys2Proof.Machine
end

section
/-!
CERTIFICATE. Decompressor channels: a line that is delivered or holds a decode error, and a line that becomes due (O32).
-/
namespace Sys2Proof.Machine

/-! ### A line in the middle of its band (R252, R258) -/

/-- What decoding a segment to the end of line `i` of its band gives; a band that is not the first and has HIST is decoded
behind the channel's history (R246 to R248). -/
def State.decoded (s : State) (n : Nat) (j : Job) (b : Band) (g : Segment) (i : Nat) : Infl :=
  inflate (if b.hist && b.number ≠ 0 then (s.dcp n).histIn else []) (s.basinGet j.basin (b.pos + g.off) g.clen)
    (b.nlines * segStride g j) ((i + 1) * segStride g j)

section Deliver
variable {s : State} {n : Nat} {j : Job} {b : Band} {g : Segment} {i : Nat} (hlast : i + 1 ≠ b.nlines)
include hlast

/-- A line that its segment decodes to enters the store of the channel, passes tap 0x06 with what the channel has not passed
of its band, and the channel moves on (R252, R255). -/
theorem deliver_line (hc : (i + 1) * segStride g j ≤ (s.decoded n j b g i).count) :
    s.deliver n j b g (s.dcp n).next i =
      (let x := s.dcp n
       let r := s.decoded n j b g i
       let line := sub r.own (i * segStride g j) (segStride g j)
       let from_ := if x.src = some b.pos then i * segStride g j else 0
       ((s.setDcp n { x with
           next := x.next + 1, band := b.number, src := some b.pos, consumed := (r.pos + 7) / 8,
           lines := if mfind x.lines x.next = none then mput x.lines x.next line else x.lines }).tap 6 n
         (sub r.own from_ ((i + 1) * segStride g j - from_)) (decide (x.src ≠ some b.pos ∨ i = 0)) false
         (some g.dcrc)).passBands) := by
  have hcount := Nat.not_lt.mpr hc
  rw [State.decoded] at hcount
  simp only [State.deliver, if_neg hlast, if_neg hcount, decide_eq_false hlast, decide_true, Bool.and_true,
    decide_eq_true_eq, Bool.decide_or, ite_not]
  rfl

/-- A segment that gives too few bytes for the line is a decode error, and bad from then on (R258). -/
theorem deliver_short (hc : (s.decoded n j b g i).count < (i + 1) * segStride g j) :
    s.deliver n j b g (s.dcp n).next i = s.decodeError n b.number b.pos j := by
  rw [State.decoded] at hc
  simp only [State.deliver, if_neg hlast, if_pos hc]

end Deliver

/-! ### The commands of a channel that decodes its own job from the start (R252, R253) -/

/-- Only a job of triggered products has products to judge (R237). -/
theorem judgeProduct_other {s : State} {j : Job} (hj : s.jobs.cur = some j) (hk : j.kind ≠ 2) : s.judgeProduct = s := by
  simp only [State.judgeProduct, hj, if_pos hk]

/-- In a job that the device has not joined a channel decodes on from its next line (R594). -/
theorem joinLine_own {j : Job} (h : j.join = false) (x : Dcp) : j.joinLine x = some x.next := by
  simp only [Job.joinLine, h, Bool.false_and, Bool.false_eq_true, if_false]

/-- A channel that stands at its line stays there. -/
theorem joinAt_next (s : State) (n : Nat) : s.joinAt n (s.dcp n).next = s := if_pos (Nat.le_refl _)

section Channel
variable {s : State} {n : Nat} {j : Job} {l : Int} (hjoin : j.join = false) (hkind : j.kind ≠ 2) (htotal : j.total = none)
  (hcur : s.jobs.cur = some j) (hon : (s.dcp n).on = true)
include hjoin hkind htotal hcur hon

/-- Once pacing allows, the channel delivers the next line of its segment in a good landed band (R252). -/
theorem decodeLine_good {b : Band} {g : Segment} {i : Nat} (hb : b.bad = false) (hg : g.bad = false)
    (hl : s.jobLine j (s.dcp n).next = some l) (hband : j.bandAt (s.dcp n).next = some (b, i)) (hseg : b.seg n = some g)
    (hpace : (l - s.lead (n / 5)) * 4096 ≤ s.ellHeld j (n / 5)) :
    s.decodeLine n = s.deliver n j b g (s.dcp n).next i := by
  simp only [State.decodeLine, hcur, hon, htotal, decide_eq_false hkind, joinLine_own hjoin, joinAt_next, hl, hband, hseg, hb,
    hg, decide_eq_false (Int.not_lt.mpr hpace), Bool.not_true, Bool.false_and, Bool.or_self, Bool.false_eq_true, if_false]

/-- A line that becomes due moves the due line on; it is late where the channel has not delivered it (R253). -/
theorem lineDue_reached (hl : s.jobLine j (s.dcp n).due = some l)
    (hat : (l - s.qLead (n / 5) - s.dBar (n / 5)) * 4096 ≤ s.ell j (n / 5)) :
    s.lineDue n =
      (let z := s.setDcp n { s.dcp n with due := (s.dcp n).due + 1 }
       if (s.dcp n).due < (s.dcp n).next then z
       else ((z.inc pgDFL R.DFL_DIRCNT_LATE).raise pgDFL 3 (uns 56 l * 256 + n)).sbTrigger 1) := by
  simp only [State.lineDue, hcur, judgeProduct_other hcur hkind, hl, hon, htotal, joinLine_own hjoin, hjoin,
    decide_eq_false (Int.not_lt.mpr hat), Bool.not_true, Bool.false_and, Bool.or_self, Bool.or_false, Option.isNone_some,
    Bool.false_eq_true, if_false, decide_eq_true_eq]

end Channel

/-- Settles O32: a line by what its segment decodes to, and a due line by whether it has been delivered. -/
theorem decompression : Obligations.Decompression := by
  refine ⟨?line, ?short, ?inTime, ?late⟩
  case line =>
    refine fun n j b g l i hjoin hkind htotal hb hg hlast => runs_of (f := (·.decodeLine n.val)) (fun _ _ => rfl)
      fun u ⟨hcur, hon, hl, hband, hseg, hpace, hc⟩ => ?_
    rw [decodeLine_good hjoin hkind htotal hcur hon hb hg hl hband hseg hpace, deliver_line hlast hc]
    rfl
  case short =>
    refine fun n j b g l i hjoin hkind htotal hb hg hlast => runs_of (f := (·.decodeLine n.val)) (fun _ _ => rfl)
      fun u ⟨hcur, hon, hl, hband, hseg, hpace, hc⟩ => ?_
    rw [decodeLine_good hjoin hkind htotal hcur hon hb hg hl hband hseg hpace, deliver_short hlast hc]
    rfl
  case inTime =>
    exact fun n j l hjoin hkind htotal => runs_of (f := (·.lineDue n.val)) (fun _ _ => rfl)
      fun u ⟨hcur, hon, hl, hat, hd⟩ => (lineDue_reached hjoin hkind htotal hcur hon hl hat).trans (if_pos hd)
  case late =>
    exact fun n j l hjoin hkind htotal => runs_of (f := (·.lineDue n.val)) (fun _ _ => rfl)
      fun u ⟨hcur, hon, hl, hat, hd⟩ =>
        (lineDue_reached hjoin hkind htotal hcur hon hl hat).trans (if_neg (Nat.not_lt.mpr hd))

end Sys2Proof.Machine
end

section
/-!
CERTIFICATE. Compressor channels: the commands of DFL_CMPCTL (O33).
-/
namespace Sys2Proof.Machine

/-! ### The commands of a write (R270) -/

section Commands
variable {s : State} {n v c : Nat} {l : List Nat}

/-- A write with no command bit changes no channel. -/
theorem cmpCommands_none (h : ∀ k ∈ l, bitOf v (12 + k) = false) : s.cmpCommands n v l = (true, s) := by
  induction l with
  | nil => rfl
  | cons a t ih =>
    rw [State.cmpCommands, h a List.mem_cons_self, if_neg Bool.false_ne_true]
    exact ih fun k hk => h k (List.mem_cons_of_mem a hk)

/-- A write with one command bit, which the state accepts, performs that command. -/
theorem cmpCommands_single (hl : l.Nodup) (hc : c ∈ l) (hv : ∀ k ∈ l, bitOf v (12 + k) = decide (k = c))
    (ha : s.cmpAccepts n c = true) : s.cmpCommands n v l = (true, s.cmpCommand n c) := by
  induction l with
  | nil => cases hc
  | cons a t ih =>
    obtain ⟨hat, ht⟩ := List.nodup_cons.mp hl
    have hrest : ∀ k ∈ t, bitOf v (12 + k) = decide (k = c) := fun k hk => hv k (List.mem_cons_of_mem a hk)
    rw [State.cmpCommands, hv a List.mem_cons_self]
    by_cases h : a = c
    · subst h
      rw [if_pos (decide_eq_true rfl), if_pos ha]
      exact cmpCommands_none fun k hk => (hrest k hk).trans (decide_eq_false fun he => hat (he ▸ hk))
    · rw [if_neg (by simpa using h)]
      exact ih ht ((List.mem_cons.mp hc).resolve_left (Ne.symm h)) hrest

end Commands

/-- The DFL_CMPCTL registers of the compressor page. -/
theorem findReg_cmpCtl (n : Fin 8) : ∃ d, findReg PageKind.cmp.regs (R.DFL_CMPCTL n.val).off = some (d, n.val) ∧
    d.off = 0x40 := by
  refine ⟨⟨0x40, 8, 8, .imm, 0xf06, 0xfff, 0x0, 0x0, 0x1f000⟩, ?_, rfl⟩
  revert n
  decide

/-- A write of DFL_CMPCTL with one command bit, which the channel accepts with the fields of the write: the fields are stored,
and the command acts (R270). -/
theorem regCmd_cmpCtl {u z : State} {m : Master} {n : Fin 8} {v : Word} {f : Fld} {c : Nat}
    (h : u.accepts m (fieldAddr pgCMP (R.DFL_CMPCTL n.val)) .cmp 0 = true) (hf : f.lo = 12 + c) (hc : c ≤ 4)
    (hv : ∀ k, 12 ≤ k → k ≤ 16 → k ≠ f.lo → bitOf v.toNat k = false)
    (ha : (u.stored pgCMP (R.DFL_CMPCTL n.val) (withBit v f)).cmpAccepts n.val c = true)
    (hz : (u.stored pgCMP (R.DFL_CMPCTL n.val) (withBit v f)).cmpCommand n.val c = z) :
    u.regCmd m pgCMP (R.DFL_CMPCTL n.val) (withBit v f) =
      z.acceptedBy u m .cmp 0 (fieldAddr pgCMP (R.DFL_CMPCTL n.val)) (withBit v f) := by
  subst hz
  obtain ⟨d, hd, hoff⟩ := findReg_cmpCtl n
  have hlo : 0x40 ≤ (R.DFL_CMPCTL n.val).off := by simp only [R.DFL_CMPCTL]; omega
  have hhi : (R.DFL_CMPCTL n.val).off < 4096 := by simp only [R.DFL_CMPCTL]; omega
  have hst : u.stored pgCMP (R.DFL_CMPCTL n.val) (withBit v f) =
      u.putReg pgCMP (fieldAddr pgCMP (R.DFL_CMPCTL n.val)) d (withBit v f) := by
    simp only [State.stored, regAt_fieldAddr (show pgCMP < 4096 by decide) hhi rfl hd]
  have hbits : ∀ k ∈ [0, 1, 2, 3, 4], bitOf (withBit v f).toNat (12 + k) = decide (k = c) := by
    intro k hk
    have hk4 : k ≤ 4 := by simp only [List.mem_cons, List.not_mem_nil, or_false] at hk; omega
    rw [bitOf_withBit_eq v f _ (by omega)]
    by_cases hkc : k = c
    · simp [hkc, hf]
    · simp [hv (12 + k) (by omega) (by omega) (by omega), hkc, hf]
  refine regCmd_stored (g := (·.cmpCommand n.val c)) h (by decide) hlo hhi hd ?_
  rw [hst] at ha
  simp only [State.writeBlock, State.writeCmp, State.putThen, if_pos hoff, pageNo_fieldAddr pgCMP hhi,
    cmpCommands_single (by decide) (show c ∈ [0, 1, 2, 3, 4] by simp only [List.mem_cons]; omega) hbits ha, if_true]

/-! ### What each command does (R265, R268 to R272) -/

section Channel
variable {s : State} {n : Nat}

/-- START and RESTORE are accepted in IDLE, DONE and ERROR (R270). -/
theorem cmpAccepts_idle (h : s.cmpState n = 0 ∨ s.cmpState n = 3 ∨ s.cmpState n = 6) :
    s.cmpAccepts n 0 = true ∧ s.cmpAccepts n 4 = true := by
  rcases h with h | h | h <;> simp [State.cmpAccepts, h]

/-- RESUME and SAVE are accepted in STOPPED (R270). -/
theorem cmpAccepts_stopped (h : s.cmpState n = 2) : s.cmpAccepts n 1 = true ∧ s.cmpAccepts n 3 = true := by
  simp [State.cmpAccepts, h]

/-- ABORT is accepted in RUN and STOPPED (R270). -/
theorem cmpAccepts_busy (h : s.cmpState n = 1 ∨ s.cmpState n = 2) : s.cmpAccepts n 2 = true := by
  rcases h with h | h <;> simp [State.cmpAccepts, h]

/-- START with sound arguments and no history to keep begins a stream with all counts at 0 (R268, R271). -/
theorem cmpStart_anew (hst : s.cmpState n = 0 ∨ s.cmpState n = 3 ∨ s.cmpState n = 6) (harg : s.cmpArgs n = 0)
    (hkeep : (s.rdb pgCMP (R.DFL_CMPCTL_HIST n) && s.rdb pgCMP (R.DFL_CMPSTAT_HISTVALID n)) = false) :
    s.cmpStart n =
      (let y := s.setCmp n { s.cmp n with icount := 0, ocount := 0, written := 0, held := 0, window := [] }
       (((y.wr pgCMP (R.DFL_CMPSTAT_HISTVALID n) 0).wr pgCMP (R.DFL_CMPSTAT_ERRCODE n) 0).wr pgCMP
         (R.DFL_CMPSTAT_BITS n) 0).wr pgCMP (R.DFL_CMPSTAT_STATE n) 1) := by
  simp only [State.cmpStart, if_pos hst, harg, hkeep, ne_eq, not_true_eq_false, Bool.false_eq_true, if_false]
  rfl

/-- RESUME runs on from STOPPED, at the start of the new destination (R265). -/
theorem cmpResume_stopped (h : s.cmpState n = 2) :
    s.cmpResume n =
      ((s.setCmp n { s.cmp n with written := 0 }).wr pgCMP (R.DFL_CMPSTAT_ERRCODE n) 0).wr pgCMP (R.DFL_CMPSTAT_STATE n) 1 :=
  if_pos h

/-- ABORT returns to IDLE (R270). -/
theorem cmpAbort_busy (h : s.cmpState n = 1 ∨ s.cmpState n = 2) :
    s.cmpAbort n = (s.wr pgCMP (R.DFL_CMPSTAT_ERRCODE n) 0).wr pgCMP (R.DFL_CMPSTAT_STATE n) 0 := if_pos h

/-- SAVE of a stopped channel notes the state that it returns to (R272). -/
theorem cmpSave_stopped (h : s.cmpState n = 2) :
    s.cmpSave n =
      ((s.setCmp n { s.cmp n with prior := 2 }).wr pgCMP (R.DFL_CMPSTAT_ERRCODE n) 0).wr pgCMP (R.DFL_CMPSTAT_STATE n) 4 := by
  simp only [State.cmpSave, h, true_or, if_true]
  rfl

/-- RESTORE begins (R272). -/
theorem cmpRestore_idle (h : s.cmpState n = 0 ∨ s.cmpState n = 3 ∨ s.cmpState n = 6) :
    s.cmpRestore n = (s.wr pgCMP (R.DFL_CMPSTAT_ERRCODE n) 0).wr pgCMP (R.DFL_CMPSTAT_STATE n) 5 := if_pos h

end Channel

/-- Settles O33: each command by the states that accept it, and what it does with the stored fields. -/
theorem compressorCommands : Obligations.CompressorCommands := by
  refine ⟨?start, ?resume, ?abort, ?save, ?restore⟩
  case start =>
    refine fun m n v hv => runs_of (f := (·.regCmd m pgCMP (R.DFL_CMPCTL n.val) (withBit v (R.DFL_CMPCTL_START n.val))))
      (fun _ _ => rfl) fun u ⟨h, hst, harg, hkeep⟩ => ?_
    have hbits : ∀ k, 12 ≤ k → k ≤ 16 → k ≠ 12 → bitOf v.toNat k = false := fun k h1 h2 h3 => hv k (by omega) h2
    exact regCmd_cmpCtl (c := 0) h rfl (by decide) hbits (cmpAccepts_idle hst).1 (cmpStart_anew hst harg hkeep)
  case resume =>
    exact fun m n v hv => runs_of (f := (·.regCmd m pgCMP (R.DFL_CMPCTL n.val) (withBit v (R.DFL_CMPCTL_RESUME n.val))))
      (fun _ _ => rfl) fun u ⟨h, hst⟩ =>
        regCmd_cmpCtl (c := 1) h rfl (by decide) hv (cmpAccepts_stopped hst).1 (cmpResume_stopped hst)
  case abort =>
    exact fun m n v hv => runs_of (f := (·.regCmd m pgCMP (R.DFL_CMPCTL n.val) (withBit v (R.DFL_CMPCTL_ABORT n.val))))
      (fun _ _ => rfl) fun u ⟨h, hst⟩ =>
        regCmd_cmpCtl (c := 2) h rfl (by decide) hv (cmpAccepts_busy hst) (cmpAbort_busy hst)
  case save =>
    exact fun m n v hv => runs_of (f := (·.regCmd m pgCMP (R.DFL_CMPCTL n.val) (withBit v (R.DFL_CMPCTL_SAVE n.val))))
      (fun _ _ => rfl) fun u ⟨h, hst⟩ =>
        regCmd_cmpCtl (c := 3) h rfl (by decide) hv (cmpAccepts_stopped hst).2 (cmpSave_stopped hst)
  case restore =>
    exact fun m n v hv => runs_of (f := (·.regCmd m pgCMP (R.DFL_CMPCTL n.val) (withBit v (R.DFL_CMPCTL_RESTORE n.val))))
      (fun _ _ => rfl) fun u ⟨h, hst⟩ =>
        regCmd_cmpCtl (c := 4) h rfl (by decide) hv (cmpAccepts_idle hst).2 (cmpRestore_idle hst)

end Sys2Proof.Machine
end

section
/-!
CERTIFICATE. Compressor channels: SAVE and RESTORE that complete, and a block that is written or finds no room (O34).
-/
namespace Sys2Proof.Machine

section Channel
variable {s : State} {n : Nat}

/-! ### SAVE and RESTORE (R272; log entries 4 and 42) -/

/-- A SAVE writes the area with its CRC and returns to the state that the channel came from (R272). What the channel
holds is noted with the draw of the record's free bytes, by which RESTORE knows it (log entry 4). -/
theorem cmpSaveDone_saving (h : s.cmpState n = 4) :
    s.cmpSaveDone n =
      (let x := s.cmp n
       let a := saveArea x s.free
       let snap : CmpSnap :=
         { draw := s.free, window := x.window, icount := x.icount, ocount := x.ocount,
           bits := s.rd pgCMP (R.DFL_CMPSTAT_BITS n), held := x.held, done := decide (x.prior = 3),
           hist := s.rdb pgCMP (R.DFL_CMPSTAT_HISTVALID n) }
       (({ s with free := s.free + 33020, saves := snap :: s.saves,
                  mem := dramPuts s.mem x.saveAt (a ++ leBytes (crc32c a) 4) } : State).wr pgCMP
         (R.DFL_CMPSTAT_STATE n) x.prior).raise pgDFL 7 n) := if_neg (not_not_intro h)

/-- A RESTORE of an area with a wrong CRC ends in ERROR with code 3 (R272). -/
theorem cmpRestoreDone_badCrc (h : s.cmpState n = 5)
    (hc : leNat ((dramBytes s.mem (s.cmp n).saveAt 33024).drop 33020) ≠
      crc32c ((dramBytes s.mem (s.cmp n).saveAt 33024).take 33020)) :
    s.cmpRestoreDone n = s.cmpFail n 3 := (if_neg (not_not_intro h)).trans (if_pos hc)

/-- A RESTORE of an area that a SAVE wrote takes over what that SAVE noted, and returns to STOPPED or DONE (R272). -/
theorem cmpRestoreDone_known {e : CmpSnap} (h : s.cmpState n = 5)
    (hc : leNat ((dramBytes s.mem (s.cmp n).saveAt 33024).drop 33020) =
      crc32c ((dramBytes s.mem (s.cmp n).saveAt 33024).take 33020))
    (he : s.saves.find? (fun e => decide (((dramBytes s.mem (s.cmp n).saveAt 33024).take 33020).drop 32768 =
      freeBytes (e.draw + 32768) 252)) = some e) :
    s.cmpRestoreDone n =
      (let z := s.draw.2.setCmp n { s.cmp n with window := e.window, icount := e.icount, ocount := e.ocount,
                                                 held := e.held % 2 ^ e.bits, written := 0 }
       ((((z.wr pgCMP (R.DFL_CMPSTAT_BITS n) e.bits).wr pgCMP (R.DFL_CMPSTAT_HISTVALID n) (b2n e.hist)).wr pgCMP
         (R.DFL_CMPSTAT_ERRCODE n) 0).wr pgCMP (R.DFL_CMPSTAT_STATE n) (if e.done then 3 else 2)).raise pgDFL 8 n) := by
  have hsaves : s.draw.2.saves = s.saves := rfl
  simp only [State.cmpRestoreDone, h, hc, hsaves, he, Option.getD_some, ne_eq, not_true_eq_false, if_false]
  rfl

/-! ### A block (R263, R264, R267) -/

/-- At effort 0 a block is stored (R263). -/
theorem codeBlock_stored (h : s.rd pgCMP (R.DFL_CMPCTL_EFFORT n) = 0) (bits : Nat) (last : Bool) (data : List Byte) :
    s.codeBlock n bits last data = ((storedBlock bits last data).1, (storedBlock bits last data).2, s) := if_pos h

/-- A full stored block before the last of a running channel: written where it fits, else the channel stops (R263, R264). -/
theorem cmpBlock_inner (h : s.cmpState n = 1) (heff : s.rd pgCMP (R.DFL_CMPCTL_EFFORT n) = 0)
    (hlen : (s.cmp n).icount + 16384 < (s.cmp n).srcLen) :
    s.cmpBlock n =
      (let x := s.cmp n
       let bits := s.rd pgCMP (R.DFL_CMPSTAT_BITS n)
       let data := memBytes s.mem (x.src + x.icount) 16384
       let v := x.held + (storedBlock bits false data).1 * 2 ^ bits
       let w := bits + (storedBlock bits false data).2
       let z := ((s.tap 4 n data (decide (x.icount = 0)) false none).tap 5 n (leBytes v (w / 8))
         (decide (x.icount = 0)) false none).cmpPut n (leBytes v (w / 8))
       if s.cmpRoom n < (w + 7) / 8 then (s.wr pgCMP (R.DFL_CMPSTAT_STATE n) 2).raise pgDFL 5 n
       else (z.setCmp n { z.cmp n with icount := x.icount + 16384, held := v / 2 ^ (w / 8 * 8) % 2 ^ (w % 8),
                                       window := slide x.window data }).wr pgCMP (R.DFL_CMPSTAT_BITS n) (w % 8)) := by
  have hk : min 16384 ((s.cmp n).srcLen - (s.cmp n).icount) = 16384 := Nat.min_eq_left (by omega)
  simp only [State.cmpBlock, h, hk, decide_eq_false (Nat.not_le.mpr hlen), codeBlock_stored heff, Bool.false_and,
    Bool.not_false, Bool.false_eq_true, ne_eq, not_true_eq_false, if_true, if_false, State.setCmpState]

end Channel

/-- Settles O34: a SAVE, a RESTORE by the CRC of its area, and a stored block by the room that it finds. -/
theorem compressorEvents : Obligations.CompressorEvents := by
  refine ⟨?saved, ?badCrc, ?restored, ?stops, ?written⟩
  case saved => exact fun n => runs_of (f := (·.cmpSaveDone n.val)) (fun _ _ => rfl) fun u h => cmpSaveDone_saving h
  case badCrc =>
    exact fun n => runs_of (f := (·.cmpRestoreDone n.val)) (fun _ _ => rfl) fun u ⟨h, hc⟩ => cmpRestoreDone_badCrc h hc
  case restored =>
    exact fun n e => runs_of (f := (·.cmpRestoreDone n.val)) (fun _ _ => rfl)
      fun u ⟨h, hc, he⟩ => cmpRestoreDone_known h hc he
  case stops =>
    exact fun n => runs_of (f := (·.cmpBlock n.val)) (fun _ _ => rfl)
      fun u ⟨h, heff, hlen, hroom⟩ => (cmpBlock_inner h heff hlen).trans (if_pos hroom)
  case written =>
    exact fun n => runs_of (f := (·.cmpBlock n.val)) (fun _ _ => rfl)
      fun u ⟨h, heff, hlen, hroom⟩ => (cmpBlock_inner h heff hlen).trans (if_neg (Nat.not_lt.mpr hroom))

end Sys2Proof.Machine
end

section
/-!
CERTIFICATE. The raster path: the mapping of a delivered line, and the writes of the nozzle and threshold tables (O41).
-/
namespace Sys2Proof.Machine

section Raster
variable {s : State} {m : Master} {b i : Nat} {v : Word} {d : RegDef}

/-! ### Mapping (R287, R294) -/

/-- In a job, the next line of one of its bars is mapped once every channel of the bar has delivered it. -/
theorem mapBarLine_delivered {j : Job} {line : Int} (hj : s.jobs.cur = some j) (hi : s.inJob = true)
    (hb : bitOf j.bars b = true) (hl : s.jobLine j (s.nextMap j b) = some line)
    (hd : s.delivered b (s.nextMap j b) = true) : s.mapBarLine b = s.mapLine j b (s.nextMap j b) line := by
  simp only [State.mapBarLine, hj, hi, hb, hl, hd, Bool.not_true, Bool.or_self, Bool.false_eq_true, if_false, if_true]

/-! ### The nozzle table (R302 to R304, R493) -/

/-- A write of software that is stamped, or that meets no engine's in its handshake, writes bits [15:0] without NTCOLL
(R304, R587). -/
theorem hostNozWrite_alone (h : s.nozStamped = true ∨ (nozKey b i, s.now) ∉ s.ntEngine) (bits : Nat) :
    s.hostNozWrite b i bits =
      ({ s with ntHost := s.noted s.ntHost (nozKey b i) } : State).nozWrite b i 0xFFFF bits := by
  have hit : (!s.nozStamped && s.ntEngine.contains (nozKey b i, s.now)) = false := by
    rcases h with h | h
    · simp [h]
    · simp [List.contains_eq_mem, h]
  simp only [State.hostNozWrite, hit, Bool.false_eq_true, if_false]

/-- RAST_NTDATA writes the addressed entry; a changed TRIM becomes the nozzle's base (R302, R493). -/
theorem writeRast_ntdata (hd : d.off = R.RAST_NTDATA.off) (ha : nozAddr (s.rd (pgRAST b) R.RAST_NTADDR) = some i)
    (addr : Nat) :
    s.writeRast addr d b v =
      wrote (if s.nozzleNext b i % 256 = v.toNat % 256 then s.hostNozWrite b i (v.toNat % 65536)
        else (s.hostNozWrite b i (v.toNat % 65536)).setBase b i (sgn 8 v.toNat)) := by
  simp only [State.writeRast, if_pos hd, ha]

/-- The nozzle data register of a RAST page. -/
theorem findReg_ntdata (b : Nat) : ∃ d i, findReg PageKind.rast.regs (pageOff (fieldAddr (pgRAST b) R.RAST_NTDATA)) =
    some (d, i) ∧ d.off = R.RAST_NTDATA.off :=
  ⟨_, _, by rw [pageOff_fieldAddr _ (by decide)]; rfl, rfl⟩

/-- A nozzle-table write that passes the checks: what the block makes of it (R302). -/
theorem regCmd_ntdata (h : s.accepts m (fieldAddr (pgRAST b) R.RAST_NTDATA) .rast b = true)
    (ha : nozAddr (s.rd (pgRAST b) R.RAST_NTADDR) = some i) :
    s.regCmd m (pgRAST b) R.RAST_NTDATA v =
      (if s.nozzleNext b i % 256 = v.toNat % 256 then s.hostNozWrite b i (v.toNat % 65536)
        else (s.hostNozWrite b i (v.toNat % 65536)).setBase b i (sgn 8 v.toNat)).acceptedBy s m .rast b
          (fieldAddr (pgRAST b) R.RAST_NTDATA) v := by
  obtain ⟨d, r, hf, hd⟩ := findReg_ntdata b
  have ho : 0x40 ≤ pageOff (fieldAddr (pgRAST b) R.RAST_NTDATA) := by rw [pageOff_fieldAddr _ (by decide)]; decide
  exact regWrite_accept h ho hf (Or.inl rfl) (writeRast_ntdata hd ha _)

/-! ### The threshold table (R280) -/

/-- RAST_THRDATA sets four entries outside a job and is refused in one. -/
theorem writeRastc_thrdata (hd : d.off = R.RAST_THRDATA.off) (addr : Nat) :
    s.writeRastc addr d v =
      if s.inJob then denied s else wrote (s.putThreshold (s.rd pgRASTC R.RAST_THRADDR_WORD) v.toNat) :=
  if_pos hd

/-- The threshold data register of the RASTC page. -/
theorem findReg_thrdata : ∃ d i, findReg PageKind.rastc.regs (pageOff (fieldAddr pgRASTC R.RAST_THRDATA)) = some (d, i) ∧
    d.off = R.RAST_THRDATA.off :=
  ⟨_, _, rfl, rfl⟩

/-- A threshold write outside a job. -/
theorem regCmd_thrdata (h : s.accepts m (fieldAddr pgRASTC R.RAST_THRDATA) .rastc 0 = true) (hj : s.inJob = false) :
    s.regCmd m pgRASTC R.RAST_THRDATA v =
      (s.putThreshold (s.rd pgRASTC R.RAST_THRADDR_WORD) v.toNat).acceptedBy s m .rastc 0
        (fieldAddr pgRASTC R.RAST_THRDATA) v := by
  obtain ⟨d, i, hf, hd⟩ := findReg_thrdata
  have hw := writeRastc_thrdata (s := s) (v := v) hd (fieldAddr pgRASTC R.RAST_THRDATA)
  rw [hj] at hw
  exact regWrite_accept h (by decide) hf (Or.inl rfl) hw

/-- A threshold write in a job is refused with 0x08. -/
theorem regCmd_thrdata_inJob (h : s.takes m (fieldAddr pgRASTC R.RAST_THRDATA) .rastc 0 = true) (hj : s.inJob = true) :
    s.regCmd m pgRASTC R.RAST_THRDATA v = s.refuse m (fieldAddr pgRASTC R.RAST_THRDATA) v.toNat 8 := by
  obtain ⟨d, i, hf, hd⟩ := findReg_thrdata
  have hw := writeRastc_thrdata (s := s) (v := v) hd (fieldAddr pgRASTC R.RAST_THRDATA)
  rw [hj] at hw
  exact regWrite_denied h (by decide) hf (by decide) hw

end Raster

/-- Settles O41: a line once it has been delivered, and each table write by the checks of its register. -/
theorem mappingAndTables : Obligations.MappingAndTables := by
  refine ⟨?mapped, ?nozzle, ?threshold, ?refused⟩
  case mapped =>
    refine fun b j line => runs_of (f := (·.mapBarLine b.val)) (fun _ _ => rfl) fun u ⟨hj, hi, hb, hl, hd⟩ => ?_
    rw [mapBarLine_delivered hj hi hb hl hd]
    rfl
  case nozzle =>
    refine fun m b v i => runs_of (f := (·.regCmd m (pgRAST b.val) R.RAST_NTDATA v)) (fun _ _ => rfl)
      fun u ⟨h, ha, halone⟩ => ?_
    rw [regCmd_ntdata h ha, hostNozWrite_alone halone]
  case threshold =>
    exact fun m v => runs_of (f := (·.regCmd m pgRASTC R.RAST_THRDATA v)) (fun _ _ => rfl)
      fun u ⟨h, hj⟩ => regCmd_thrdata h hj
  case refused =>
    exact fun m v => runs_of (f := (·.regCmd m pgRASTC R.RAST_THRDATA v)) (fun _ _ => rfl)
      fun u ⟨h, hj⟩ => regCmd_thrdata_inJob h hj

end Sys2Proof.Machine
end

section
/-!
CERTIFICATE. FIRE frames, PACE frames, stale tiles and inspection marks (O42).
-/
namespace Sys2Proof.Machine

section Fire
variable {s : State} {b t : Nat} {j : Job}

/-! ### FIRE frames (R309, R430, R591, R592) -/

/-- The slot that the bar's lead allows and whose lines are complete goes out tile by tile and is committed (R309). -/
theorem fireFrameSend_due (hj : s.jobs.cur = some j) (hp : s.dev.state = .printing) (hb : bitOf j.bars b = true)
    (hl : ((s.barF b).next - (s.qLead b : Nat)) * 4096 ≤ s.ellHeld j b)
    (hr : s.slotReady j b (s.barF b).next j.total = true) :
    s.fireFrameSend b =
      (let slot := (s.barF b).next
       let r := s.fireTiles b slot (List.range (s.fitted b))
       let z := r.2.setBarF b { r.2.barF b with
         next := slot + 1,
         recent := (slot, r.2.now) :: (r.2.barF b).recent.filter fun e => decide (r.2.now < e.2 + us 2) }
       let y := z.setTwin { z.twin with ownCommitted := mput z.twin.ownCommitted b (uns 48 slot) }
       if y.pairMode then y.ownSummary b (uns 48 slot) (crc32c (r.1.flatMap fun c => leBytes c 4)) else y) := by
  simp only [State.fireFrameSend, hj, hp, hb, hr, Int.not_lt.mpr hl, ne_eq, not_true_eq_false, Bool.not_true,
    Bool.false_eq_true, or_self, if_false]

/-! ### PACE frames (R313, R436, R606) -/

/-- In a job, the PACE frames of a grid frame leave if its start tick is past that of the last one (R313). -/
theorem paceLaunch_eq (hj : s.jobs.cur = some j) (hi : s.inJob = true) :
    s.paceLaunch =
      if s.paceStart ≤ s.fire.lastS then s
      else (State.each (State.paceBar j s.paceStart) (s.setFire { s.fire with lastS := s.paceStart })
        (barsOf j.bars)).sbDone.takeoverDone.speedCheck := by
  simp only [State.paceLaunch, hj, hi, Bool.not_true, Bool.false_or, decide_eq_true_eq]

/-! ### Stale tiles (R336) -/

/-- A fitted tile whose last report is STALE ms old becomes stale, with its flag (R336). -/
theorem tempStale_due (hf : t < s.fitted b) (hs : (s.tile b t).stale = false)
    (hd : (s.tile b t).statAt + ms (atLeast1 (s.rd (pgFIRE b) R.FIRE_TLIM2_STALE)) ≤ s.now) :
    s.tempStale b t =
      (((s.setTile b t { s.tile b t with stale := true }).raise (pgFIRE b) 4 t).fireStat b).speedCheck := by
  simp only [State.tempStale, hs, decide_eq_false (Nat.not_le.mpr hf), decide_eq_false (Nat.not_lt.mpr hd), Bool.or_self,
    Bool.false_eq_true, if_false]

/-! ### Inspection marks (R344) -/

/-- X0 at or beyond an inspection point asserts the mark output for its width, and such points are done (R344). -/
theorem markStart_due (h : ∃ x ∈ s.fire.marks, x ≤ s.x0At s.now) :
    s.markStart = { s.setFire { s.fire with marks := s.fire.marks.filter (fun x => !decide (x ≤ s.x0At s.now)),
                                            markEnd := s.now + us (atLeast1 (s.rd pgFIREC R.FIRE_INSPW_US)) } with
      lines := { s.lines with mark := true } } := by
  have hany : s.fire.marks.any (fun x => decide (x ≤ s.x0At s.now)) = true := by
    simpa only [List.any_eq_true, decide_eq_true_eq] using h
  exact if_pos hany

/-- The mark output is released once its width has passed (R344). -/
theorem markOver_due (hm : s.lines.mark = true) (he : s.fire.markEnd ≤ s.now) :
    s.markOver = { s with lines := { s.lines with mark := false } } := by
  simp only [State.markOver, hm, decide_eq_true he, Bool.and_self, if_true]

end Fire

/-- Settles O42: each operation in the branch that its condition chooses. -/
theorem fireAndPace : Obligations.FireAndPace := by
  refine ⟨?slot, ?pace, ?stale, ?markOn, ?markOff⟩
  case slot =>
    exact fun b j => runs_of (f := (·.fireFrameSend b.val)) (fun _ _ => rfl)
      fun u ⟨hj, hp, hb, hl, hr⟩ => fireFrameSend_due hj hp hb hl hr
  case pace =>
    exact fun j => runs_of (f := (·.paceLaunch)) (fun _ _ => rfl)
      fun u ⟨hj, hi, hn⟩ => (paceLaunch_eq hj hi).trans (if_neg (Nat.not_le.mpr hn))
  case stale =>
    exact fun b t => runs_of (f := (·.tempStale b.val t.val)) (fun _ _ => rfl)
      fun u ⟨hf, hs, hd⟩ => tempStale_due hf hs hd
  case markOn => exact runs_of (f := (·.markStart)) (fun _ _ => rfl) fun u h => markStart_due h
  case markOff => exact runs_of (f := (·.markOver)) (fun _ _ => rfl) fun u ⟨hm, he⟩ => markOver_due hm he

end Sys2Proof.Machine
end

section
/-!
CERTIFICATE. Frames from the tile lanes: STATUS, CAP, LINK and ECHO, frames that R366 discards, and frames of the other
device (O44).
-/
namespace Sys2Proof.Machine

/-! ### Commands that may have acted ahead of their turn (R427) -/

/-- Where no command has acted ahead of its turn, a command that may have done so runs with what it does (R427). -/
theorem runs_of_once {c : Tick → Instr} {cond : State → Prop} {eff g : State → State}
    (h : ∀ t s, exec (c t) s = s.does t (·.once (c t) g)) (he : ∀ u, cond u → u.early = [])
    (hg : ∀ u, cond u → g u = eff u) : Runs c cond eff := by
  intro t s hc
  simp only [h, State.does, State.once, he _ hc, hg _ hc, List.contains_nil, Bool.false_eq_true, if_false]

section Reports
variable {s : State} {n p sub : Nat} {f : List Byte}

/-! ### What noting a frame leaves: it changes the twin unit only -/

/-- The newest epoch is kept in the twin unit. -/
theorem sawEpoch_twin (s : State) (e : Nat) : ∃ x, s.sawEpoch e = s.setTwin x := by
  simp only [State.sawEpoch]
  split
  · exact ⟨_, rfl⟩
  · exact ⟨s.twin, rfl⟩

/-- A frame that a standby passes on goes to the twin unit. -/
theorem statSeen_twin (s : State) (n p : Nat) (f : List Byte) : ∃ x, s.statSeen n p f = s.setTwin x := by
  obtain ⟨x, hx⟩ := sawEpoch_twin s (leAt f 4 4)
  simp only [State.statSeen, hx]
  split
  · obtain ⟨y, hy⟩ := twinSend_twin (s.setTwin x) (.relay n f)
    exact ⟨y, hy⟩
  · exact ⟨x, rfl⟩

theorem nfit_statSeen (s : State) (n p : Nat) (f : List Byte) (q : Nat) : (s.statSeen n p f).nfit q = s.nfit q := by
  obtain ⟨x, hx⟩ := statSeen_twin s n p f
  rw [hx]; rfl

theorem tl_sawEpoch (s : State) (e q : Nat) : (s.sawEpoch e).tl q = s.tl q := by
  obtain ⟨x, hx⟩ := sawEpoch_twin s e
  rw [hx]; rfl

/-! ### STAT frames (R366, R387, R397) -/

/-- A lane in use passes the check for it. -/
theorem lane_inUse (ho : s.laneOn n = true) (hs : s.lstate n ≠ 0) :
    (!s.laneOn n || decide (s.lstate n = 0)) = false := by
  rw [ho, decide_eq_false hs]; rfl

/-- A frame that passes R366, of the TYPE and SUB that a command expects, passes the check for it. -/
theorem frame_expected {type : Nat} (hg : State.tileGood n f = true) (ht : tileType f = type) (hsub : tileSub f = sub) :
    (!(State.tileGood n f && decide (tileType f = type) && decide (tileSub f = sub))) = false := by
  rw [hg, decide_eq_true ht, decide_eq_true hsub]; rfl

/-- A STAT frame that is the device's: what its subtype asks for, after its epoch is noted and it is passed on (R387). -/
theorem statFrame_taken (h : s.statFor n sub p f) (take : State → Nat → List Byte → State) :
    s.statFrame n f sub take = take (s.statSeen n p f) p (tilePayload f) := by
  obtain ⟨ho, hs, hg, ht, hsub, hd, hsrc, hp⟩ := h
  have hfit : p < (s.statSeen n p f).nfit n := by rwa [nfit_statSeen]
  simp only [State.statFrame, lane_inUse ho hs, frame_expected hg ht hsub, hd, hsrc, ne_eq,
    not_true_eq_false, Bool.false_eq_true, if_false]
  exact if_pos hfit

/-- A frame that does not pass R366 is discarded and counted. -/
theorem statFrame_bad (ho : s.laneOn n = true) (hs : s.lstate n ≠ 0) (hg : State.tileGood n f = false)
    (take : State → Nat → List Byte → State) : s.statFrame n f sub take = s.inc (pgTLNK n) R.TLNK_CRCERR := by
  simp only [State.statFrame, lane_inUse ho hs, hg, Bool.false_and, Bool.not_false, Bool.false_eq_true, if_false, if_true]
  rfl

/-! ### STATUS (R331, R382, R387) -/

/-- A report that names no missing slot sends none again (R370). -/
theorem statusMissing_none (s : State) (n p b t : Nat) : s.statusMissing n p b t (2 ^ 48 - 1) = s := if_pos rfl

/-- A tile that holds what it was sent is sent nothing again (R376). -/
theorem statusNoset_clear {st : Status} (h : bitOf st.flags 7 = false) (s : State) (n p b t : Nat) :
    s.statusNoset n p b t st = s := by
  simp only [State.statusNoset, h, Bool.false_and, Bool.false_eq_true, if_false]

/-- A report without events, skips, a missing slot and lost settings: its values, and what follows them. -/
theorem takeStatus_quiet {pl : List Byte} (he : byteAt pl 5 = 0) (hk : byteAt pl 21 = 0) (hm : leAt pl 24 6 = 2 ^ 48 - 1)
    (hn : bitOf (byteAt pl 4) 7 = false) (s : State) (n p : Nat) :
    s.takeStatus n p pl =
      (let st := parseStatus pl
       let b := n / 5
       let t := tileOf n p
       let x := (((s.statusLink n p st).statusValues b t st).pumpTile b t 64).coolDown b t st
       ((((x.statusStep n p b t st).fireStat b).warmStat b).healCheck n).speedCheck) := by
  have hev : ∀ i, bitOf (parseStatus pl).events i = false := fun i => by
    rw [show (parseStatus pl).events = 0 from he, bitOf_eq_testBit, Nat.zero_testBit]
  have hskips : (parseStatus pl).skips = [] := by simp only [parseStatus, hk, List.range_zero, List.map_nil]
  have hmiss : (parseStatus pl).missing = 2 ^ 48 - 1 := hm
  have hset : bitOf (parseStatus pl).flags 7 = false := hn
  simp only [State.takeStatus, hev, hskips, hmiss, State.statusSkips, statusMissing_none, statusNoset_clear hset,
    Bool.false_eq_true, if_false]

/-! ### ECHO (R380) -/

/-- The ECHO of the open probe: a delay sample, after which the probe is over and DELAY goes out (R380). -/
theorem timeEcho_open (ho : s.laneOn n = true) (hs : s.lstate n ≠ 0) (hg : State.tileGood n f = true)
    (ht : tileType f = 4) (hsub : tileSub f = 2) (hd : tileDest f = 0xE)
    (hp : (s.tl n).probed = some (tileSrc f, leAt (tilePayload f) 0 5)) :
    s.timeEcho n f =
      (let z := s.sawEpoch (leAt f 4 4)
       ((z.wireSample n (tileSrc f) (z.echoDelay n (leAt (tilePayload f) 0 5) f)).probeOver n).sendDelay n (tileSrc f)) := by
  simp only [State.timeEcho, lane_inUse ho hs, frame_expected hg ht hsub, hd, tl_sawEpoch, hp, ne_eq,
    not_true_eq_false, or_self, Bool.false_eq_true, if_false]

/-! ### Frames of the other device (R25, R397) -/

/-- A frame of the other device other than a RATE: an EPOCH may fence the device, and the frame is counted (R397). -/
theorem otherFrame_discarded (ho : s.laneOn n = true) (hs : s.lstate n ≠ 0) (hg : State.tileGood n f = true)
    (hf : s.fromOther f = true) (h8 : tileType f ≠ 8) :
    s.otherFrame n f =
      (let e := leAt f 4 4
       let z := s.sawEpoch e
       (if tileType f = 7 ∧ z.fencedBy e then
          (z.fence 4 (pgTLNK n) 13).setTwin { (z.fence 4 (pgTLNK n) 13).twin with declared := none }
        else z).inc (pgTLNK n) R.TLNK_DISC_OTHER) := by
  simp only [State.otherFrame, lane_inUse ho hs, hg, hf, h8, false_and, Bool.not_true, Bool.false_eq_true, if_false]

/-- A newer epoch fences an active or solo device, whatever epochs it has seen (R25). -/
theorem fencedBy_newer {e : Nat} (he : newerEpoch e (s.rd pgTWIN R.TWIN_EPOCH) = true)
    (hr : s.isActive = true ∨ s.dev.role = .solo) (seen : Nat) : (s.sawEpoch seen).fencedBy e = true := by
  obtain ⟨x, hx⟩ := sawEpoch_twin s seen
  have hrole : (s.isActive || s.dev.role == .solo) = true := by simpa using hr
  have hfence : (s.setTwin x).fencedBy e =
      (newerEpoch e (s.rd pgTWIN R.TWIN_EPOCH) && (s.isActive || s.dev.role == .solo || x.declared.isSome)) := rfl
  rw [hx, hfence, he, hrole]; rfl

end Reports

/-- Settles O44: a frame of each kind by the checks that it passes. -/
theorem tileReports : Obligations.TileReports := by
  refine ⟨?status, ?bad, ?cap, ?link, ?echo, ?other, ?fenced⟩
  case status =>
    refine fun n f p he hk hm hn => runs_of (f := (·.tileStatus n.val f)) (fun _ _ => rfl) fun u h => ?_
    rw [State.tileStatus, statFrame_taken h, takeStatus_quiet he hk hm hn]
    rfl
  case bad =>
    exact fun n f hg => runs_of (f := (·.tileStatus n.val f)) (fun _ _ => rfl)
      fun u ⟨ho, hs⟩ => statFrame_bad ho hs hg _
  case cap =>
    exact fun n f p => runs_of_once (g := (·.tileCap n.val f)) (fun _ _ => rfl) (fun u ⟨he, _⟩ => he)
      fun u ⟨_, h⟩ => statFrame_taken h _
  case link =>
    exact fun n f p => runs_of (f := (·.tileLink n.val f)) (fun _ _ => rfl) fun u h => statFrame_taken h _
  case echo =>
    refine fun n f t1 hg ht hsub hd ht1 => runs_of (f := (·.timeEcho n.val f)) (fun _ _ => rfl)
      fun u ⟨ho, hs, hp⟩ => ?_
    subst ht1
    rw [timeEcho_open ho hs hg ht hsub hd hp]
    rfl
  case other =>
    refine fun n f hg h7 h8 => runs_of (f := (·.otherFrame n.val f)) (fun _ _ => rfl) fun u ⟨ho, hs, hf⟩ => ?_
    simp only [otherFrame_discarded ho hs hg hf h8, h7, false_and, if_false]
  case fenced =>
    refine fun n f hg h7 => runs_of (f := (·.otherFrame n.val f)) (fun _ _ => rfl) fun u ⟨ho, hs, hf, he, hr⟩ => ?_
    have h8 : tileType f ≠ 8 := by omega
    rw [otherFrame_discarded ho hs hg hf h8]
    simp only [h7, fencedBy_newer he hr, true_and, if_true]

end Sys2Proof.Machine
end

section
/-!
SUPPORT. Laws that the proofs of the tile lanes share: fields of one register that have no bit in common, registers and runs
of a lane.
-/
namespace Sys2Proof.Machine

/-! ### Fields of one register -/

/-- The number that bits are written into keeps the bits below them and the bits above them. -/
theorem bitsOf_setBits_apart (n v : Nat) {lo w lo' w' : Nat} (h : lo' + w' ≤ lo ∨ lo + w ≤ lo') :
    bitsOf (setBits n lo w v) lo' w' = bitsOf n lo' w' := by
  rcases h with h | h
  · have hlow : setBits n lo w v % 2 ^ lo = n % 2 ^ lo := by
      have hsplit : setBits n lo w v = n % 2 ^ lo + 2 ^ lo * (v % 2 ^ w + 2 ^ w * (n / 2 ^ (lo + w))) := by
        simp only [setBits, Nat.pow_add, Nat.mul_add]; ac_rfl
      rw [hsplit, Nat.add_mul_mod_self_left, Nat.mod_mod]
    rw [← bitsOf_mod _ lo' w' lo h, hlow, bitsOf_mod _ _ _ _ h]
  · have hlt : n % 2 ^ lo + v % 2 ^ w * 2 ^ lo < 2 ^ (lo + w) := by
      have hv : v % 2 ^ w + 1 ≤ 2 ^ w := Nat.mod_lt _ (Nat.two_pow_pos w)
      have hn : n % 2 ^ lo < 2 ^ lo := Nat.mod_lt _ (Nat.two_pow_pos lo)
      have := Nat.mul_le_mul_right (2 ^ lo) hv
      rw [Nat.pow_add, Nat.mul_comm (2 ^ lo)]
      rw [Nat.add_mul, Nat.one_mul] at this
      omega
    have hhigh : setBits n lo w v / 2 ^ (lo + w) = n / 2 ^ (lo + w) := by
      rw [setBits, Nat.add_mul_div_right _ _ (Nat.two_pow_pos _), Nat.div_eq_of_lt hlt, Nat.zero_add]
    obtain ⟨k, rfl⟩ := Nat.exists_eq_add_of_le h
    simp only [bitsOf, Nat.pow_add _ (lo + w) k, ← Nat.div_div_eq_div_mul, hhigh]

/-- A write of a field leaves the fields of its register that it has no bit in common with. -/
theorem rd_wr_apart (s : State) (pg : Nat) {f g : Fld} (v : Nat) (ho : f.off = g.off) (hg : g.lo + g.w ≤ 32)
    (h : g.lo + g.w ≤ f.lo ∨ f.lo + f.w ≤ g.lo) : (s.wr pg f v).rd pg g = s.rd pg g := by
  simp only [State.rd, State.wr, word_setWord, ho, if_true, BitVec.toNat_ofNat, bitsOf_mod _ _ _ _ hg,
    bitsOf_setBits_apart _ _ h]

/-- A count leaves the fields of every other register of its page. -/
theorem rd_inc_other (s : State) (pg : Nat) {f g : Fld} (h : f.off ≠ g.off) : (s.inc pg f).rd pg g = s.rd pg g :=
  rd_wr_other s pg f _ pg g (by omega)

theorem rd_raise (s : State) (pg flag d q : Nat) (g : Fld) : (s.raise pg flag d).rd q g = s.rd q g := by
  simp only [State.rd, State.word, raise_fields]

/-! ### Runs over a list -/

/-- Two operations that agree while a property holds, which the second keeps, give the same run. -/
theorem each_congr {α : Type} {f g : State → α → State} {P : State → Prop} {l : List α}
    (heq : ∀ s, P s → ∀ a ∈ l, f s a = g s a) (hkeep : ∀ s a, P s → P (g s a)) {s : State} (hs : P s) :
    State.each f s l = State.each g s l := by
  induction l generalizing s with
  | nil => rfl
  | cons a t ih =>
    rw [State.each, State.each, heq s hs a List.mem_cons_self]
    exact ih (fun s hs b hb => heq s hs b (List.mem_cons_of_mem a hb)) (hkeep s a hs)

end Sys2Proof.Machine
end

section
/-!
CERTIFICATE. Bring-up of a tile lane (O45).
-/
namespace Sys2Proof.Machine

section Bringup
variable {s : State} {n : Nat}

/-! ### BRINGUP (R353) -/

/-- BRINGUP starts a lane in use of a bar in service: rate code 0, hunting, with what it sent before. -/
theorem bringUp_starts (hp : s.pagesUp = true) (ho : s.laneOn n = true) (hb : s.barService (n / 5) = true) :
    s.bringUp n =
      (let old := s.tl n
       let y := s.setTl n { seq := old.seq, tx := old.tx, txAt := old.txAt,
                            maxRate := s.rd (pgTLNK n) R.TLNK_CTL_MAXRATE, huntAt := s.now }
       let x := ((y.setLstate n 1).wr (pgTLNK n) R.TLNK_STAT_RATE 0).wr (pgTLNK n) R.TLNK_STAT_LOCK 0
       ((x.wr (pgTLNK n) R.TLNK_STAT_NTILES 0).wr (pgTLNK n) R.TLNK_STAT_BREAKHOP 7).wr (pgTLNK n)
         R.TLNK_STAT_HEALED 0) := by
  simp only [State.bringUp, State.laneStart, hp, ho, hb, Bool.and_self, Bool.not_true, Bool.false_eq_true, if_true, if_false]

/-- The register TLNK_CTL of a lane's page. -/
theorem findReg_tlnkCtl : ∃ d i, findReg PageKind.tlnk.regs R.TLNK_CTL.off = some (d, i) ∧ d.off = R.TLNK_CTL.off :=
  ⟨_, _, rfl, rfl⟩

/-- An accepted write of TLNK_CTL with BRINGUP outside a job stores the register and starts the lane. -/
theorem regCmd_bringup {m : Master} {v : Word} (hn : n < 40)
    (h : s.accepts m (fieldAddr (pgTLNK n) R.TLNK_CTL) .tlnk n = true) (hj : s.inJob = false) :
    s.regCmd m (pgTLNK n) R.TLNK_CTL (withBit v R.TLNK_CTL_BRINGUP) =
      ((s.stored (pgTLNK n) R.TLNK_CTL (withBit v R.TLNK_CTL_BRINGUP)).bringUp n).acceptedBy s m .tlnk n
        (fieldAddr (pgTLNK n) R.TLNK_CTL) (withBit v R.TLNK_CTL_BRINGUP) := by
  obtain ⟨d, i, hf, hd⟩ := findReg_tlnkCtl
  have hbit : bitOf (withBit v R.TLNK_CTL_BRINGUP).toNat 3 = true := bitOf_withBit v R.TLNK_CTL_BRINGUP (by decide)
  refine regCmd_stored (g := (·.bringUp n)) h (by simp only [pgTLNK]; omega) (by decide) (by decide) hf ?_
  simp only [State.writeBlock, State.writeTlnk, hd, hbit, hj, and_self, Bool.false_eq_true, if_true, if_false]

/-! ### Lock (R350, R354, R357) -/

theorem lstate_wrLock (s : State) (n v : Nat) : (s.wr (pgTLNK n) R.TLNK_STAT_LOCK v).lstate n = s.lstate n :=
  rd_wr_apart s _ v rfl (by decide) (by decide)

theorem rate_wrLock (s : State) (n v : Nat) : (s.wr (pgTLNK n) R.TLNK_STAT_LOCK v).rate n = s.rate n :=
  rd_wr_apart s _ v rfl (by decide) (by decide)

theorem lstate_raise (s : State) (pg flag d n : Nat) : (s.raise pg flag d).lstate n = s.lstate n :=
  rd_raise s pg flag d _ _

/-- Lock in LSTATE 1 is flagged; the lane awaits the answers to ENUM and CAPREQ, which it sends. -/
theorem laneLock_hunting (ho : s.laneOn n = true) (hs : s.lstate n = 1) (hl : s.locked n = false) :
    s.laneLock n true =
      (let x := s.wr (pgTLNK n) R.TLNK_STAT_LOCK 1
       (((x.raise (pgTLNK n) 0 (x.rate n)).setLstate n 2).clearAnswers n).sendEnum n) := by
  simp only [State.laneLock, ho, hs, hl, lstate_raise, lstate_wrLock, rate_wrLock, Bool.not_true, Bool.false_and,
    Bool.false_or, Bool.false_eq_true, Nat.reduceBEq, if_false]

/-- A loss of lock outside LSTATE 2 is counted and flagged. -/
theorem laneLoss_locked (hl : s.locked n = true) (hs : s.lstate n ≠ 2) :
    s.laneLoss n =
      (let z := (s.wr (pgTLNK n) R.TLNK_STAT_LOCK 0).inc (pgTLNK n) R.TLNK_LOCKCNT_LOSS
       z.raise (pgTLNK n) 1 (z.rate n)) := by
  have hstate : ((s.wr (pgTLNK n) R.TLNK_STAT_LOCK 0).inc (pgTLNK n) R.TLNK_LOCKCNT_LOSS).lstate n = s.lstate n :=
    (rd_inc_other _ _ (by decide)).trans (lstate_wrLock s n 0)
  simp only [State.laneLoss, hl, lstate_raise, hstate, hs, Bool.not_true, Bool.false_eq_true, if_false]

/-! ### The rate ladder (R352, R356, R357) -/

/-- A rate without lock for 5 ms is a failure, and the lane hunts at the rate before. -/
theorem switchTimeout_due (hs : s.lstate n = 4) (hl : s.locked n = false) (hr : s.rate n ≠ (s.tl n).prev)
    (ht : (s.tl n).switchAt + ms 5 ≤ s.now) :
    s.switchTimeout n =
      (let z := (s.rateFail n (s.rate n)).wr (pgTLNK n) R.TLNK_STAT_RATE (s.tl n).prev
       z.setTl n { z.tl n with huntAt := z.now }) := by
  simp only [State.switchTimeout, hs, hl, hr, Nat.not_lt.mpr ht, ne_eq, not_true_eq_false, Bool.false_eq_true, or_self,
    if_false]

/-- The dwell is over at the lead end: it asks every tile for its report anew. -/
theorem dwellEnd_lead {d : Nat} (hd : (s.tl n).dwellAt = some d) (hs : s.lstate n = 3) (ha : (s.tl n).asked = false)
    (hlead : s.leadEnd = true) (ht : d + ms (atLeast1 (s.rd (pgTLNK n) R.TLNK_TRAIN_PRBSMS)) ≤ s.now) :
    s.dwellEnd n =
      (let z := State.each (fun s p => s.setTpos n p { s.tpos n p with linked := false }) s (List.range 5)
       (z.setTl n { z.tl n with asked := true }).sendTest n 3 (leBytes 1 1 ++ zeros 3)) := by
  simp only [State.dwellEnd, hd, hs, ha, hlead, Nat.not_lt.mpr ht, ne_eq, not_true_eq_false, Bool.not_true,
    Bool.false_eq_true, or_self, if_false]

/-- A lane at rate code 0 that finds no lock in 100 ms fails. -/
theorem huntTimeout_hunting (ht : (s.tl n).huntAt + ms 100 ≤ s.now) (hs : s.lstate n = 1 ∨ s.lstate n = 4)
    (hl : s.locked n = false) (hr : s.rate n = 0) : s.huntTimeout n = s.setLstate n 8 := by
  have hhunt : (s.lstate n == 1 || s.lstate n == 4) = true := by simpa using hs
  simp only [State.huntTimeout, decide_eq_true ht, hhunt, hl, hr, BEq.rfl, Bool.not_true, Bool.not_false, Bool.and_self,
    Bool.true_or, Bool.false_eq_true, if_true, if_false]

/-! ### UP (R359) -/

/-- A settled lane whose tiles have all answered, hold what they need and are in time is UP. -/
theorem laneIsUp_ready (h5 : s.lstate n = 5) (hz5 : (s.provision n).lstate n = 5) (hl : (s.provision n).locked n = true)
    (ha : 0 < (s.provision n).answers n) (hall : (s.provision n).allAnswered n = true)
    (hready : ∀ p, p < (s.provision n).nfit n →
      ((s.provision n).tpos n p).setSent = true ∧ ((s.provision n).tpos n p).facSent = true ∧
      ((s.provision n).tpos n p).delaySent = true ∧ ((s.provision n).tpos n p).tlost = some false) :
    s.laneIsUp n = ((s.provision n).setLstate n 6).raise (pgTLNK n) 2 ((s.provision n).rate n) := by
  simp only [State.laneIsUp, if_pos h5]
  generalize s.provision n = z at *
  have hall' : ((List.range (z.nfit n)).all fun p =>
      !(z.tpos n p).answered || ((z.tpos n p).setSent && (z.tpos n p).facSent && (z.tpos n p).delaySent &&
        (z.tpos n p).tlost == some false)) = true := by
    rw [List.all_eq_true]
    intro p hp
    obtain ⟨hset, hfac, hdelay, htime⟩ := hready p (List.mem_range.mp hp)
    simp [hset, hfac, hdelay, htime]
  rw [if_pos ⟨hz5, hl, ha, hall'⟩, if_pos hall]

end Bringup

/-- Settles O45: each command of the bring-up by the state of the lane that it finds. -/
theorem laneBringup : Obligations.LaneBringup := by
  refine ⟨?bringup, ?lock, ?loss, ?switch, ?dwell, ?up, ?hunt⟩
  case bringup =>
    refine fun m n v => runs_of (f := (·.regCmd m (pgTLNK n.val) R.TLNK_CTL (withBit v R.TLNK_CTL_BRINGUP)))
      (fun _ _ => rfl) fun u ⟨h, hj, hp, ho, hb⟩ => ?_
    rw [regCmd_bringup n.isLt h hj, bringUp_starts hp ho hb]
  case lock =>
    exact fun n => runs_of (f := (·.laneLock n.val true)) (fun _ _ => rfl)
      fun u ⟨ho, hs, hl⟩ => laneLock_hunting ho hs hl
  case loss =>
    exact fun n => runs_of (f := (·.laneLoss n.val)) (fun _ _ => rfl) fun u ⟨hl, hs⟩ => laneLoss_locked hl hs
  case switch =>
    exact fun n => runs_of (f := (·.switchTimeout n.val)) (fun _ _ => rfl)
      fun u ⟨hs, hl, hr, ht⟩ => switchTimeout_due hs hl hr ht
  case dwell =>
    exact fun n d => runs_of (f := (·.dwellEnd n.val)) (fun _ _ => rfl)
      fun u ⟨hd, hs, ha, hlead, ht⟩ => dwellEnd_lead hd hs ha hlead ht
  case up =>
    exact fun n => runs_of (f := (·.laneIsUp n.val)) (fun _ _ => rfl)
      fun u ⟨h5, hz5, hl, ha, hall, hready⟩ => laneIsUp_ready h5 hz5 hl ha hall hready
  case hunt =>
    exact fun n => runs_of (f := (·.huntTimeout n.val)) (fun _ _ => rfl)
      fun u ⟨ht, hs, hl, hr⟩ => huntTimeout_hunting ht hs hl hr

end Sys2Proof.Machine
end

section
/-!
CERTIFICATE. What a tile lane sends of itself: TIME, EPOCH, IDLE and PRBS (O46).
-/
namespace Sys2Proof.Machine

/-- `t` has the registers and the jobs of `s`: all that EPOCH reads to choose its lanes. -/
structure EpochFrame (s t : State) : Prop where
  regs : t.regs = s.regs
  jobs : t.jobs = s.jobs

section Sends
variable {s : State} {n : Nat}

/-! ### TIME (R380, R383) -/

/-- SYNC goes out once SYNCINT has passed, with the pair tick of its launch. -/
theorem timeSync_due (ho : s.timeOpen n = true)
    (ht : (s.tl n).syncAt + us (max 8 (s.rd (pgTLNK n) R.TLNK_TIMECFG_SYNCINT)) ≤ s.now) :
    s.timeSync n = (s.setTl n { s.tl n with syncAt := s.now }).tileSend n 4 0 0xF
      (leBytes (s.pairTick + s.rd (pgTLNK n) R.TLNK_LAT_TXLAT) 5 ++ zeros 3) := by
  simp only [State.timeSync, ho, decide_eq_false (Nat.not_lt.mpr ht), Bool.and_false, Bool.not_true, Bool.or_self,
    Bool.false_eq_true, if_false]

/-- PROBE goes to the next tile once PROBEINT has passed; a standby probes in LINKUP only. -/
theorem timeProbe_due (ho : s.timeOpen n = true) (hn : 0 < s.nfit n) (hr : s.isStandby = false ∨ s.dev.state = .linkup)
    (ht : (s.tl n).probeAt + ms (atLeast1 (s.rd (pgTLNK n) R.TLNK_TIMECFG_PROBEINT)) ≤ s.now) :
    s.timeProbe n =
      (let p := (s.tl n).probe % s.nfit n
       let t1 := (s.pairTick + s.rd (pgTLNK n) R.TLNK_LAT_TXLAT) % 2 ^ 40
       (s.setTl n { s.tl n with
         probeAt := s.now, probed := some (p, t1), probe := (p + 1) % s.nfit n }).tileSend n 4 1 p
           (leBytes t1 5 ++ zeros 3)) := by
  have hfit : (s.nfit n == 0) = false := by simpa using Nat.ne_of_gt hn
  have hrole : (s.isStandby && s.dev.state != .linkup) = false := by
    rcases hr with h | h <;> simp [h]
  simp only [State.timeProbe, ho, hfit, hrole, decide_eq_false (Nat.not_lt.mpr ht), Bool.and_false, Bool.not_true,
    Bool.or_self, Bool.false_eq_true, if_false]

/-! ### EPOCH (R389) -/

theorem epochFrame_tileOut (s : State) (n : Nat) (f : List Byte) : EpochFrame s (s.tileOut n f) := by
  simp only [State.tileOut]
  split <;> exact ⟨rfl, rfl⟩

/-- A frame of a lane leaves the registers and the jobs, whether or not a relay takes it. -/
theorem epochFrame_tileSend (s : State) (n type sub dest : Nat) (pl : List Byte) :
    EpochFrame s (s.tileSend n type sub dest pl) := by
  have hout := epochFrame_tileOut s n (s.tileFrame n type sub dest 0 pl)
  simp only [State.tileSend]
  split
  · obtain ⟨x, hx⟩ := twinSend_twin (s.tileOut n (s.tileFrame n type sub dest 0 pl))
      (.relay n (s.tileFrame n type sub dest 0 pl))
    rw [hx]
    exact ⟨hout.regs, hout.jobs⟩
  · exact hout

/-- EPOCH in a job that uses every lane in service: each of them carries its FROMSLOT, the next slot of its bar. -/
theorem epochSend_inJob {j : Job} (hr : s.dev.role = .active ∨ s.dev.role = .solo) (hi : s.inJob = true)
    (hj : s.jobs.cur = some j)
    (hl : ∀ n, n < 40 → bitOf j.bars (n / 5) = false → s.lstate n ≠ 6 ∧ s.lstate n ≠ 7) :
    s.epochSend = State.each (fun s n =>
      if s.laneUp n && bitOf j.bars (n / 5) then
        s.tileSend n 7 0 0xF (leBytes (b2n s.eastEnd) 1 ++ zeros 7 ++ leBytes (uns 48 (s.barF (n / 5)).next) 6 ++ zeros 2)
      else s) s (List.range 40) := by
  have hrole : (s.dev.role == .active || s.dev.role == .solo) = true := by simpa using hr
  simp only [State.epochSend, hrole, hi, Bool.or_true, Bool.and_self, if_true]
  refine each_congr (P := EpochFrame s) ?agree ?keep ⟨rfl, rfl⟩
  case agree =>
    intro t ht n hn
    have hcur : t.jobs.cur = some j := ht.jobs ▸ hj
    cases hb : bitOf j.bars (n / 5) with
    | true => cases hup : t.laneUp n <;> simp [hcur, hb, State.sendEpoch]
    | false =>
      have hstate : t.lstate n = s.lstate n := by simp only [State.lstate, State.rd, State.word, ht.regs]
      have hdown : t.laneUp n = false := by
        simpa [State.laneUp, hstate] using hl n (List.mem_range.mp hn) hb
      simp [hdown]
  case keep =>
    intro t n ht
    split
    · exact ⟨(epochFrame_tileSend ..).regs.trans ht.regs, (epochFrame_tileSend ..).jobs.trans ht.jobs⟩
    · exact ht

/-! ### IDLE and PRBS (R361, R362, R392) -/

/-- A lane in use that has been idle for 10 us carries IDLE. -/
theorem idleSend_idle (hp : s.pagesUp = true) (hs : s.lstate n ≠ 0) (ht : (s.tl n).txAt + us 10 ≤ s.now) :
    s.idleSend n = s.tileSend n 0 0 0xF (leBytes s.dev.state.code 1 ++ leBytes s.dev.role.code 1 ++ zeros 2) := by
  simp only [State.idleSend, hp, decide_eq_true hs, decide_eq_true ht, Bool.and_self, if_true]

/-- A twin lane that is up and has been idle for 10 us carries a TEST frame. -/
theorem twinTest_idle (hp : s.twinPowered = true) (hu : s.twinUp n = true) (ht : mget 0 s.twin.txAt n + us 10 ≤ s.now) :
    s.twinTest n = s.draw.2.twinSendOn n (.test (leBytes ((Config.freeWord s.draw.1).toNat % 2 ^ 31) 4 ++
      prbsBytes ((Config.freeWord s.draw.1).toNat % 2 ^ 31) 60)) := by
  simp only [State.twinTest, hp, hu, decide_eq_false (Nat.not_lt.mpr ht), Bool.not_true, Bool.or_self, Bool.false_eq_true,
    if_false]

/-- PRBS goes out in training, and in an idle gap of a lane that is UP where IDLEPRBS asks for it. -/
theorem prbsSend_due (h : s.lstate n = 3 ∨ (s.lstate n = 6 ∧ s.rdb (pgTLNK n) R.TLNK_CTL_IDLEPRBS = true ∧
      (s.tl n).txAt + us 10 ≤ s.now)) :
    s.prbsSend n = s.draw.2.sendTest n 0 (leBytes ((Config.freeWord s.draw.1).toNat % 2 ^ 31) 4 ++
      prbsBytes ((Config.freeWord s.draw.1).toNat % 2 ^ 31) 60) := by
  have hdue : (decide (s.lstate n = 3) || (decide (s.lstate n = 6) && s.rdb (pgTLNK n) R.TLNK_CTL_IDLEPRBS &&
      decide ((s.tl n).txAt + us 10 ≤ s.now))) = true := by simpa [and_assoc] using h
  simp only [State.prbsSend, hdue, if_true]

end Sends

/-- Settles O46: each frame once its condition to leave is met. -/
theorem laneSends : Obligations.LaneSends := by
  refine ⟨?sync, ?probe, ?epoch, ?idle, ?twin, ?prbs⟩
  case sync =>
    exact fun n => runs_of (f := (·.timeSync n.val)) (fun _ _ => rfl) fun u ⟨ho, ht⟩ => timeSync_due ho ht
  case probe =>
    exact fun n => runs_of (f := (·.timeProbe n.val)) (fun _ _ => rfl)
      fun u ⟨ho, hn, hr, ht⟩ => timeProbe_due ho hn hr ht
  case epoch =>
    exact fun j => runs_of (f := (·.epochSend)) (fun _ _ => rfl) fun u ⟨hr, hi, hj, hl⟩ => epochSend_inJob hr hi hj hl
  case idle =>
    exact fun n => runs_of (f := (·.idleSend n.val)) (fun _ _ => rfl) fun u ⟨hp, hs, ht⟩ => idleSend_idle hp hs ht
  case twin =>
    exact fun n hn => runs_of (f := (·.prbsOut n.val)) (fun _ _ => rfl)
      fun u ⟨hp, hu, ht⟩ => (if_neg (Nat.not_lt.mpr hn)).trans (twinTest_idle hp hu ht)
  case prbs =>
    exact fun n hn => runs_of (f := (·.prbsOut n.val)) (fun _ _ => rfl)
      fun u h => (if_pos hn).trans (prbsSend_due h)

end Sys2Proof.Machine
end

section
/-!
CERTIFICATE. Upkeep of a tile lane: PRBS errors, adaptation and breaks (O47).
-/
namespace Sys2Proof.Machine

section Upkeep
variable {s : State} {n : Nat}

/-! ### PRBS errors (R361, R595) -/

/-- The bit errors of a TEST frame on a twin lane that is up add up for the health record. -/
theorem twinTestIn_up (hp : s.twinPowered = true) (hu : s.twinUp n = true) (pl : List Byte) :
    s.twinTestIn n pl =
      (let h := s.twin.health
       s.setTwin { s.twin with health := { h with
         twinPrbs := satAdd 16 h.twinPrbs
           (bitErrors (pl.drop 4) (prbsBytes (leAt pl 0 4 % 2 ^ 31) (pl.length - 4))) } }) := by
  simp only [State.twinTestIn, hp, hu, Bool.not_true, Bool.or_self, Bool.false_eq_true, if_false]

/-- The bit errors of a sound PRBS frame add up for adaptation, in TLNK_PRBSERR and for the health record. -/
theorem prbsReceive_sound {f : List Byte} (hf : State.tileFrameOk n f = true) (ht : tileType f = 8) (hsub : tileSub f = 0)
    (hform : tileForm 8 0 ((f.drop 16).take (f.length - 20)) = true) (ho : s.laneOn n = true) (hl : s.locked n = true) :
    s.prbsReceive n f =
      (let body := ((f.drop 16).take (f.length - 20)).drop 4
       let e := bitErrors body (prbsBytes (leAt ((f.drop 16).take (f.length - 20)) 0 4 % 2 ^ 31) body.length)
       let z := (s.setTl n { s.tl n with prbs := (s.tl n).prbs + e, prbsAt := s.now }).addTo (pgTLNK n) R.TLNK_PRBSERR e
       z.setTwin { z.twin with health := { z.twin.health with tilePrbs := satAdd 16 z.twin.health.tilePrbs e } }) := by
  have hhead : (decide (byteAt f 0 / 16 = 1) && decide (byteAt f 3 = n) && decide (leAt f 8 2 + 20 = f.length)) = true := by
    have hok := hf
    simp only [State.tileFrameOk, Bool.and_eq_true] at hok
    obtain ⟨⟨⟨⟨-, -⟩, hver⟩, hlane⟩, hlen⟩ := hok
    rw [hver, hlane, hlen]; rfl
  have hprbs : isPrbs (tileType f) (tileSub f) = true := by rw [ht, hsub]; rfl
  simp only [State.prbsReceive, ho, hl, hhead, hprbs, hform, hf, Bool.not_true, Bool.or_self, Bool.and_self,
    Bool.false_eq_true, if_true, if_false]

/-! ### Adaptation (R363, R364) -/

/-- A step takes over the FOM measured, the least of them and the PRBS count, and a fall below FOMMIN in UP is flagged. -/
theorem adapt_locked (ho : s.laneOn n = true) (hl : s.locked n = true) (fom : Nat) :
    s.adapt n fom =
      (let old := s.rd (pgTLNK n) R.TLNK_FOM_FOM
       let keep := s.rd (pgTLNK n) R.TLNK_CTL_ADAPT ≠ 2 ∧ s.keepStep n fom = true
       let z := (s.setTl n { s.tl n with
         eqPrbs := (s.tl n).prbs, eqStep := if keep then (s.tl n).eqStep + 1 else (s.tl n).eqStep }).wr
           (pgTLNK n) R.TLNK_FOM_FOM fom
       let y := z.wr (pgTLNK n) R.TLNK_FOM_MINFOM (min fom (z.rd (pgTLNK n) R.TLNK_FOM_MINFOM))
       if y.lstate n = 6 ∧ fom < y.rd (pgTLNK n) R.TLNK_TRAIN_FOMMIN ∧
         y.rd (pgTLNK n) R.TLNK_TRAIN_FOMMIN ≤ old then y.raise (pgTLNK n) 10 fom else y) := by
  have hmin : ∀ t : State, (t.wr (pgTLNK n) R.TLNK_FOM_FOM fom).rd (pgTLNK n) R.TLNK_FOM_MINFOM =
      t.rd (pgTLNK n) R.TLNK_FOM_MINFOM := fun t => rd_wr_apart t _ fom rfl (by decide) (by decide)
  simp only [State.adapt, ho, hl, hmin, Bool.not_true, Bool.or_self, Bool.false_eq_true, if_false, Bool.and_eq_true,
    Bool.not_eq_true', beq_eq_false_iff_ne]

/-! ### Breaks (R398, R612) -/

theorem anyTwin_wrTlnk (s : State) {n : Nat} (hn : n < 40) (f : Fld) (hf : f.off < 4096) (v : Nat) :
    (s.wr (pgTLNK n) f v).anyTwin = s.anyTwin := by
  have hrd : ∀ g : Fld, g.off < 4096 → (s.wr (pgTLNK n) f v).rd pgTWIN g = s.rd pgTWIN g := fun g hg =>
    rd_wr_other s _ f v _ g (by simp only [pgTLNK, pgTWIN]; omega)
  simp only [State.anyTwin, State.twinUp, State.rdb, hrd R.TWIN_STAT_LANE0 (by decide), hrd R.TWIN_STAT_LANE1 (by decide)]

theorem anyTwin_raise (s : State) (pg flag d : Nat) : (s.raise pg flag d).anyTwin = s.anyTwin := by
  simp only [State.anyTwin, State.twinUp, rdb_raise]

/-- A break that stands is recorded with its hop and flagged, and the lane is DEGRADED; an active device with a twin lane
relays it where the far end is UP. -/
theorem chainBreak_stands {h : Nat} (hn : n < 40) (hu : s.laneUp n = true)
    (hne : s.rd (pgTLNK n) R.TLNK_STAT_BREAKHOP ≠ h) (hb : s.breakAt n h = true) (farUp : Bool) :
    s.chainBreak n h farUp =
      (let z := ((s.wr (pgTLNK n) R.TLNK_STAT_BREAKHOP h).raise (pgTLNK n) 6 h).setLstate n 7
       if s.isActive && farUp && s.anyTwin then
         z.setTwin { z.twin with relay := z.twin.relay.filter (· ≠ n) ++ [n] }
       else z) := by
  have htwin : (((s.wr (pgTLNK n) R.TLNK_STAT_BREAKHOP h).raise (pgTLNK n) 6 h).setLstate n 7).anyTwin = s.anyTwin := by
    rw [State.setLstate, anyTwin_wrTlnk _ hn _ (by decide), anyTwin_raise, anyTwin_wrTlnk _ hn _ (by decide)]
  have hrole : (((s.wr (pgTLNK n) R.TLNK_STAT_BREAKHOP h).raise (pgTLNK n) 6 h).setLstate n 7).isActive = s.isActive := by
    simp only [State.isActive, State.setLstate, wr_fields, raise_fields]
  simp only [State.chainBreak, hu, beq_eq_false_iff_ne.mpr hne, hb, htwin, hrole, Bool.not_true, Bool.or_self,
    Bool.false_eq_true, if_false]

end Upkeep

/-- Settles O47: the upkeep of a lane by what the command brings, and a break with and without the relay. -/
theorem laneUpkeep : Obligations.LaneUpkeep := by
  refine ⟨?twin, ?prbs, ?adapt, ?relayed, ?alone⟩
  case twin =>
    exact fun n f hn => runs_of (f := (·.prbsIn n.val f)) (fun _ _ => rfl)
      fun u ⟨hp, hu⟩ => (if_neg (Nat.not_lt.mpr hn)).trans (twinTestIn_up hp hu f)
  case prbs =>
    exact fun n f hn hf ht hsub hform => runs_of (f := (·.prbsIn n.val f)) (fun _ _ => rfl)
      fun u ⟨ho, hl⟩ => (if_pos hn).trans (prbsReceive_sound hf ht hsub hform ho hl)
  case adapt =>
    exact fun n fom => runs_of (f := (·.adapt n.val fom.toNat)) (fun _ _ => rfl)
      fun u ⟨ho, hl⟩ => adapt_locked ho hl fom.toNat
  case relayed =>
    refine fun n h => runs_of (f := (·.chainBreak n.val h.val true)) (fun _ _ => rfl) fun u ⟨hu, hne, hb, ha, ht⟩ => ?_
    rw [chainBreak_stands n.isLt hu hne hb, ha, ht]
    rfl
  case alone =>
    refine fun n h => runs_of (f := (·.chainBreak n.val h.val false)) (fun _ _ => rfl) fun u ⟨hu, hne, hb⟩ => ?_
    simp only [chainBreak_stands n.isLt hu hne hb, Bool.and_false, Bool.false_and, Bool.false_eq_true, if_false]

end Sys2Proof.Machine
end

section
/-!
CERTIFICATE. The stop sequence: backed up, returning, retry and failure, and REARM (O43).
-/
namespace Sys2Proof.Machine

section StopSequence
variable {s : State} {j : Job} {b : Nat}

/-- Once every waiting bar is backed up REV_PERMIT goes and the sequence waits (R433). -/
theorem sbBacked_all (hj : s.jobs.cur = some j) (hs : s.sb = 2) (hb : (barsOf s.waitBar).all (s.backed j) = true) :
    s.sbBacked = ((s.revPermit false).setSb 3).raise pgFIREC 3 := by
  simp only [State.sbBacked, hj, hs, hb, decide_true, Bool.and_self, if_true]

/-- At standstill, with data and no hard stop, the sequence returns, with the warm-up of the resume (R435, R421). -/
theorem sbReturning_ready (hj : s.jobs.cur = some j) (hs : s.sb = 3) (hstand : s.rdb pgPOS R.POS_STAT_STANDSTILL = true)
    (hd : s.dataOk = true) (hh : ∀ b, b < 8 → s.rd (pgFIRE b) R.FIRE_HARD_TILES = 0) (hp : s.dev.state = .printing) :
    s.sbReturning =
      State.each (fun s b => s.warmSets b (s.barF b).sigma (s.rd (pgHLTH b) R.HLTH_WARM_RESUME : Nat))
        ((s.stopReq false).setSb 4) (barsOf j.bars) := by
  have hhard : ((List.range 8).any fun b => decide (s.rd (pgFIRE b) R.FIRE_HARD_TILES ≠ 0)) = false := by
    rw [List.any_eq_false]
    intro b hb
    simp [hh b (List.mem_range.mp hb)]
  simp only [State.sbReturning, hj, hs, hstand, hd, hhard, hp, BEq.rfl, decide_true, Bool.not_false, Bool.and_self,
    if_true]

/-- A waiting bar past its arm point counts a retry and asks for a stop again; at RETRYMAX the sequence fails (R438). -/
theorem sbRetry_passed (hj : s.jobs.cur = some j) (hs : s.sb = 3 ∨ s.sb = 4) (hw : bitOf s.waitBar b = true)
    (hx : ((s.barF b).sigma - (s.armGap : Nat)) * 4096 < s.ell j b) :
    s.sbRetry b =
      (let n := satInc 4 (s.rd pgFIREC R.FIRE_SBSTAT_RETRIES)
       let z := (((s.wr pgFIREC R.FIRE_SBSTAT_RETRIES n).inc pgFIREC R.FIRE_SBCNT_RETRY).raise pgFIREC 6 b).stopReq true
       if n < atLeast1 (z.rd pgFIREC R.FIRE_SBCFG_RETRYMAX) then (z.setSb 1).sbStill
       else (z.setSb 5).raise pgFIREC 7) := by
  simp only [State.sbRetry, hj, hs, hw, hx, and_self, if_true]

/-- REARM leaves FAILED with the retries at 0 (R439). -/
theorem sbRearm_failed (hs : s.sb = 5) :
    s.sbRearm = ((s.wr pgFIREC R.FIRE_SBSTAT_RETRIES 0).setSb 1).sbStill := if_pos hs

end StopSequence

/-- The register FIRE_SBCMD of the common page. -/
theorem findReg_sbcmd : ∃ d i, findReg PageKind.firec.regs R.FIRE_SBCMD.off = some (d, i) ∧ d.off = R.FIRE_SBCMD.off :=
  ⟨_, _, rfl, rfl⟩

/-- An accepted write of FIRE_SBCMD with REARM stores the register and rearms the sequence. -/
theorem regCmd_rearm {u : State} {m : Master} {v : Word}
    (h : u.accepts m (fieldAddr pgFIREC R.FIRE_SBCMD) .firec 0 = true) :
    u.regCmd m pgFIREC R.FIRE_SBCMD (withBit v R.FIRE_SBCMD_REARM) =
      (u.stored pgFIREC R.FIRE_SBCMD (withBit v R.FIRE_SBCMD_REARM)).sbRearm.acceptedBy u m .firec 0
        (fieldAddr pgFIREC R.FIRE_SBCMD) (withBit v R.FIRE_SBCMD_REARM) := by
  obtain ⟨d, i, hf, hd⟩ := findReg_sbcmd
  have hbit : bitOf (withBit v R.FIRE_SBCMD_REARM).toNat 0 = true := bitOf_withBit v R.FIRE_SBCMD_REARM (by decide)
  refine regCmd_stored (g := State.sbRearm) h (by decide) (by decide) (by decide) hf ?_
  have hdef : R.FIRE_SBCMD.off ≠ R.FIRE_DEFCTL.off := by decide
  simp only [State.writeBlock, State.writeFirec, hd, hdef, hbit, if_true, if_false]

/-- Settles O43: each row of the sequence by its condition; a retry and a failure are the two sides of RETRYMAX. -/
theorem stopSequence : Obligations.StopSequence := by
  refine ⟨?backed, ?returning, ?retry, ?fails, ?rearm⟩
  case backed =>
    exact fun j => runs_of (f := (·.sbBacked)) (fun _ _ => rfl) fun u ⟨hj, hs, hb⟩ => sbBacked_all hj hs hb
  case returning =>
    exact fun j => runs_of (f := (·.sbReturning)) (fun _ _ => rfl)
      fun u ⟨hj, hs, hstand, hd, hh, hp⟩ => sbReturning_ready hj hs hstand hd hh hp
  case retry =>
    exact fun b j => runs_of (f := (·.sbRetry b.val)) (fun _ _ => rfl)
      fun u ⟨hj, hs, hw, hx, hn⟩ => (sbRetry_passed hj hs hw hx).trans (if_pos hn)
  case fails =>
    exact fun b j => runs_of (f := (·.sbRetry b.val)) (fun _ _ => rfl)
      fun u ⟨hj, hs, hw, hx, hn⟩ => (sbRetry_passed hj hs hw hx).trans (if_neg (Nat.not_lt.mpr hn))
  case rearm =>
    refine fun m v => runs_of (f := (·.regCmd m pgFIREC R.FIRE_SBCMD (withBit v R.FIRE_SBCMD_REARM))) (fun _ _ => rfl)
      fun u ⟨h, hs⟩ => ?_
    rw [regCmd_rearm h, sbRearm_failed hs]

end Sys2Proof.Machine
end

section
/-!
CERTIFICATE. Head health: MEAS commands, their results and their loss, REBASE and CLRSUM, and the check of the warm-up (O48).
-/
namespace Sys2Proof.Machine

section Health
variable {s : State} {j : Job} {b t n p : Nat} {f : List Byte} {c : MeasCmd}

/-! ### MEAS commands (R402 to R407) -/

/-- A command of a fitted tile of a lane that is up is due where none is outstanding and INT has passed (R402, R407). -/
theorem measDue_open (hen : s.rdb (pgHLTH b) R.HLTH_CTL_MEASEN = true) (ho : s.tilesOpen = true)
    (hr : s.dev.role ≠ .standby) (hside : s.sideState = false) (hf : t < s.fitted b)
    (hup : s.laneUp (laneOf b t) = true) (hout : (s.tileH b t).out = none)
    (hint : ∀ i, (s.tileH b t).issued = some i → i + us (max 10 (s.rd (pgHLTH b) R.HLTH_MEASCFG_INT)) ≤ s.now) :
    s.measDue b t = true := by
  have hopen : s.measOpen = true := by
    rw [State.sideState] at hside
    simp only [State.measOpen, ho, bne_iff_ne.mpr hr, hside, Bool.not_false, Bool.and_self]
  simp only [State.measDue, hen, hopen, hup, hout, decide_eq_true hf, Option.isNone_none, Bool.and_self, Bool.true_and]
  cases hi : (s.tileH b t).issued with
  | none => rfl
  | some i => exact decide_eq_true (hint i hi)

/-- A due command goes to its tile and is outstanding (R402 to R405). -/
theorem measIssue_due (h : s.measDue b t = true) :
    s.measIssue b t =
      (let x := s.tileH b t
       let n := s.measCount b t
       (s.setTileH b t { x with
         tag := (x.tag + 1) % 65536, issued := some s.now,
         out := some { tag := x.tag, row := x.row, col := x.col, count := n, at_ := s.now } }).tileSend
           (laneOf b t) 5 0 (posOf t) (leBytes x.tag 2 ++ leBytes 1 1 ++ leBytes x.row 1 ++ leBytes x.col 2 ++
             leBytes n 2 ++ leBytes (s.measAfter b t) 6 ++ zeros 2)) := if_pos h

/-- A command without a result for TMO ms is counted as lost and flagged, and is issued again (R405). -/
theorem measTimeout_due (hout : (s.tileH b t).out = some c)
    (ht : c.at_ + ms (atLeast1 (s.rd (pgHLTH b) R.HLTH_MEASCFG_TMO)) ≤ s.now) :
    s.measTimeout b t =
      ((s.setTileH b t { s.tileH b t with out := none, again := some c.count }).inc (pgHLTH b)
        R.HLTH_MEASCNT_LOST).raise (pgHLTH b) 6 t := by
  simp only [State.measTimeout, hout, if_pos ht]

/-! ### MEAS results (R405, R427) -/

/-- A result acts after the CAP frames of its tick (R427). -/
theorem measFrame_taken (h : s.capsFirst.statFor n 2 p f) :
    s.measFrame n f = (s.capsFirst.statSeen n p f).measResult n p (tilePayload f) := statFrame_taken h _

/-- The payload of a result answers a command: it names resistance and the command's tag, row, column and count. -/
structure AnswersMeas (pl : List Byte) (c : MeasCmd) : Prop where
  tag : leAt pl 0 2 = c.tag
  kind : byteAt pl 2 = 1
  row : byteAt pl 3 = c.row
  col : leAt pl 4 2 = c.col
  count : leAt pl 6 2 = c.count

section Result
variable {pl : List Byte} (hout : (s.tileH (n / 5) (tileOf n p)).out = some c) (h : AnswersMeas pl c)
include hout h

/-- Code 0 ends the outstanding command: its readings are taken and the scan moves on (R405, R406). -/
theorem measResult_readings (hc : byteAt pl 8 = 0) :
    s.measResult n p pl =
      (let b := n / 5
       let t := tileOf n p
       let y := s.setTileH b t { s.tileH b t with out := none, again := none }
       (y.takeReadings b t c.row (y.tile b t).temp c.col ((List.range c.count).map fun i =>
         leAt pl (16 + 2 * i) 2)).scanNext b t c.count) := by
  simp only [State.measResult, hout, h.tag, h.kind, h.row, h.col, h.count, hc, ne_eq, not_true_eq_false, or_self, if_true,
    if_false]

/-- Code 1 ends the outstanding command, which is counted as not done and comes again (R405). -/
theorem measResult_notDone (hc : byteAt pl 8 = 1) :
    s.measResult n p pl =
      (s.setTileH (n / 5) (tileOf n p) { s.tileH (n / 5) (tileOf n p) with out := none, again := some c.count }).inc
        (pgHLTH (n / 5)) R.HLTH_MEASCNT_NOTDONE := by
  simp only [State.measResult, hout, h.tag, h.kind, h.row, h.col, h.count, hc, ne_eq, not_true_eq_false, or_self,
    Nat.one_ne_zero, if_false]

end Result

/-! ### REBASE and CLRSUM (R416, R418) -/

/-- REBASE of one tile (R416). -/
theorem hlthRebase_tile (h : s.cmdTiles b = [t]) : s.hlthRebase b = State.rebaseTile b s t := by
  simp only [State.hlthRebase, h, State.each]

/-- The register HLTH_CMD of a bar's page. -/
theorem findReg_hlthCmd : ∃ d i, findReg PageKind.hlth.regs R.HLTH_CMD.off = some (d, i) ∧ d.off = R.HLTH_CMD.off :=
  ⟨_, _, rfl, rfl⟩

/-- What an accepted write of HLTH_CMD does once the register is stored: REBASE, after the MEAS results of the tick (R427),
and CLRSUM. -/
def State.hlthCmd (s : State) (b v : Nat) : State :=
  let s := if bitOf v 6 then s.resultsFirst.hlthRebase b else s
  if bitOf v 7 then s.hlthClrsum b else s

theorem regCmd_hlthCmd {m : Master} {v : Word} (hb : b < 8)
    (h : s.accepts m (fieldAddr (pgHLTH b) R.HLTH_CMD) .hlth b = true) :
    s.regCmd m (pgHLTH b) R.HLTH_CMD v =
      ((s.stored (pgHLTH b) R.HLTH_CMD v).hlthCmd b v.toNat).acceptedBy s m .hlth b (fieldAddr (pgHLTH b) R.HLTH_CMD) v := by
  obtain ⟨d, i, hf, hd⟩ := findReg_hlthCmd
  refine regCmd_stored (g := (·.hlthCmd b v.toNat)) h (by simp only [pgHLTH]; omega) (by decide) (by decide) hf ?_
  simp only [State.writeBlock, State.writeHlth, State.hlthCmd, hd, if_true]

/-- A write of HLTH_CMD that asks for REBASE alone: the MEAS results of the tick come first (R416, R427). -/
theorem regCmd_rebase {m : Master} {v : Word} (hb : b < 8) (hv : bitOf v.toNat 7 = false)
    (h : s.accepts m (fieldAddr (pgHLTH b) R.HLTH_CMD) .hlth b = true) :
    s.regCmd m (pgHLTH b) R.HLTH_CMD (withBit v R.HLTH_CMD_REBASE) =
      ((s.stored (pgHLTH b) R.HLTH_CMD (withBit v R.HLTH_CMD_REBASE)).resultsFirst.hlthRebase b).acceptedBy s m .hlth b
        (fieldAddr (pgHLTH b) R.HLTH_CMD) (withBit v R.HLTH_CMD_REBASE) := by
  have h6 : bitOf (withBit v R.HLTH_CMD_REBASE).toNat 6 = true := bitOf_withBit v R.HLTH_CMD_REBASE (by decide)
  have h7 : bitOf (withBit v R.HLTH_CMD_REBASE).toNat 7 = false := by
    rw [bitOf_withBit_eq v R.HLTH_CMD_REBASE 7 (by decide), hv]; rfl
  simp only [regCmd_hlthCmd hb h, State.hlthCmd, h6, h7, Bool.false_eq_true, if_true, if_false]

/-- A write of HLTH_CMD that asks for CLRSUM alone (R418). -/
theorem regCmd_clrsum {m : Master} {v : Word} (hb : b < 8) (hv : bitOf v.toNat 6 = false)
    (h : s.accepts m (fieldAddr (pgHLTH b) R.HLTH_CMD) .hlth b = true) :
    s.regCmd m (pgHLTH b) R.HLTH_CMD (withBit v R.HLTH_CMD_CLRSUM) =
      ((s.stored (pgHLTH b) R.HLTH_CMD (withBit v R.HLTH_CMD_CLRSUM)).hlthClrsum b).acceptedBy s m .hlth b
        (fieldAddr (pgHLTH b) R.HLTH_CMD) (withBit v R.HLTH_CMD_CLRSUM) := by
  have h6 : bitOf (withBit v R.HLTH_CMD_CLRSUM).toNat 6 = false := by
    rw [bitOf_withBit_eq v R.HLTH_CMD_CLRSUM 6 (by decide), hv]; rfl
  have h7 : bitOf (withBit v R.HLTH_CMD_CLRSUM).toNat 7 = true := bitOf_withBit v R.HLTH_CMD_CLRSUM (by decide)
  simp only [regCmd_hlthCmd hb h, State.hlthCmd, h6, h7, Bool.false_eq_true, if_true, if_false]

/-! ### Warm-up (R422, R423) -/

/-- The first line at W: the tiles below TREADY are flagged one by one, or the bar is flagged as warm (R423). -/
theorem warmupCheck_first (hj : s.jobs.cur = some j) (hw : 0 < s.rd (pgHLTH b) R.HLTH_WARM_LINES)
    (hb : bitOf j.bars b = true) (hc : (s.barF b).warmChecked = false)
    (hl : (s.rd (pgHLTH b) R.HLTH_WARM_LINES : Nat) * 4096 ≤ s.ell j b) :
    s.warmupCheck b =
      (let z := s.setBarF b { s.barF b with warmChecked := true }
       let r := (List.range (z.fitted b)).foldl (fun (a : List Nat × State) t =>
         (if (a.2.tileReading b t).1 < z.rdi (pgHLTH b) R.HLTH_TREADY_TREADY then a.1 ++ [t] else a.1,
           (a.2.tileReading b t).2.2)) ([], z)
       if r.1 = [] then r.2.raise (pgHLTH b) 9 else State.each (fun s t => s.raise (pgHLTH b) 8 t) r.2 r.1) := by
  simp only [State.warmupCheck, hj, hb, hc, Nat.ne_of_gt hw, Int.not_lt.mpr hl, Bool.not_true, Bool.false_eq_true, or_self,
    if_false, List.isEmpty_iff]

end Health

/-- Settles O48: a command, its result and its loss by the conditions of each; REBASE and CLRSUM as bits of HLTH_CMD. -/
theorem headHealth : Obligations.HeadHealth := by
  refine ⟨?issue, ?readings, ?notDone, ?lost, ?rebase, ?clrsum, ?warm⟩
  case issue =>
    exact fun b t => runs_of (f := (·.measIssue b.val t.val)) (fun _ _ => rfl)
      fun u ⟨hen, ho, hr, hside, hf, hup, hout, hint⟩ => measIssue_due (measDue_open hen ho hr hside hf hup hout hint)
  case readings =>
    refine fun n f p c htag hkind hrow hcol hcount hcode => runs_of_once (g := (·.measFrame n.val f)) (fun _ _ => rfl)
      (fun u ⟨he, _⟩ => he) fun u ⟨_, h, hout⟩ => ?_
    rw [measFrame_taken h, measResult_readings hout ⟨htag, hkind, hrow, hcol, hcount⟩ hcode]
  case notDone =>
    refine fun n f p c htag hkind hrow hcol hcount hcode => runs_of_once (g := (·.measFrame n.val f)) (fun _ _ => rfl)
      (fun u ⟨he, _⟩ => he) fun u ⟨_, h, hout⟩ => ?_
    rw [measFrame_taken h, measResult_notDone hout ⟨htag, hkind, hrow, hcol, hcount⟩ hcode]
  case lost =>
    exact fun b t c => runs_of (f := (·.measTimeout b.val t.val)) (fun _ _ => rfl)
      fun u ⟨hout, ht⟩ => measTimeout_due hout ht
  case rebase =>
    refine fun m b t v hv => runs_of (f := (·.regCmd m (pgHLTH b.val) R.HLTH_CMD (withBit v R.HLTH_CMD_REBASE)))
      (fun _ _ => rfl) fun u ⟨h, ht⟩ => ?_
    rw [regCmd_rebase b.isLt hv h, hlthRebase_tile ht, State.rebaseTile]
  case clrsum =>
    exact fun m b v hv => runs_of (f := (·.regCmd m (pgHLTH b.val) R.HLTH_CMD (withBit v R.HLTH_CMD_CLRSUM)))
      (fun _ _ => rfl) fun u h => regCmd_clrsum b.isLt hv h
  case warm =>
    exact fun b j => runs_of (f := (·.warmupCheck b.val)) (fun _ _ => rfl)
      fun u ⟨hj, hw, hb, hc, hl⟩ => warmupCheck_first hj hw hb hc hl

end Sys2Proof.Machine
end

section
/-!
CERTIFICATE. Camera lines and frames: a line at its end, the start and the end of a frame, the pixel clock (O49).
-/
namespace Sys2Proof.Machine

section Lines
variable {s : State} {p : Nat} {cy : List CamCycle} {t : CamTrig} {ts : List CamTrig}

/-! ### Lines (R447, R448, R457) -/

/-- A line is judged by its length once the port is enabled and, in FRMODE 0, FV was active as it began. -/
theorem lineComplete_judged (he : s.pState p ≠ 0)
    (hv : s.frMode p = true ∨ cy.head?.any (s.fvActive p) = true) :
    s.lineComplete p cy =
      (let px := (cy.filter (s.cycleOn p)).flatMap (cyclePixels (s.camFmt p))
       if px.length ≠ s.camWidth p then (s.inc (pgCAMP p) R.CAM_ERR_LENERR).raise (pgCAMP p) 3 px.length
       else if s.pState p = 2 then s.storeLine p px
       else s) := by
  have hin : (!s.frMode p && !cy.head?.any (s.fvActive p)) = false := by
    rcases hv with h | h <;> simp only [h, Bool.not_true, Bool.false_and, Bool.and_false]
  simp only [State.lineComplete, he, hin, Bool.false_eq_true, if_false]

/-- A line that finds room and a trigger enters the store with it; the last line of FRMODE 1 ends the frame. -/
theorem storeLine_triggered {px : List Nat} (ht : (s.camP p).trigs = t :: ts)
    (hroom : sumN ((s.camP p).store.map CamLine.bytes) + storeBytes (s.camFmt p) px.length ≤ 2 ^ 20) :
    s.storeLine p px =
      (let c := s.camP p
       let z := s.setCamP p { c with
         store := c.store ++ [{ frame := c.frames - 1, line := c.line, fmt := s.camFmt p, pixels := px,
                                bytes := storeBytes (s.camFmt p) px.length, trig := some t, dropped := false,
                                exp := c.frameExp, mode := c.frameMode }],
         trigs := ts, line := c.line + 1 }
       if z.frMode p = true ∧ z.frLines p ≤ c.line + 1 then z.frameOver p else z) := by
  simp only [State.storeLine, ht, decide_eq_true hroom, List.head?_cons, List.drop_succ_cons, List.drop_zero,
    List.isEmpty_cons, Bool.not_true, Bool.false_eq_true, Bool.and_eq_true, decide_eq_true_eq, if_true, if_false]

/-- A line without FV is discarded, counted and flagged (R448). -/
theorem lineComplete_noFv (he : s.pState p ≠ 0) (hm : s.frMode p = false)
    (hv : cy.head?.any (s.fvActive p) = false) :
    s.lineComplete p cy = (s.inc (pgCAMP p) R.CAM_ERR_PROTO).raise (pgCAMP p) 2 := by
  simp only [State.lineComplete, he, hm, hv, Bool.not_false, Bool.and_self, if_true, if_false]

/-! ### Frames (R449, R450, R458) -/

/-- A frame whose boundary keeps EXP and EXPMODE opens with the next number and the exposure of its first trigger. -/
theorem openFrame_sameExposure (hexp : s.camExp p = (s.frameBoundary p).camExp p)
    (hmode : s.camMode p = (s.frameBoundary p).camMode p) (ht : ((s.frameBoundary p).camP p).trigs = t :: ts) :
    s.openFrame p =
      (let z := s.frameBoundary p
       let y := z.setCamP p { z.camP p with
         frames := (s.camP p).frames + 1, line := 0, frameExp := t.exp, frameMode := t.mode, frameFirst := t.first }
       ((y.setPState p 2).raise (pgCAMP p) 0 (s.camP p).frames).tableSwap p) := by
  simp only [State.openFrame, hexp, hmode, ht, if_true]

/-- An idle port whose TMODE the frame keeps opens it at once (R450). -/
theorem frameStart_keepsMode (hs : s.pState p = 1) (hm : s.camTMode p = (s.frameBoundary p).camTMode p) :
    s.frameStart p = s.openFrame p := by
  simp only [State.frameStart, hs, ne_eq, not_true_eq_false, if_false, if_pos hm]

/-- Where the frame changes TMODE, a trigger due is issued under the old mode before it opens (R478). -/
theorem frameStart_changesMode (hs : s.pState p = 1) (hm : s.camTMode p ≠ (s.frameBoundary p).camTMode p) :
    s.frameStart p =
      (let z := s.camTrigger p
       (z.setCamP p { z.camP p with due := some z.now }).openFrame p) := by
  simp only [State.frameStart, hs, ne_eq, not_true_eq_false, if_false, if_neg hm]

/-- A frame in progress that ends leaves its port idle (R449). -/
theorem frameOver_inFrame (hs : s.pState p = 2) : s.frameOver p = s.setPState p 1 := if_pos hs

/-- FV inactive ends the frame in progress, and the next trigger is the first of a frame (R449, R458). -/
theorem frameEnd_inFrame (hs : s.pState p = 2) (hm : s.frMode p = false) :
    s.frameEnd p =
      (let z := s.setPState p 1
       z.setCamP p { z.camP p with newFrame := true }) := by
  have hin : (decide (s.pState p = 0) || s.frMode p) = false := by rw [hs, hm]; rfl
  simp only [State.frameEnd, hin, frameOver_inFrame hs, Bool.false_eq_true, if_false]

/-! ### The pixel clock (R451) -/

/-- The loss of the pixel clock in a frame ends it, with flag 5. -/
theorem pclkLoss_inFrame (hs : s.pState p = 2) (hok : s.rdb (pgCAMP p) R.CAM_PSTAT_PCLKOK = true) :
    s.pclkLoss p = ((s.setPState p 1).wr (pgCAMP p) R.CAM_PSTAT_PCLKOK 0).raise (pgCAMP p) 5 := by
  have hin : (decide (s.pState p ≠ 0) && s.rdb (pgCAMP p) R.CAM_PSTAT_PCLKOK) = true := by rw [hs, hok]; rfl
  simp only [State.pclkLoss, hin, frameOver_inFrame hs, if_true]

/-- The pixel clock of an enabled port returns. -/
theorem pclkReturn_enabled (he : s.pState p ≠ 0) : s.pclkReturn p = s.wr (pgCAMP p) R.CAM_PSTAT_PCLKOK 1 := if_pos he

end Lines

/-- Settles O49: a line by FV, length and its trigger; a frame by whether its settings change TMODE; the pixel clock. -/
theorem cameraLines : Obligations.CameraLines := by
  refine ⟨?stored, ?wrongLength, ?noFv, ?start, ?startChange, ?ends, ?clockLoss, ?clockReturn⟩
  case stored =>
    refine fun p cy t ts => runs_of (f := (·.lineComplete p.val cy)) (fun _ _ => rfl)
      fun u ⟨hs, hv, hlen, ht, hroom⟩ => ?_
    have he : u.pState p.val ≠ 0 := by omega
    rw [lineComplete_judged he hv]
    exact (if_neg (not_not_intro hlen)).trans ((if_pos hs).trans (storeLine_triggered ht hroom))
  case wrongLength =>
    exact fun p cy => runs_of (f := (·.lineComplete p.val cy)) (fun _ _ => rfl)
      fun u ⟨he, hv, hlen⟩ => (lineComplete_judged he hv).trans (if_pos hlen)
  case noFv =>
    exact fun p cy => runs_of (f := (·.lineComplete p.val cy)) (fun _ _ => rfl)
      fun u ⟨he, hm, hv⟩ => lineComplete_noFv he hm hv
  case start =>
    exact fun p t ts => runs_of (f := (·.frameStart p.val)) (fun _ _ => rfl)
      fun u ⟨hs, hm, hexp, hmode, ht⟩ => (frameStart_keepsMode hs hm).trans (openFrame_sameExposure hexp hmode ht)
  case startChange =>
    exact fun p => runs_of (f := (·.frameStart p.val)) (fun _ _ => rfl) fun u ⟨hs, hm⟩ => frameStart_changesMode hs hm
  case ends =>
    exact fun p => runs_of (f := (·.frameEnd p.val)) (fun _ _ => rfl) fun u ⟨hs, hm⟩ => frameEnd_inFrame hs hm
  case clockLoss =>
    exact fun p => runs_of (f := (·.pclkLoss p.val)) (fun _ _ => rfl) fun u ⟨hs, hok⟩ => pclkLoss_inFrame hs hok
  case clockReturn =>
    exact fun p => runs_of (f := (·.pclkReturn p.val)) (fun _ _ => rfl) fun u he => pclkReturn_enabled he

end Sys2Proof.Machine
end

section
/-!
CERTIFICATE. Camera triggers, the image pipeline and the swap of its tables (O50).
-/
namespace Sys2Proof.Machine

/-! ### The position of a camera (R452) -/

/-- The web's position depends on the position unit alone: its state, its registers and the tick (R167, R180). -/
theorem x0At_congr {s u : State} (hpos : u.pos = s.pos) (hnow : u.now = s.now)
    (hrd : ∀ f : Fld, f.off < 4096 → u.rd pgPOS f = s.rd pgPOS f) (t : Nat) : u.x0At t = s.x0At t := by
  have hscale (n : Nat) (hn : n < 2) : u.encScale n = s.encScale n := by
    rw [State.encScale, State.encScale, hrd _ (by simp only [R.POS_ENCSCALE]; omega)]
  have hx0 : u.x0 = s.x0 := by
    simp only [State.x0, State.srcDist, State.encDist, State.enc, State.msrc, hpos, hscale 0 (by decide),
      hscale 1 (by decide), hrd R.POS_STAT_MSRC (by decide), hrd R.POS_HALLSCALE (by decide)]
  have hsrc : u.srcScale = s.srcScale := by
    simp only [State.srcScale, State.msrc, hscale 0 (by decide), hscale 1 (by decide), hrd R.POS_STAT_MSRC (by decide),
      hrd R.POS_HALLSCALE (by decide)]
  have hstand : u.standTmo = s.standTmo := by rw [State.standTmo, State.standTmo, hrd _ (by decide)]
  have hdecay : u.rdb pgPOS R.POS_STAT_DECAY = s.rdb pgPOS R.POS_STAT_DECAY := by
    rw [State.rdb, State.rdb, hrd _ (by decide)]
  have hspeed (t : Nat) : u.speedAt t = s.speedAt t := by
    rw [State.speedAt, State.speedAt, hpos, hstand, hsrc, hdecay]
  simp only [State.x0At, State.x0Past, State.accel, hpos, hnow, hx0, hsrc, hstand, hspeed]

/-- The stretch at a value of X0 depends on the position unit alone (R182). -/
theorem stretchAt_congr {s u : State} (hpos : u.pos = s.pos)
    (hrd : ∀ f : Fld, f.off < 4096 → u.rd pgPOS f = s.rd pgPOS f) (x : Int) : u.stretchAt x = s.stretchAt x := by
  simp only [State.stretchAt, State.strWin, hpos, hrd R.POS_STRCFG_WIN (by decide)]

/-- A port replaced changes CAM_PSTAT and no other register. -/
theorem rd_setCamP_other (s : State) (p : Nat) (x : CamPort) {pg : Nat} {f : Fld}
    (h : pgCAMP p * 4096 + R.CAM_PSTAT.off ≠ pg * 4096 + f.off) : (s.setCamP p x).rd pg f = s.rd pg f :=
  (rd_wr_other _ _ R.CAM_PSTAT_FRAMELO _ _ _ h).trans (rd_wr_other _ _ R.CAM_PSTAT_STORED _ _ _ h)

theorem pos_setCamP (s : State) (p : Nat) (x : CamPort) : (s.setCamP p x).pos = s.pos := by
  simp only [State.setCamP, wr_fields]

theorem now_setCamP (s : State) (p : Nat) (x : CamPort) : (s.setCamP p x).now = s.now := by
  simp only [State.setCamP, State.now, wr_fields]

/-- The position of a camera does not depend on its port's triggers and lines. -/
theorem camX_setCamP (s : State) (p : Nat) (x : CamPort) : (s.setCamP p x).camX p = s.camX p := by
  have hrd (f : Fld) (hf : f.off < 4096) : (s.setCamP p x).rd pgPOS f = s.rd pgPOS f :=
    rd_setCamP_other s p x (by simp only [pgCAMP, pgPOS]; omega)
  have hdist : (s.setCamP p x).rd (pgCAMP p) R.CAM_DIST = s.rd (pgCAMP p) R.CAM_DIST :=
    rd_setCamP_other s p x (by simp only [R.CAM_PSTAT, R.CAM_DIST]; omega)
  have hk : (s.setCamP p x).rd (pgCAMP p) R.CAM_K = s.rd (pgCAMP p) R.CAM_K :=
    rd_setCamP_other s p x (by simp only [R.CAM_PSTAT, R.CAM_K]; omega)
  simp only [State.camX, State.rdi, now_setCamP, hdist, hk, x0At_congr (pos_setCamP s p x) (now_setCamP s p x) hrd,
    stretchAt_congr (pos_setCamP s p x) hrd]

section Triggers
variable {s : State} {p : Nat}

/-! ### Triggers (R453 to R459) -/

/-- A trigger within the pulse or the gap of the one before is skipped, counted and flagged; its position counts (R456). -/
theorem issueTrigger_busy (pos : Int) (h : s.camBusy p = true) :
    s.issueTrigger p pos =
      ((s.setCamP p { s.camP p with top := max (s.camP p).top pos }).inc (pgCAMP p) R.CAM_TRIGCNT_SKIP).raiseI (pgCAMP p) 4
        (pos.fdiv 256) := if_pos h

/-- The first trigger of a frame takes the exposure in force, unless that changed at this tick (R458). -/
theorem issueTrigger_first (pos : Int) (h : s.camBusy p = false) (hf : s.firstTrigger p = true)
    (he : (s.camP p).expAt ≠ some s.now) :
    s.issueTrigger p pos =
      (let c := s.camP p
       let ts := c.trigs ++ [{ tick := s.now, pos := pos, exp := s.camExp p, mode := s.camMode p, first := s.now }]
       s.setCamP p { c with top := max c.top pos, exp := s.camExp p, mode := s.camMode p, first := s.now,
                            trigs := ts.drop (ts.length - 64), pulse := true, pulseEnd := s.now + 160 * s.camExp p,
                            issued := c.issued + 1, newFrame := false }) := by
  simp only [State.issueTrigger, h, hf, beq_eq_false_iff_ne.mpr he, Bool.false_eq_true, if_true, if_false]

/-- TMODE 1: the web at the next multiple of PITCH, forward and valid, triggers there (R453). -/
theorem camTrigger_pitch (he : s.pState p ≠ 0) (hm : s.camTMode p = 1) (hx : s.nextPitch p ≤ s.camX p)
    (hr : s.pos.track.reverse = false) (hv : s.pos.track.valid = true) :
    s.camTrigger p = s.issueTrigger p (s.nextPitch p) := by
  simp only [State.camTrigger, he, hm, Int.not_lt.mpr hx, hr, hv, decide_false, Bool.not_true, Bool.or_self,
    Bool.false_eq_true, if_true, if_false]

/-- TMODE 2: a multiple of PERIOD triggers once, at the position of the camera (R453). -/
theorem camTrigger_period (he : s.pState p ≠ 0) (hm : s.camTMode p = 2)
    (ht : s.now % (160 * atLeast1 (s.rd (pgCAMP p) R.CAM_PERIOD_PERIOD)) = 0) (hd : (s.camP p).due ≠ some s.now) :
    s.camTrigger p =
      (let z := s.setCamP p { s.camP p with due := some s.now }
       z.issueTrigger p (z.camX p)) := by
  have h1 : ¬ s.camTMode p = 1 := by rw [hm]; decide
  simp only [State.camTrigger, if_neg he, if_neg h1, if_pos hm, ht, bne_iff_ne.mpr hd, camX_setCamP, decide_true,
    Bool.and_self, if_true]

/-- TMODE 3: a software trigger is issued at the position of the camera (R454). -/
theorem softTrigger_mode3 (he : s.pState p ≠ 0) (hm : s.camTMode p = 3) :
    s.softTrigger p = s.issueTrigger p (s.camX p) := if_pos ⟨he, hm⟩

/-- The pulse ends once EXP has passed (R455). -/
theorem pulseOver_due (hp : (s.camP p).pulse = true) (ht : (s.camP p).pulseEnd ≤ s.now) :
    s.pulseOver p = s.setCamP p { s.camP p with pulse := false } := by
  simp only [State.pulseOver, hp, decide_eq_true ht, Bool.and_self, if_true]

/-! ### The pipeline (R461) -/

/-- The line taken passes the stages, the tap and the statistics, and the dropped lines behind it leave with it. -/
theorem pipelineLine_takes {l : CamLine} {rest : List CamLine} (hn : s.nextPort = some p)
    (hl : (s.camP p).store = l :: rest) :
    s.pipelineLine =
      (let z := s.setCamP p { s.camP p with store := rest.dropWhile (·.dropped) }
       let y : State := { z with cam := { z.cam with last := p } }
       let mid := y.afterBalance p l
       let out := y.afterTone p mid
       (((y.camLoad l.pixels.length).camTap p l mid out).statLine p l out).passDropped p
         (rest.takeWhile (·.dropped))) := by
  simp only [State.pipelineLine, hn, hl]

end Triggers

/-! ### The command registers (R454, R465) -/

/-- The register CAM_SWTRIG of a port's page. -/
theorem findReg_swtrig : ∃ d i, findReg PageKind.camp.regs R.CAM_SWTRIG.off = some (d, i) ∧ d.off = R.CAM_SWTRIG.off :=
  ⟨_, _, rfl, rfl⟩

/-- An accepted write of CAM_SWTRIG with GO stores the register and asks for a software trigger. -/
theorem regCmd_swtrig {u : State} {m : Master} {p : Nat} {v : Word} (hp : p < 2)
    (h : u.accepts m (fieldAddr (pgCAMP p) R.CAM_SWTRIG) .camp p = true) :
    u.regCmd m (pgCAMP p) R.CAM_SWTRIG (withBit v R.CAM_SWTRIG_GO) =
      ((u.stored (pgCAMP p) R.CAM_SWTRIG (withBit v R.CAM_SWTRIG_GO)).softTrigger p).acceptedBy u m .camp p
        (fieldAddr (pgCAMP p) R.CAM_SWTRIG) (withBit v R.CAM_SWTRIG_GO) := by
  obtain ⟨d, i, hf, hd⟩ := findReg_swtrig
  have hgo : bitOf (withBit v R.CAM_SWTRIG_GO).toNat 0 = true := bitOf_withBit v R.CAM_SWTRIG_GO (by decide)
  refine regCmd_stored (g := (·.softTrigger p)) h (by simp only [pgCAMP]; omega) (by decide) (by decide) hf ?_
  simp only [State.writeBlock, hd, hgo, and_self, if_true]

/-- The register CAM_TBLSWAP of the pipeline page. -/
theorem findReg_tblswap : ∃ d i, findReg PageKind.cami.regs R.CAM_TBLSWAP.off = some (d, i) ∧ d.off = R.CAM_TBLSWAP.off :=
  ⟨_, _, rfl, rfl⟩

/-- An accepted write of CAM_TBLSWAP with SWAPA alone stores the register and asks for a swap of port A. -/
theorem regCmd_swapA {u : State} {m : Master} {v : Word} (ha : bitOf v.toNat 0 = true) (hb : bitOf v.toNat 1 = false)
    (h : u.accepts m (fieldAddr pgCAMI R.CAM_TBLSWAP) .cami 0 = true) :
    u.regCmd m pgCAMI R.CAM_TBLSWAP v =
      ((u.stored pgCAMI R.CAM_TBLSWAP v).askSwap 0).acceptedBy u m .cami 0 (fieldAddr pgCAMI R.CAM_TBLSWAP) v := by
  obtain ⟨d, i, hf, hd⟩ := findReg_tblswap
  have hdata : R.CAM_TBLSWAP.off ≠ R.CAM_TBLDATA.off := by decide
  refine regCmd_stored (g := (·.askSwap 0)) h (by decide) (by decide) (by decide) hf ?_
  simp only [State.writeBlock, State.writeCami, hd, hdata, ha, hb, Bool.false_eq_true, if_true, if_false]

/-- Settles O50: a trigger by its port's pulse and by each TMODE; the end of the pulse, the pipeline and the table swap. -/
theorem cameraTriggers : Obligations.CameraTriggers := by
  refine ⟨?busy, ?first, ?pitch, ?period, ?software, ?pulseEnd, ?pipeline, ?swap⟩
  case busy => exact fun s p pos h => issueTrigger_busy pos h
  case first => exact fun s p pos h hf he => issueTrigger_first pos h hf he
  case pitch =>
    exact fun p => runs_of (f := (·.camTrigger p.val)) (fun _ _ => rfl)
      fun u ⟨he, hm, hx, hr, hv⟩ => camTrigger_pitch he hm hx hr hv
  case period =>
    exact fun p => runs_of (f := (·.camTrigger p.val)) (fun _ _ => rfl)
      fun u ⟨he, hm, ht, hd⟩ => camTrigger_period he hm ht hd
  case software =>
    refine fun m p v => runs_of (f := (·.regCmd m (pgCAMP p.val) R.CAM_SWTRIG (withBit v R.CAM_SWTRIG_GO)))
      (fun _ _ => rfl) fun u ⟨h, he, hm⟩ => ?_
    rw [regCmd_swtrig p.isLt h, softTrigger_mode3 he hm]
  case pulseEnd =>
    exact fun p => runs_of (f := (·.pulseOver p.val)) (fun _ _ => rfl) fun u ⟨hp, ht⟩ => pulseOver_due hp ht
  case pipeline =>
    exact fun p l rest => runs_of (f := (·.pipelineLine)) (fun _ _ => rfl) fun u ⟨hn, hl⟩ => pipelineLine_takes hn hl
  case swap =>
    exact fun m v ha hb => runs_of (f := (·.regCmd m pgCAMI R.CAM_TBLSWAP v)) (fun _ _ => rfl)
      fun u h => regCmd_swapA ha hb h

end Sys2Proof.Machine
end

section
/-!
CERTIFICATE. The step and its command (O1, O2), and the DRAM store (O6).
-/
namespace Sys2Proof.Machine

/-! ### Runs of bytes in the DRAM store -/

/-- A run of bytes written is read back byte by byte, and every byte outside it is as before. -/
theorem memByte_memPuts_eq (bs : List Byte) (m : List Host.Cell) (a b : Nat) :
    memByte (memPuts m a bs) b = if a ≤ b ∧ b < a + bs.length then bs.getD (b - a) 0#8 else memByte m b := by
  induction bs generalizing m a with
  | nil => exact (if_neg (by rw [List.length_nil]; omega)).symm
  | cons x xs ih =>
    rw [memPuts, ih, List.length_cons, memByte_memPut]
    rcases Nat.lt_trichotomy b a with hb | rfl | hb
    · rw [if_neg (by omega), if_neg (by omega), if_neg (by omega)]
    · rw [if_neg (by omega), if_pos rfl, if_pos (by omega), Nat.sub_self]; rfl
    · have hplace : (x :: xs).getD (b - a) 0#8 = xs.getD (b - (a + 1)) 0#8 := by
        rw [← Nat.sub_add_cancel (show 1 ≤ b - a by omega), List.getD_cons_succ, Nat.sub_sub]
      rw [if_neg (show a ≠ b by omega), hplace]
      exact ite_congr (propext (by omega)) (fun _ => rfl) (fun _ => rfl)

/-- A run of bytes read is the bytes at its addresses. -/
theorem memBytes_eq_map (m : List Host.Cell) (a n : Nat) : memBytes m a n = (List.range n).map fun i => memByte m (a + i) := by
  induction n generalizing a with
  | zero => rfl
  | succ n ih =>
    rw [memBytes, ih, List.range_succ_eq_map, List.map_cons, List.map_map]
    exact congrArg _ (List.map_congr_left fun i _ => by rw [Function.comp, Nat.add_right_comm]; rfl)

/-- A run of bytes written reads back whole. -/
theorem memBytes_memPuts (m : List Host.Cell) (a : Nat) (bs : List Byte) : memBytes (memPuts m a bs) a bs.length = bs := by
  rw [memBytes_eq_map]
  refine List.ext_getElem (by simp) fun i _ hi => ?_
  have hin : a ≤ a + i ∧ a + i < a + bs.length := by omega
  rw [List.getElem_map, List.getElem_range, memByte_memPuts_eq, if_pos hin, Nat.add_sub_cancel_left,
    List.getD_eq_getElem?_getD, List.getElem?_eq_getElem hi, Option.getD_some]

/-- Settles O6: the bytes of a run by their place in it, the whole run from its bytes, and the form byte by byte. -/
theorem memoryLaws : Obligations.MemoryLaws :=
  fun m a bs => ⟨memByte_memPuts_eq bs m a, memBytes_memPuts m a bs, memPuts_wf bs m a⟩

/-! ### The step and its command -/

/-- Settles O1: a step is `exec` of the front of the queue, and an empty queue idles. -/
theorem stepTakesFront : Obligations.StepTakesFront := by
  refine ⟨fun c q s => rfl, fun s hempty => ?_⟩
  simp only [step, hempty]

/-- Settles O2: every command is an operation at its tick, and what follows every command gives the queue back. -/
theorem everyCommandAnswers : Obligations.EveryCommandAnswers := by
  intro c s
  obtain ⟨t, f, hf⟩ := exec_does c s
  exact ⟨(f (s.atTick t)).after s, hf, after_pending _ s⟩

end Sys2Proof.Machine
end

section
/-!
CERTIFICATE. The colour loop: its cycle and its command register (O51).
-/
namespace Sys2Proof.Machine

/-! ### What a cycle leaves: the loop of the job goes on (R482) -/

/-- What keeps `inner` keeps whether the loop runs. -/
theorem loopOn_of_inner {s t : State} (h : t.inner = s.inner) : t.loop.on = s.loop.on := congrArg (·.loop.on) h

theorem loopOn_each {α : Type} {f : State → α → State} (h : ∀ s a, (f s a).loop.on = s.loop.on) (s : State) (l : List α) :
    (State.each f s l).loop.on = s.loop.on := by
  rw [each_eq_foldl]
  exact foldl_keeps (p := (·.loop.on)) l (fun s a _ => h s a) s

@[simp] theorem loopOn_tileSend (s : State) (n type sub dest : Nat) (pl : List Byte) :
    (s.tileSend n type sub dest pl).loop.on = s.loop.on := by
  have hout (f : List Byte) : (s.tileOut n f).loop.on = s.loop.on := by simp only [State.tileOut]; split <;> rfl
  simp only [State.tileSend]
  split
  · exact (loopOn_of_inner (inner_twinSend _ _)).trans (hout _)
  · exact hout _

@[simp] theorem loopOn_sendFactors (s : State) (b t r col n : Nat) (apply : Int) (immed : Bool) :
    (s.sendFactors b t r col n apply immed).loop.on = s.loop.on := by
  simp only [State.sendFactors, State.tileSendOpen]
  split
  · exact loopOn_tileSend _ _ _ _ _ _
  · rfl

@[simp] theorem loopOn_sendFactor (s : State) (b idx : Nat) (apply : Int) :
    (s.sendFactor b idx apply).loop.on = s.loop.on := by
  simp only [State.sendFactor]
  split
  · exact loopOn_sendFactors _ _ _ _ _ _ _ _
  · rfl

@[simp] theorem loopOn_factorChanged (s : State) (b idx : Nat) : (s.factorChanged b idx).loop.on = s.loop.on := by
  simp only [State.factorChanged, State.factorNow, State.factorFrom]
  repeat' split
  all_goals first | rfl | simp

/-- A nozzle write leaves the loop (R302, R587). -/
@[simp] theorem loopOn_nozApply (s : State) (b idx mask bits : Nat) : (s.nozApply b idx mask bits).loop.on = s.loop.on := by
  simp only [State.nozApply]
  repeat' split
  · rfl
  · rfl
  · exact loopOn_factorChanged _ _ _

@[simp] theorem loopOn_sendDelta (s : State) (d : Delta) : (s.sendDelta d).loop.on = s.loop.on :=
  loopOn_of_inner (inner_sendDelta s d)

@[simp] theorem loopOn_nozWrite (s : State) (b idx mask bits : Nat) : (s.nozWrite b idx mask bits).loop.on = s.loop.on := by
  simp only [State.nozWrite]
  repeat' split
  all_goals simp only [loopOn_sendDelta, loopOn_nozApply, setBarRast_fields]

@[simp] theorem loopOn_engineWrite (s : State) (b idx mask bits : Nat) :
    (s.engineWrite b idx mask bits).2.loop.on = s.loop.on := by
  simp only [State.engineWrite]
  split <;> exact loopOn_nozWrite _ _ _ _ _

@[simp] theorem loopOn_append (s : State) (b : Nat) (bs : List Byte) : (s.append b bs).loop.on = s.loop.on :=
  loopOn_of_inner (by simp only [State.append, inner_tap, inner_stream, inner_appendRaw])

@[simp] theorem loopOn_spillOne (s : State) (r : SpillRing) : (s.spillOne r).loop.on = s.loop.on := by
  simp only [State.spillOne]
  repeat' split
  all_goals simp only [setRing_fields, loopOn_append]

@[simp] theorem loopOn_spillSync (s : State) (r : SpillRing) : (s.spillSync r).loop.on = s.loop.on := by
  simp only [State.spillSync]
  split <;> simp only [setRing_fields]

/-- A record enters its ring, and may be spilled to a basin (R96, R500). -/
@[simp] theorem loopOn_ringPut (s : State) (r : SpillRing) (e : List Byte) : (s.ringPut r e).loop.on = s.loop.on := by
  simp only [State.ringPut, loopOn_spillOne, loopOn_spillSync, setRing_fields]
  split <;> simp only [inc_fields]

@[simp] theorem loopOn_loopRecordOut (s : State) (b kind k : Nat) (body : List Byte) :
    (s.loopRecordOut b kind k body).loop.on = s.loop.on := by
  simp only [State.loopRecordOut]
  repeat' split
  all_goals simp only [raise_fields, loopOn_ringPut]

@[simp] theorem loopOn_promote (m : CycleAcc) (k b g r : Nat) (out : Bool) (e : Int) (idxs : List Nat) :
    (m.promote k b g r out e idxs).st.loop.on = m.st.loop.on := by
  simp only [CycleAcc.promote]
  split
  · rfl
  · rw [loopOn_loopRecordOut]
    exact loopOn_each (fun s i => by simp) _ _

/-- A cell's cycle draws a free value, writes nozzles and the cell, and may promote (R491 to R495). -/
@[simp] theorem loopOn_correct (m : CycleAcc) (k b g r d n : Nat) : (m.correct k b g r d n).st.loop.on = m.st.loop.on := by
  unfold CycleAcc.correct
  extract_lets +lift s key x e step dead acc0
  generalize hsum : @ite (Int × State) dead _ _ _ = sum
  obtain ⟨acc1, s1⟩ := sum
  have hdraw : s1.loop.on = s.loop.on := by
    revert hsum
    split
    · rintro ⟨⟩; rfl
    · split <;> · rintro ⟨⟩; rfl
  dsimp -zeta only
  extract_lets +lift δ
  dsimp -zeta only
  extract_lets +lift nozs news change atLim s2 weak out auto promN goOut goWeak lim cell s3 m1
  have hwrite : s2.loop.on = s1.loop.on := by
    simp only [s2]
    split
    · exact loopOn_each (fun z q => loopOn_engineWrite _ _ _ _ _) _ _
    · rfl
  have hst : m1.st.loop.on = s.loop.on := hwrite.trans hdraw
  split
  · exact (loopOn_promote _ _ _ _ _ _ _ _).trans hst
  · split
    · exact (loopOn_promote _ _ _ _ _ _ _ _).trans hst
    · exact hst

/-- What every cell of a cycle keeps, the cycle keeps (R490). -/
theorem loopOn_cells {f : CycleAcc → Nat → CycleAcc} (h : ∀ m i, (f m i).st.loop.on = m.st.loop.on) (l : List Nat)
    (m : CycleAcc) : (l.foldl f m).st.loop.on = m.st.loop.on := by
  induction l generalizing m with
  | nil => rfl
  | cons i t ih => rw [List.foldl_cons, ih, h]

@[simp] theorem loopOn_learned (s : State) (k b : Nat) : (s.learned k b).loop.on = s.loop.on := by
  simp only [State.learned, loopOn_loopRecordOut, raise_fields]
  split
  · rw [loopOn_each]
    · rfl
    · exact fun _ _ => rfl
  · rfl

@[simp] theorem loopOn_loopStatus (s : State) : s.loopStatus.loop.on = s.loop.on := rfl

@[simp] theorem loopOn_raise (s : State) (pg flag d : Nat) : (s.raise pg flag d).loop.on = s.loop.on := rfl

@[simp] theorem loopOn_setLoopBar (s : State) (b : Nat) (x : LoopBar) : (s.setLoopBar b x).loop.on = s.loop.on := rfl

@[simp] theorem loopOn_learn (m : CycleAcc) (b g r d n : Nat) : (m.learn b g r d n).st.loop.on = m.st.loop.on := rfl

@[simp] theorem loopOn_runCycle (s : State) (j : Job) (k b : Nat) : (s.runCycle j k b).loop.on = s.loop.on := by
  simp only [State.runCycle, loopOn_loopStatus]
  rw [apply_ite State.loop, apply_ite LoopS.on, loopOn_learned, ite_self, loopOn_loopRecordOut, loopOn_raise,
    loopOn_setLoopBar, loopOn_cells]
  intro m i
  split
  · rfl
  · split
    · exact loopOn_learn _ _ _ _ _ _
    · exact loopOn_correct _ _ _ _ _ _ _

/-- A correction cycle leaves the loop running. -/
@[simp] theorem loopOn_loopCycle (s : State) (b : Nat) : (s.loopCycle b).loop.on = s.loop.on := by
  have hprune (z : State) (k : Nat) : (z.pruneStrips k).loop.on = z.loop.on := rfl
  simp only [State.loopCycle]
  repeat' split
  all_goals simp only [hprune, loopOn_loopRecordOut, loopOn_runCycle, State.setLoop]

theorem loopOn_cyclesFirst (s : State) : s.cyclesFirst.loop.on = s.loop.on :=
  loopOn_each loopOn_loopCycle _ _

/-! ### The cycle of a bar (R490, R498, R500) -/

section Cycle
variable {s : State} {b k : Nat} {j : Job}

/-- The one strip due is taken: it leaves a record of kind 5, or runs its cycle unless the loop is held. -/
theorem loopCycle_due (hj : s.jobs.cur = some j) (hdue : s.loop.due = [(k, b)]) :
    s.loopCycle b =
      (let y := s.loopStrip k b
       let z := s.setLoop { s.loop with due := [] }
       let z := if y.good = 0 then z.loopRecordOut b 5 k (leBytes y.disc.length 2 ++ leBytes y.stale 2 ++ zeros 2)
         else if s.loopBlocked then z else z.runCycle j k b
       if z.loop.due.any (fun e => decide (e.1 ≤ k)) then z else z.pruneStrips k) := by
  have hfind : (s.loop.due.find? fun e => e.2 == b) = some (k, b) := by simp [hdue]
  have hrest : (s.loop.due.filter fun e => decide (e ≠ (k, b))) = [] := by simp [hdue]
  simp only [State.loopCycle, hj, hfind, hrest]
  rfl

theorem loopCycle_runs (hj : s.jobs.cur = some j) (hdue : s.loop.due = [(k, b)]) (hopen : s.loopBlocked = false)
    (hgood : (s.loopStrip k b).good ≠ 0) :
    s.loopCycle b =
      (let z := (s.setLoop { s.loop with due := [] }).runCycle j k b
       if z.loop.due.any (fun e => decide (e.1 ≤ k)) then z else z.pruneStrips k) := by
  simp only [loopCycle_due hj hdue, if_neg hgood, hopen, Bool.false_eq_true, if_false]

theorem loopCycle_held (hj : s.jobs.cur = some j) (hdue : s.loop.due = [(k, b)]) (hheld : s.loopBlocked = true)
    (hgood : (s.loopStrip k b).good ≠ 0) :
    s.loopCycle b = (s.setLoop { s.loop with due := [] }).pruneStrips k := by
  simp only [loopCycle_due hj hdue, if_neg hgood, hheld, if_true]
  rfl

theorem loopCycle_nothingGood (hj : s.jobs.cur = some j) (hdue : s.loop.due = [(k, b)])
    (hgood : (s.loopStrip k b).good = 0) :
    s.loopCycle b =
      (let y := s.loopStrip k b
       let z := (s.setLoop { s.loop with due := [] }).loopRecordOut b 5 k
         (leBytes y.disc.length 2 ++ leBytes y.stale 2 ++ zeros 2)
       if z.loop.due.any (fun e => decide (e.1 ≤ k)) then z else z.pruneStrips k) := by
  simp only [loopCycle_due hj hdue, if_pos hgood]

end Cycle

/-! ### LOOP_CMD (R489, R493) -/

/-- A bit other than the command bit stays 0. -/
theorem bitOf_withBit_other {v : Word} {f : Fld} {c : Nat} (h : bitOf v.toNat c = false) (hne : c ≠ f.lo) (hf : f.lo < 32) :
    bitOf (withBit v f).toNat c = false := by
  rw [bitOf_withBit_eq v f c hf, h, decide_eq_false hne, Bool.or_false]

/-- The register LOOP_CMD. -/
theorem findReg_loopCmd : ∃ d i, findReg PageKind.loop.regs R.LOOP_CMD.off = some (d, i) ∧ d.off = R.LOOP_CMD.off :=
  ⟨_, _, rfl, rfl⟩

/-- What an accepted write of LOOP_CMD does once the register is stored: the cycles of the tick that a command waits for
(R501), then RELEARN, RESETINT and REBASE. -/
def State.loopCmd (s : State) (v : Nat) : State :=
  let s := if v % 16 < 2 then s else s.cyclesFirst
  let s := if bitOf v 1 then s.loopRelearn else s
  let s := if bitOf v 2 then s.loopResetInt else s
  if bitOf v 3 then s.rebase else s

section Commands
variable {u : State} {m : Master} {v : Word} (h : u.accepts m (fieldAddr pgLOOP R.LOOP_CMD) .loop 0 = true)
include h

theorem regCmd_loopCmd :
    u.regCmd m pgLOOP R.LOOP_CMD v =
      ((u.stored pgLOOP R.LOOP_CMD v).loopCmd v.toNat).acceptedBy u m .loop 0 (fieldAddr pgLOOP R.LOOP_CMD) v := by
  obtain ⟨d, i, hf, hd⟩ := findReg_loopCmd
  refine regCmd_stored (g := (·.loopCmd v.toNat)) h (by decide) (by decide) (by decide) hf ?_
  simp only [State.writeBlock, State.writeLoop, State.loopCmd, hd, if_true]

omit h in
/-- A value with one of the three command bits lets the cycles of the tick go first. -/
theorem loopCmd_cyclesFirst {v c : Nat} (hc : bitOf v c = true) (h1 : 1 ≤ c) (h3 : c ≤ 3) : ¬ v % 16 < 2 := by
  simp only [bitOf, beq_iff_eq] at hc
  obtain rfl | rfl | rfl : c = 1 ∨ c = 2 ∨ c = 3 := by omega
  all_goals omega

/-- RELEARN alone: learning starts anew on the bars of the running loop (R489). -/
theorem regCmd_relearn (hon : u.loop.on = true) (h2 : bitOf v.toNat 2 = false) (h3 : bitOf v.toNat 3 = false) :
    u.regCmd m pgLOOP R.LOOP_CMD (withBit v R.LOOP_CMD_RELEARN) =
      (let w := withBit v R.LOOP_CMD_RELEARN
       let z := (u.stored pgLOOP R.LOOP_CMD w).cyclesFirst
       (((State.each State.learnBar z z.loop.bars).clearLearn z.loop.bars).loopStatus).acceptedBy u m .loop 0
         (fieldAddr pgLOOP R.LOOP_CMD) w) := by
  have hb1 : bitOf (withBit v R.LOOP_CMD_RELEARN).toNat 1 = true := bitOf_withBit v R.LOOP_CMD_RELEARN (by decide)
  have hb2 : bitOf (withBit v R.LOOP_CMD_RELEARN).toNat 2 = false :=
    bitOf_withBit_other h2 (by decide) (by decide)
  have hb3 : bitOf (withBit v R.LOOP_CMD_RELEARN).toNat 3 = false :=
    bitOf_withBit_other h3 (by decide) (by decide)
  have hrun : (u.stored pgLOOP R.LOOP_CMD (withBit v R.LOOP_CMD_RELEARN)).cyclesFirst.loop.on = true :=
    (loopOn_cyclesFirst _).trans hon
  simp only [regCmd_loopCmd h, State.loopCmd, State.loopRelearn, hb1, hb2, hb3, hrun,
    if_neg (loopCmd_cyclesFirst hb1 (by decide) (by decide)), Bool.false_eq_true, if_true, if_false]

/-- RESETINT alone: every acc becomes 0 (R493). -/
theorem regCmd_resetInt (h1 : bitOf v.toNat 1 = false) (h3 : bitOf v.toNat 3 = false) :
    u.regCmd m pgLOOP R.LOOP_CMD (withBit v R.LOOP_CMD_RESETINT) =
      ((u.stored pgLOOP R.LOOP_CMD (withBit v R.LOOP_CMD_RESETINT)).cyclesFirst.loopResetInt).acceptedBy u m .loop 0
        (fieldAddr pgLOOP R.LOOP_CMD) (withBit v R.LOOP_CMD_RESETINT) := by
  have hb1 : bitOf (withBit v R.LOOP_CMD_RESETINT).toNat 1 = false :=
    bitOf_withBit_other h1 (by decide) (by decide)
  have hb2 : bitOf (withBit v R.LOOP_CMD_RESETINT).toNat 2 = true := bitOf_withBit v R.LOOP_CMD_RESETINT (by decide)
  have hb3 : bitOf (withBit v R.LOOP_CMD_RESETINT).toNat 3 = false :=
    bitOf_withBit_other h3 (by decide) (by decide)
  simp only [regCmd_loopCmd h, State.loopCmd, hb1, hb2, hb3, if_neg (loopCmd_cyclesFirst hb2 (by decide) (by decide)),
    Bool.false_eq_true, if_true, if_false]

/-- REBASE alone: the TRIM in force of every nozzle becomes its base (R493). -/
theorem regCmd_loopRebase (h1 : bitOf v.toNat 1 = false) (h2 : bitOf v.toNat 2 = false) :
    u.regCmd m pgLOOP R.LOOP_CMD (withBit v R.LOOP_CMD_REBASE) =
      ((u.stored pgLOOP R.LOOP_CMD (withBit v R.LOOP_CMD_REBASE)).cyclesFirst.rebase).acceptedBy u m .loop 0
        (fieldAddr pgLOOP R.LOOP_CMD) (withBit v R.LOOP_CMD_REBASE) := by
  have hb1 : bitOf (withBit v R.LOOP_CMD_REBASE).toNat 1 = false :=
    bitOf_withBit_other h1 (by decide) (by decide)
  have hb2 : bitOf (withBit v R.LOOP_CMD_REBASE).toNat 2 = false :=
    bitOf_withBit_other h2 (by decide) (by decide)
  have hb3 : bitOf (withBit v R.LOOP_CMD_REBASE).toNat 3 = true := bitOf_withBit v R.LOOP_CMD_REBASE (by decide)
  simp only [regCmd_loopCmd h, State.loopCmd, hb1, hb2, hb3, if_neg (loopCmd_cyclesFirst hb3 (by decide) (by decide)),
    Bool.false_eq_true, if_true, if_false]

end Commands

/-- Settles O51: a cycle by what its strip and the hold say, and LOOP_CMD by its command bit. -/
theorem colourLoop : Obligations.ColourLoop := by
  refine ⟨?runs, ?held, ?nothingGood, ?relearn, ?resetInt, ?rebase⟩
  case runs =>
    exact fun b j k => runs_of (f := (·.loopCycle b.val)) (fun _ _ => rfl)
      fun u ⟨hj, hdue, hopen, hgood⟩ => loopCycle_runs hj hdue hopen hgood
  case held =>
    exact fun b j k => runs_of (f := (·.loopCycle b.val)) (fun _ _ => rfl)
      fun u ⟨hj, hdue, hheld, hgood⟩ => loopCycle_held hj hdue hheld hgood
  case nothingGood =>
    exact fun b j k => runs_of (f := (·.loopCycle b.val)) (fun _ _ => rfl)
      fun u ⟨hj, hdue, hgood⟩ => loopCycle_nothingGood hj hdue hgood
  case relearn =>
    exact fun m v h2 h3 => runs_of (f := (·.regCmd m pgLOOP R.LOOP_CMD (withBit v R.LOOP_CMD_RELEARN))) (fun _ _ => rfl)
      fun u ⟨h, hon⟩ => regCmd_relearn h hon h2 h3
  case resetInt =>
    exact fun m v h1 h3 => runs_of (f := (·.regCmd m pgLOOP R.LOOP_CMD (withBit v R.LOOP_CMD_RESETINT))) (fun _ _ => rfl)
      fun u h => regCmd_resetInt h h1 h3
  case rebase =>
    exact fun m v h1 h2 => runs_of (f := (·.regCmd m pgLOOP R.LOOP_CMD (withBit v R.LOOP_CMD_REBASE))) (fun _ _ => rfl)
      fun u h => regCmd_loopRebase h h1 h2

end Sys2Proof.Machine
end

section
/-!
CERTIFICATE. Command slots of the DRAM, refresh, retraining and scrub reads (O53).
-/
namespace Sys2Proof.Machine

section Slots
variable {s : State} {n : Nat} {wr rd : List Nat}

theorem now_setSc (s : State) (n : Nat) (x : DramSc) : (s.setSc n x).now = s.now := by
  simp only [State.now, State.setSc, State.scRegs, wr_fields, setDram_fields]

/-! ### Command slots (R537, R540, R541, R543) -/

/-- A slot that must refresh: in recovery, or with the debt at its limit (R540, R541). -/
theorem commandSlot_forced (h0 : s.scState n ≠ 0) (h3 : s.scState n ≠ 3) (hbusy : (s.sc n).busy ≤ s.now)
    (hmust : s.scRecov n = true ∨ s.debtMax ≤ (s.sc n).debt) : s.commandSlot n wr rd = s.refresh n true := by
  have hb : (s.scRecov n || decide (s.debtMax ≤ (s.sc n).debt)) = true := by simpa using hmust
  simp only [State.commandSlot, h0, h3, Nat.not_lt.mpr hbusy, hb, or_self, if_true, if_false]

/-- A slot that need not refresh: the best transaction of a running subchannel, a refresh owed going before the lower
classes (R537). -/
theorem commandSlot_free (h0 : s.scState n ≠ 0) (h3 : s.scState n ≠ 3) (hbusy : (s.sc n).busy ≤ s.now)
    (hrecov : s.scRecov n = false) (hdebt : (s.sc n).debt < s.debtMax) :
    s.commandSlot n wr rd =
      match (if s.scState n = 2 then s.bestTxn n wr rd [] (s.sc n).queue none else none) with
      | some (i, key) => if 0 < (s.sc n).debt ∧ 5 < key / 2 then s.refresh n false else s.issue n i
      | none => if 0 < (s.sc n).debt then s.refresh n false else s := by
  simp only [State.commandSlot, h0, h3, Nat.not_lt.mpr hbusy, hrecov, decide_eq_false (Nat.not_le.mpr hdebt), or_self,
    Bool.or_self, Bool.false_eq_true, if_false] <;> rfl

theorem commandSlot_issue {i key : Nat} (h2 : s.scState n = 2) (hbusy : (s.sc n).busy ≤ s.now)
    (hrecov : s.scRecov n = false) (hdebt : (s.sc n).debt < s.debtMax)
    (hbest : s.bestTxn n wr rd [] (s.sc n).queue none = some (i, key)) (hclass : (s.sc n).debt = 0 ∨ key / 2 ≤ 5) :
    s.commandSlot n wr rd = s.issue n i := by
  have hno : ¬ (0 < (s.sc n).debt ∧ 5 < key / 2) := by omega
  simp only [commandSlot_free (by omega) (by omega) hbusy hrecov hdebt, h2, hbest, if_true, if_neg hno]

theorem commandSlot_owed (h2 : s.scState n = 2) (hbusy : (s.sc n).busy ≤ s.now) (hrecov : s.scRecov n = false)
    (howed : 0 < (s.sc n).debt) (hdebt : (s.sc n).debt < s.debtMax)
    (hbest : ∀ b ∈ s.bestTxn n wr rd [] (s.sc n).queue none, 5 < b.2 / 2) :
    s.commandSlot n wr rd = s.refresh n false := by
  rw [commandSlot_free (by omega) (by omega) hbusy hrecov hdebt, if_pos h2]
  split
  next i key hsome => exact if_pos ⟨howed, hbest _ hsome⟩
  next => exact if_pos howed

/-- In training and in a freeze a refresh owed goes out at any slot (R543). -/
theorem commandSlot_still (hst : s.scState n = 1 ∨ s.scState n = 4) (hbusy : (s.sc n).busy ≤ s.now)
    (hrecov : s.scRecov n = false) (howed : 0 < (s.sc n).debt) (hdebt : (s.sc n).debt < s.debtMax) :
    s.commandSlot n wr rd = s.refresh n false := by
  simp only [commandSlot_free (by omega) (by omega) hbusy hrecov hdebt, if_neg (show s.scState n ≠ 2 by omega),
    if_pos howed]

theorem refreshEnd_due (h0 : s.scState n ≠ 0) (hend : (s.sc n).intEnd ≤ s.now) :
    s.refreshEnd n = s.setSc n { s.sc n with
      debt := (s.sc n).debt + 1, intEnd := (s.sc n).intEnd + s.refInterval n } := by
  simp only [State.refreshEnd, h0, Nat.not_lt.mpr hend, or_self, if_false]

theorem idlePrecharge_due {b : Nat} (hopen : (mfind (s.sc n).rows b).isSome = true)
    (hidle : mget 0 (s.sc n).used b + ns (atLeast1 (s.rd pgDRAM R.DRAM_CTL_IDLE)) ≤ s.now) :
    s.idlePrecharge n b = s.setSc n { s.sc n with rows := merase (s.sc n).rows b } := by
  simp only [State.idlePrecharge, hopen, decide_eq_true hidle, Bool.and_self, if_true]

theorem scrubRead_due (hen : s.rdb pgDRAM R.DRAM_CTL_SCRUBEN = true) (hfrozen : s.frozenDram = false)
    (hst : 2 ≤ s.scState n)
    (hint : (s.sc n).scrubAt + us (atLeast1 (s.rd pgDRAM R.DRAM_SCRUB_INT)) / (if s.scDegraded n then 2 else 1) ≤ s.now) :
    s.scrubRead n =
      (let b := s.ownBlock n (s.sc n).scrub 16
       (s.setSc n { s.sc n with scrub := (b + 1) % 2 ^ 27, scrubAt := s.now }).enqueue
         { pa := b * 256, port := 10, bursts := 4, write := false, rmw := false, bar := 0, admitAt := s.now }) := by
  have hskip : (!s.rdb pgDRAM R.DRAM_CTL_SCRUBEN || s.frozenDram || decide (s.scState n < 2) || decide (s.now <
      (s.sc n).scrubAt + us (atLeast1 (s.rd pgDRAM R.DRAM_SCRUB_INT)) / (if s.scDegraded n then 2 else 1))) = false := by
    rw [hen, hfrozen, decide_eq_false (Nat.not_lt.mpr hst), decide_eq_false (Nat.not_lt.mpr hint)]; rfl
  rw [State.scrubRead, if_neg (Bool.eq_false_iff.mp hskip)]
  simp only [now_setSc]

end Slots

/-! ### Retraining (R546 to R548) -/

/-- The margins found at a step, written to DRAM_SCMARGIN. -/
def State.wrMargins (s : State) (n rd wr vref : Nat) : State :=
  ((s.wr (pgSC n) R.DRAM_SCMARGIN_RD rd).wr (pgSC n) R.DRAM_SCMARGIN_WR wr).wr (pgSC n) R.DRAM_SCMARGIN_VREF vref

/-- The margins leave the fields of every other register. -/
theorem rd_wrMargins (s : State) (n rd wr vref pg : Nat) (f : Fld) (h : pgSC n * 4096 + 0x4c ≠ pg * 4096 + f.off) :
    (s.wrMargins n rd wr vref).rd pg f = s.rd pg f :=
  (rd_wr_other _ _ R.DRAM_SCMARGIN_VREF _ _ _ h).trans
    ((rd_wr_other _ _ R.DRAM_SCMARGIN_WR _ _ _ h).trans (rd_wr_other _ _ R.DRAM_SCMARGIN_RD _ _ _ h))

theorem rd_wrMargins_ca (s : State) (n rd wr vref : Nat) :
    (s.wrMargins n rd wr vref).rd (pgSC n) R.DRAM_SCMARGIN_CA = s.rd (pgSC n) R.DRAM_SCMARGIN_CA := by
  have hbelow (z : State) (f : Fld) (v : Nat) (ho : f.off = R.DRAM_SCMARGIN_CA.off) (hf : f.lo + f.w ≤ 24) :
      (z.wr (pgSC n) f v).rd (pgSC n) R.DRAM_SCMARGIN_CA = z.rd (pgSC n) R.DRAM_SCMARGIN_CA :=
    rd_wr_apart z _ v ho (by decide) (Or.inr hf)
  rw [State.wrMargins, hbelow _ R.DRAM_SCMARGIN_VREF _ rfl (by decide), hbelow _ R.DRAM_SCMARGIN_WR _ rfl (by decide),
    hbelow _ R.DRAM_SCMARGIN_RD _ rfl (by decide)]

/-- A subchannel replaced changes DEBT and QDEPTH of its status and no other register. -/
theorem rd_setSc_other (s : State) (n : Nat) (x : DramSc) (pg : Nat) (f : Fld)
    (h : pgSC n * 4096 + 0x40 ≠ pg * 4096 + f.off) : (s.setSc n x).rd pg f = s.rd pg f :=
  (rd_wr_other _ _ R.DRAM_SCSTAT_QDEPTH _ _ _ h).trans (rd_wr_other _ _ R.DRAM_SCSTAT_DEBT _ _ _ h)

/-- A count leaves every other register. -/
theorem rd_inc_apart (s : State) (pg : Nat) (f : Fld) (q : Nat) (g : Fld) (h : pg * 4096 + f.off ≠ q * 4096 + g.off) :
    (s.inc pg f).rd q g = s.rd q g :=
  rd_wr_other s pg f _ q g h

/-- No register of a subchannel is one of the controller page. -/
theorem subchannel_ne_dram (n off : Nat) {f : Fld} (hf : f.off < 4096) : pgSC n * 4096 + off ≠ pgDRAM * 4096 + f.off := by
  simp only [pgSC, pgDRAM]; omega

/-- DEGRADED stands apart from the other fields of the status of its subchannel. -/
theorem scDegraded_wr (s : State) (n : Nat) (f : Fld) (v : Nat) (ho : f.off = R.DRAM_SCSTAT_DEGRADED.off)
    (h : 4 ≤ f.lo ∨ f.lo + f.w ≤ 3) : (s.wr (pgSC n) f v).scDegraded n = s.scDegraded n :=
  congrArg (· == 1) (rd_wr_apart s (pgSC n) (g := R.DRAM_SCSTAT_DEGRADED) v ho (by decide) h)

/-- The status of a subchannel after a step of a pause: DEGRADED and the configuration as before, the subchannel as set. -/
structure StepFrame (s t : State) (n : Nat) (x : DramSc) : Prop where
  sc : t.sc n = x
  degraded : t.scDegraded n = s.scDegraded n
  config : ∀ f : Fld, f.off < 4096 → t.rd pgDRAM f = s.rd pgDRAM f

/-- The end of a step that failed: the subchannel runs again, and RTFAIL counts. -/
theorem stepFrame_failed (s : State) (n rd wr vref : Nat) (x : DramSc) :
    StepFrame s ((((s.wrMargins n rd wr vref).setScState n 2).setSc n x).inc (pgSC n) R.DRAM_SCCNT_RTFAIL) n x where
  sc := by
    have hinc (z : State) : (z.inc (pgSC n) R.DRAM_SCCNT_RTFAIL).sc n = z.sc n := by simp only [State.sc, inc_fields]
    rw [hinc, sc_setSc, if_pos rfl]
  degraded := by
    have hstat (z : State) : ((z.setSc n x).inc (pgSC n) R.DRAM_SCCNT_RTFAIL).scDegraded n = z.scDegraded n := by
      have hcnt (y : State) : (y.inc (pgSC n) R.DRAM_SCCNT_RTFAIL).scDegraded n = y.scDegraded n :=
        congrArg (· == 1) (rd_inc_other y (pgSC n) (g := R.DRAM_SCSTAT_DEGRADED) (by decide))
      rw [hcnt, State.setSc, State.scRegs, scDegraded_wr _ n R.DRAM_SCSTAT_QDEPTH _ rfl (by decide),
        scDegraded_wr _ n R.DRAM_SCSTAT_DEBT _ rfl (by decide)]
      rfl
    have hmargins : (s.wrMargins n rd wr vref).scDegraded n = s.scDegraded n :=
      congrArg (· == 1) (rd_wrMargins s n rd wr vref (pgSC n) R.DRAM_SCSTAT_DEGRADED (by
        simp only [R.DRAM_SCSTAT_DEGRADED]; omega))
    rw [hstat, State.setScState, scDegraded_wr _ n R.DRAM_SCSTAT_SCSTATE _ rfl (by decide), hmargins]
  config := fun f hf => by
    rw [rd_inc_apart _ _ _ _ _ (subchannel_ne_dram n _ hf), rd_setSc_other _ _ _ _ _ (subchannel_ne_dram n _ hf),
      State.setScState, rd_wr_other _ _ _ _ _ _ (subchannel_ne_dram n _ hf),
      rd_wrMargins _ _ _ _ _ _ _ (subchannel_ne_dram n _ hf)]

section Retrain
variable {s : State} {n rd wr vref centre : Nat}

/-- A step whose pattern compared with every margin found moves the centre, and the pause goes on to its next step (R546,
R547). -/
theorem retrainDone_passed (h3 : s.scState n = 3) (hrecov : (s.sc n).recovAfter = false)
    (hfix : s.rdb (pgSC n) R.DRAM_TRNOVR_FIX = false) (hrd : s.rd pgDRAM R.DRAM_RETRAIN_MINMARGIN ≤ rd)
    (hwr : s.rd pgDRAM R.DRAM_RETRAIN_MINMARGIN ≤ wr) (hvref : s.rd pgDRAM R.DRAM_RETRAIN_MINMARGIN ≤ vref)
    (hca : s.rd pgDRAM R.DRAM_RETRAIN_MINMARGIN ≤ s.rd (pgSC n) R.DRAM_SCMARGIN_CA) :
    s.retrainDone n true rd wr vref centre =
      (let c := s.sc n
       ((s.wrMargins n rd wr vref).setScState n 2).setSc n { c with
         step := (c.step + 1) % 4, fails := 0, centres := mset 0 c.centres c.step centre, recovAfter := false }) := by
  have hmin := rd_wrMargins s n rd wr vref pgDRAM R.DRAM_RETRAIN_MINMARGIN (subchannel_ne_dram n _ (by decide))
  have hcaz := rd_wrMargins_ca s n rd wr vref
  have hfixz : (s.wrMargins n rd wr vref).rdb (pgSC n) R.DRAM_TRNOVR_FIX = false := by
    rw [State.rdb, rd_wrMargins _ _ _ _ _ _ _ (by simp only [R.DRAM_TRNOVR_FIX]; omega)]; exact hfix
  simp only [State.wrMargins] at hmin hcaz hfixz ⊢
  simp only [State.retrainDone, h3, hmin, hcaz, hfixz, hrecov, decide_eq_true hrd, decide_eq_true hwr, decide_eq_true hvref,
    decide_eq_true hca, ne_eq, not_true_eq_false, Bool.and_self, Bool.not_false, Bool.false_eq_true, if_true, if_false]

/-- A step whose pattern did not compare is counted, and repeated until the subchannel has no working setting (R547,
R548). -/
theorem retrainDone_failed (h3 : s.scState n = 3) (hrecov : (s.sc n).recovAfter = false) :
    s.retrainDone n false rd wr vref centre =
      (let c := s.sc n
       let y := (((s.wrMargins n rd wr vref).setScState n 2).setSc n { c with
         fails := c.fails + 1, recovAfter := false }).inc (pgSC n) R.DRAM_SCCNT_RTFAIL
       let most := atLeast1 (s.rd pgDRAM R.DRAM_RETRAIN_RETRYN)
       if c.fails + 1 = most ∨ (most < c.fails + 1 ∧ s.scDegraded n = false) then y.retrainFail n else y) := by
  obtain ⟨hsc, hdeg, hconfig⟩ := stepFrame_failed s n rd wr vref
    { s.sc n with fails := (s.sc n).fails + 1, recovAfter := false }
  have hretry := hconfig R.DRAM_RETRAIN_RETRYN (by decide)
  simp only [State.wrMargins] at hsc hdeg hretry ⊢
  simp only [State.retrainDone, h3, hrecov, ne_eq, not_true_eq_false, Bool.false_and, Bool.false_eq_true, if_false]
  simp only [hsc, hdeg, hretry, Bool.or_eq_true, Bool.and_eq_true, decide_eq_true_eq, Bool.not_eq_true']

/-- A subchannel that loses its setting on a device that is not active is degraded, with flag 4 (R548). -/
theorem retrainFail_notActive (h : s.isActive = false) :
    s.retrainFail n = (s.setDegraded n true).raise pgDRAM 4 n := by
  have hact : ((s.setDegraded n true).raise pgDRAM 4 n).isActive = false := h
  simp only [State.retrainFail, hact, Bool.false_eq_true, if_false]

end Retrain

/-- Settles O53: a slot by the state and debt of its subchannel, a step of a pause by whether it passes, and the intervals. -/
theorem dramSlots : Obligations.DramSlots := by
  refine ⟨?forced, ?issue, ?owed, ?still, ?interval, ?idle, ?passed, ?failed, ?noSetting, ?scrub⟩
  case forced =>
    exact fun sc wr rd => runs_of (f := (·.commandSlot sc.val wr rd)) (fun _ _ => rfl)
      fun u ⟨h0, h3, hbusy, hmust⟩ => commandSlot_forced h0 h3 hbusy hmust
  case issue =>
    exact fun sc wr rd i key => runs_of (f := (·.commandSlot sc.val wr rd)) (fun _ _ => rfl)
      fun u ⟨h2, hbusy, hrecov, hdebt, hbest, hclass⟩ => commandSlot_issue h2 hbusy hrecov hdebt hbest hclass
  case owed =>
    exact fun sc wr rd => runs_of (f := (·.commandSlot sc.val wr rd)) (fun _ _ => rfl)
      fun u ⟨h2, hbusy, hrecov, howed, hdebt, hbest⟩ => commandSlot_owed h2 hbusy hrecov howed hdebt hbest
  case still =>
    exact fun sc wr rd => runs_of (f := (·.commandSlot sc.val wr rd)) (fun _ _ => rfl)
      fun u ⟨hst, hbusy, hrecov, howed, hdebt⟩ => commandSlot_still hst hbusy hrecov howed hdebt
  case interval =>
    exact fun sc => runs_of (f := (·.refreshEnd sc.val)) (fun _ _ => rfl) fun u ⟨h0, hend⟩ => refreshEnd_due h0 hend
  case idle =>
    exact fun sc b => runs_of (f := (·.idlePrecharge sc.val b.val)) (fun _ _ => rfl)
      fun u ⟨hopen, hidle⟩ => idlePrecharge_due hopen hidle
  case passed =>
    exact fun sc rd wr vref centre =>
      runs_of (f := (·.retrainDone sc.val true rd.toNat wr.toNat vref.toNat centre.toNat)) (fun _ _ => rfl)
        fun u ⟨h3, hrecov, hfix, hrd, hwr, hvref, hca⟩ => retrainDone_passed h3 hrecov hfix hrd hwr hvref hca
  case failed =>
    exact fun sc rd wr vref centre =>
      runs_of (f := (·.retrainDone sc.val false rd.toNat wr.toNat vref.toNat centre.toNat)) (fun _ _ => rfl)
        fun u ⟨h3, hrecov⟩ => retrainDone_failed h3 hrecov
  case noSetting => exact fun s n h => retrainFail_notActive h
  case scrub =>
    exact fun sc => runs_of (f := (·.scrubRead sc.val)) (fun _ _ => rfl)
      fun u ⟨hen, hfrozen, hst, hint⟩ => scrubRead_due hen hfrozen hst hint

end Sys2Proof.Machine
end

section
/-!
CERTIFICATE. Check channels: their taps, their configuration and their running values (O55).
-/
namespace Sys2Proof.Machine

/-! ### Feeding a channel (R559, R565 to R567) -/

section Feed
variable {s : State} {n inst : Nat} {byte : Byte}

/-- A channel without units: the byte goes through its one context (R559). -/
theorem chkFeed_running (hn : n < 16) (hmode : s.rdb pgCHK (R.CHK_CFG_MODE n) = false) :
    s.chkFeed n inst [byte] false false none =
      ([], s.setChkCtx n 0 { s.chkCtx n 0 with
        r := chkByte (s.chkWidth n) (s.chkPoly n) (s.rdb pgCHK (R.CHK_CFG_REFIN n)) (s.chkCtx n 0).r byte,
        seenAt := s.now, seen := s.chkSeen (s.chkCtx n 0) ++ [(false, [byte])] }) := by
  simp only [State.chkFeed, if_neg (Nat.not_le.mpr hn), State.chkRun, hmode, Bool.false_and, Bool.not_false,
    Bool.false_eq_true, if_true, if_false, chkBytes, List.foldl]

/-- A unit of one byte that ends with another value than expected: a mismatch, flagged and counted (R566, R567). -/
theorem chkFeed_mismatch {e : Nat} (hn : n < 16) (hmode : s.rdb pgCHK (R.CHK_CFG_MODE n) = true)
    (hquiet : s.rdb pgCHK (R.CHK_CFG_UNITEV n) = false) {r f : Nat}
    (hr : r = chkByte (s.chkWidth n) (s.chkPoly n) (s.rdb pgCHK (R.CHK_CFG_REFIN n)) (s.chkStart n) byte)
    (hf : f = chkFinal (s.chkWidth n) (s.rdb pgCHK (R.CHK_CFG_REFOUT n)) (s.rdb pgCHK (R.CHK_CFG_INV n)) r)
    (hne : f ≠ e) :
    s.chkFeed n inst [byte] true true (some e) =
      ([(0, n * 256 + inst)], (s.setChkCtx n 0 {
        r := r, res := f, units := ((s.chkCtx n 0).units + 1) % 2 ^ 32, mis := true, unit := false, seenAt := s.now,
        seen := s.chkSeen (s.chkCtx n 0) ++ [(true, [byte])] }).inc pgCHK R.CHK_MISCNT) := by
  subst hr
  simp only [State.chkFeed, if_neg (Nat.not_le.mpr hn), State.chkRun, hmode, hquiet, Bool.and_self, Bool.or_true,
    Bool.not_true, Bool.false_eq_true, if_true, if_false, chkBytes, List.foldl, ← hf, bne_iff_ne.mpr hne,
    List.append_nil]

end Feed

/-! ### Writing a running value (R573) -/

section Rewrite
variable {s : State} {n c : Nat}

/-- A value written in a tick without bytes of its own stands. -/
theorem chkRewrite_unseen (v : Nat) (h : (s.chkCtx n c).seenAt ≠ s.now) :
    s.chkRewrite n c v = s.setChkCtx n c { s.chkCtx n c with r := v % 2 ^ s.chkWidth n } := by
  simp only [State.chkRewrite, State.chkSeen, if_neg h, List.foldl]

/-- The byte of the tick is applied to the value written. -/
theorem chkRewrite_seen (v : Nat) {byte : Byte} (h : (s.chkCtx n c).seenAt = s.now)
    (hseen : (s.chkCtx n c).seen = [(false, [byte])]) :
    s.chkRewrite n c v = s.setChkCtx n c { s.chkCtx n c with
      r := chkByte (s.chkWidth n) (s.chkPoly n) (s.rdb pgCHK (R.CHK_CFG_REFIN n)) (v % 2 ^ s.chkWidth n) byte } := by
  simp only [State.chkRewrite, State.chkSeen, if_pos h, hseen, State.chkRun, chkBytes, List.foldl, Bool.and_false,
    Bool.false_eq_true, if_false]

end Rewrite

/-- The running value of a channel without contexts, written through its mailbox item (R573). -/
theorem mbxWrite_chkValue {u : State} {m : Master} {n : Nat} (value : BitVec 128) (hn : n < 16)
    (h : u.takes m (headAddr pgCHK 0x20) .chk 0 = true) :
    u.mbxWrite m pgCHK (4 * n + 2) value.toNat =
      (let z := u.mbxLoaded m pgCHK value.toNat
       let y := z.chkRewrite n 0 (value.toNat % 2 ^ 64)
       y.setMbx pgCHK m ((z.mbx pgCHK m).done (4 * n + 2) true (z.mbx pgCHK m).data)) := by
  have hdata : ((u.mbxLoaded m pgCHK value.toNat).mbx pgCHK m).data.toNat = value.toNat :=
    (mbxLoaded_data u m pgCHK _).trans (Nat.mod_eq_of_lt value.isLt)
  have hplace : chkItem (4 * n + 2) = (n, 0) := by
    rw [chkItem, if_pos (by omega), show (4 * n + 2) / 4 = n by omega]
  have hres (z : State) : z.chkRefused n = false := by
    rw [State.chkRefused, State.chkReserved, decide_eq_false (Nat.not_le.mpr hn), Bool.false_and]
  have hvalue : ¬ (4 * n + 2 < 80 ∧ (4 * n + 2) % 4 ≤ 1) := by omega
  have hitem (z : State) (v : Nat) : z.itemWrite .chk 0 (4 * n + 2) v = (true, z.chkRewrite n 0 (v % 2 ^ 64)) := by
    simp only [State.itemWrite, hplace, hres, if_neg hvalue, Bool.false_eq_true, if_false]
  have huse (z : State) : z.itemUse .chk (4 * n + 2) = .readWrite := by
    rw [State.itemUse, if_pos (by omega), if_neg (by omega)]
  have hplain : itemPriv .chk (4 * n + 2) = false := by
    simp only [itemPriv, inRun, Bool.or_eq_false_iff, Bool.and_eq_false_iff, decide_eq_false_iff_not]
    omega
  rw [mbxWrite_done rfl (by omega) hplain h (Or.inr (huse _)) (by rw [hitem])]
  simp only [State.mbxDone, State.mbxShown, huse, hdata, hitem, reduceCtorEq, if_false]

/-! ### CHK_CFG (R562, R570, R571) -/

/-- The CHK_CFG registers of the CHK page. -/
theorem findReg_chkCfg (n : Fin 20) : ∃ d, findReg PageKind.chk.regs (R.CHK_CFG n.val).off = some (d, n.val) ∧
    d.off = 0x100 := by
  refine ⟨⟨0x100, 20, 8, .imm, 0x1df, 0x307ff, 0x0, 0x0, 0x7000⟩, ?_, rfl⟩
  revert n
  decide

/-- A field of a value with a bit set above it. -/
theorem bitsOf_withBit_below (v : Word) (f : Fld) {lo w : Nat} (h : lo + w ≤ f.lo) (hf : f.lo < 32) :
    bitsOf (withBit v f).toNat lo w = bitsOf v.toNat lo w := by
  apply Nat.eq_of_testBit_eq
  intro i
  simp only [bitsOf, Nat.testBit_mod_two_pow, Nat.testBit_div_two_pow]
  by_cases hi : i < w
  · have hne : i + lo ≠ f.lo := by omega
    rw [← bitOf_eq_testBit, bitOf_withBit_eq v f _ hf, decide_eq_false hne, Bool.or_false, bitOf_eq_testBit]
  · rw [decide_eq_false hi, Bool.false_and, Bool.false_and]

/-- A channel that is not enabled takes every configuration (R570). -/
theorem chkLocked_disabled {s : State} {n : Nat} (h : s.rdb pgCHK (R.CHK_CFG_EN n) = false) (v : Nat) :
    s.chkLocked n v = false := by
  have hen : bitOf (s.rd pgCHK (R.CHK_CFG n)) 16 = s.rdb pgCHK (R.CHK_CFG_EN n) := by
    simp only [bitOf, State.rdb, State.rd, bitsOf, R.CHK_CFG, R.CHK_CFG_EN, Nat.pow_zero, Nat.div_one, Nat.pow_one]
    congr 1
    omega
  simp only [State.chkLocked, hen, h, Bool.false_and]

section Config
variable {u : State} {m : Master} {n : Fin 20} {v : Word}
  (h : u.accepts m (fieldAddr pgCHK (R.CHK_CFG n.val)) .chk 0 = true) (hfree : u.chkReserved n.val = false)
  (hoff : u.rdb pgCHK (R.CHK_CFG_EN n.val) = false)
include h hfree hoff

/-- An accepted write of CHK_CFG configures a channel that is not enabled. -/
theorem regCmd_chkCfg : u.regCmd m pgCHK (R.CHK_CFG n.val) v =
    (u.chkConfig n.val v.toNat).acceptedBy u m .chk 0 (fieldAddr pgCHK (R.CHK_CFG n.val)) v := by
  obtain ⟨d, hd, hdoff⟩ := findReg_chkCfg n
  have hpage : pageOff (fieldAddr pgCHK (R.CHK_CFG n.val)) = (R.CHK_CFG n.val).off :=
    pageOff_fieldAddr pgCHK (by simp only [R.CHK_CFG]; omega)
  refine regWrite_accept h (by rw [hpage]; simp only [R.CHK_CFG]; omega) (hpage ▸ hd) (Or.inl rfl) ?_
  simp only [State.writeBlock, State.writeChk, hdoff, hfree, chkLocked_disabled hoff, Bool.or_self, Bool.false_eq_true,
    if_true, if_false, wrote]

/-- A preset without EN loads its model (R562). -/
theorem regCmd_chkPreset {lo a b : Nat} (hp : chkPreset (bitsOf v.toNat 12 3) = some (lo, a, b))
    (hen : bitOf v.toNat 16 = false) :
    u.regCmd m pgCHK (R.CHK_CFG n.val) v =
      (let w := setBits v.toNat 0 9 lo
       (((u.setChkPoly n.val a).setChkInit n.val b).wr pgCHK (R.CHK_CFG n.val)
         (bitsOf w 0 11 + bitsOf w 16 2 * 2 ^ 16)).acceptedBy u m .chk 0 (fieldAddr pgCHK (R.CHK_CFG n.val)) v) := by
  simp only [regCmd_chkCfg h hfree hoff, State.chkConfig, hp, hen, hoff, Bool.false_and, Bool.false_eq_true, if_false]

/-- EN without a preset and without KEEP starts the channel from INIT (R571). -/
theorem regCmd_chkEnable (hp : bitsOf v.toNat 12 3 = 0) (hkeep : bitOf v.toNat 17 = false) :
    u.regCmd m pgCHK (R.CHK_CFG n.val) (withBit v (R.CHK_CFG_EN n.val)) =
      (let w := withBit v (R.CHK_CFG_EN n.val)
       ((u.wr pgCHK (R.CHK_CFG n.val) (bitsOf w.toNat 0 11 + bitsOf w.toNat 16 2 * 2 ^ 16)).chkClear n.val).acceptedBy u m
         .chk 0 (fieldAddr pgCHK (R.CHK_CFG n.val)) w) := by
  have hnone : chkPreset (bitsOf (withBit v (R.CHK_CFG_EN n.val)).toNat 12 3) = none := by
    rw [bitsOf_withBit_below v (R.CHK_CFG_EN n.val) (show 12 + 3 ≤ 16 by decide) (show 16 < 32 by decide), hp]; rfl
  have hen : bitOf (withBit v (R.CHK_CFG_EN n.val)).toNat 16 = true :=
    bitOf_withBit v (R.CHK_CFG_EN n.val) (show 16 < 32 by decide)
  have hclear : bitOf (withBit v (R.CHK_CFG_EN n.val)).toNat 17 = false :=
    bitOf_withBit_other hkeep (show 17 ≠ 16 by decide) (show 16 < 32 by decide)
  simp only [regCmd_chkCfg h hfree hoff, State.chkConfig, hnone, hen, hclear, hoff, Bool.not_false, Bool.and_self,
    Bool.false_eq_true, if_true, if_false]

end Config

/-- Settles O55: a byte by the mode of its channel, a value written by the bytes of its tick, and CHK_CFG by its fields. -/
theorem checkChannels : Obligations.CheckChannels := by
  refine ⟨?tap, ?running, ?mismatch, ?unseen, ?seen, ?preset, ?enable, ?value⟩
  case tap =>
    exact fun src inst byte first last expected =>
      runs_of (f := (·.tap src.toNat inst.toNat [byte] first last (expected.map BitVec.toNat))) (fun _ _ => rfl)
        fun _ _ => rfl
  case running => exact fun s n inst byte hn hmode => chkFeed_running hn hmode
  case mismatch => exact fun s n inst e byte hn hmode hquiet hne => chkFeed_mismatch hn hmode hquiet rfl rfl hne
  case unseen => exact fun s n c v h => chkRewrite_unseen v h
  case seen => exact fun s n c v byte h hseen => chkRewrite_seen v h hseen
  case preset =>
    exact fun m n v lo a b hp hen => runs_of (f := (·.regCmd m pgCHK (R.CHK_CFG n.val) v)) (fun _ _ => rfl)
      fun u ⟨h, hfree, hoff⟩ => regCmd_chkPreset h hfree hoff hp hen
  case enable =>
    exact fun m n v hp hkeep =>
      runs_of (f := (·.regCmd m pgCHK (R.CHK_CFG n.val) (withBit v (R.CHK_CFG_EN n.val)))) (fun _ _ => rfl)
        fun u ⟨h, hfree, hoff⟩ => regCmd_chkEnable h hfree hoff hp hkeep
  case value =>
    refine fun m n value => runs_of (f := (·.mbxWrite m pgCHK (BitVec.ofNat 12 (4 * n.val + 2)).toNat value.toNat))
      (fun _ _ => rfl) fun u h => ?_
    rw [BitVec.toNat_ofNat, Nat.mod_eq_of_lt (show 4 * n.val + 2 < 2 ^ 12 by omega)]
    exact mbxWrite_chkValue value n.isLt h

end Sys2Proof.Machine
end

section
/-!
CERTIFICATE. Frames of the twin: the pair, summaries, DELTAs, FETCH, RELAY and ALIGN (O56).
-/
namespace Sys2Proof.Machine

/-! ### Receiving a frame (R575, R581) -/

theorem twinFrame_sound {s : State} (h : s.twinPowered = true) (f : State → State) : s.twinFrame true f = f s := by
  simp only [State.twinFrame, h, Bool.not_true, Bool.false_eq_true, if_true, if_false]

theorem twinFrame_crcBad {s : State} (h : s.twinPowered = true) (f : State → State) :
    s.twinFrame false f = s.inc pgTWIN R.TWIN_LINKERR_CRC := by
  simp only [State.twinFrame, h, Bool.not_true, Bool.false_eq_true, if_false]

/-- A command that takes a sound frame runs with what the unit makes of the frame. -/
theorem runs_of_frame {c : Tick → Instr} {cond : State → Prop} {eff f : State → State}
    (h : ∀ t s, exec (c t) s = s.does t (·.twinFrame true f)) (hp : ∀ u, cond u → u.twinPowered = true)
    (g : ∀ u, cond u → f u = eff u) : Runs c cond eff :=
  runs_of h fun u hu => (twinFrame_sound (hp u hu) f).trans (g u hu)

/-! ### Forming the pair (R582) -/

/-- An epoch that is not newer leaves the device's memory of epochs. -/
theorem sawEpoch_old {s : State} {e : Nat} (h : newerEpoch e s.twin.newest = false) : s.sawEpoch e = s := by
  simp only [State.sawEpoch, h, Bool.false_eq_true, if_false]

/-- TSTATE stands below the other fields of TWIN_STAT. -/
theorem twinState_wr (s : State) (f : Fld) (v : Nat) (ho : f.off = R.TWIN_STAT_TSTATE.off) (hf : 3 ≤ f.lo) :
    (s.wr pgTWIN f v).twinState = s.twinState :=
  rd_wr_apart s pgTWIN (g := R.TWIN_STAT_TSTATE) v ho (by decide) (Or.inl hf)

/-- What the other device says of itself has no part in the pair's configuration. -/
theorem pairCode_peerWord (s : State) (w : Word) (h : Hello) : (s.peerWord w).pairCode h = s.pairCode h := by
  have hstrap : (s.peerWord w).rdb pgSYS R.SYS_STRAP_ROLE_SEL = s.rdb pgSYS R.SYS_STRAP_ROLE_SEL :=
    congrArg (· == 1) (rd_wr_other _ _ R.TWIN_STAT_PEERROLE _ _ _ (by decide))
  simp only [State.pairCode, hstrap]
  rfl

section Hello
variable {s : State} {h : Hello}

/-- The first HELLO that a device without a pair takes, unless it is active: the pair forms or PAIRFAULT is set. -/
theorem twinHello_unpaired (hpaired : s.twin.paired = false) (hact : s.isActive = false)
    (hold : newerEpoch h.epoch.toNat s.twin.newest = false) :
    s.twinHello h =
      (let z := s.peerWord h.sysState
       if s.pairCode h = 0 then
         let y := (z.setTwin { z.twin with paired := true }).wr pgTWIN R.TWIN_STAT_PAIRFAULT 0
         if s.twinState = 6 then y.setTwinState 1 else y
       else if s.dev.state = .linkup then
         ((z.wr pgTWIN R.TWIN_STAT_PAIRFAULT (s.pairCode h)).setTwinState 6).raise pgTWIN 11 (s.pairCode h)
       else z) := by
  have hz : (s.peerWord h.sysState).isActive = false := hact
  have hp : (s.peerWord h.sysState).twin.paired = false := hpaired
  have hl : (s.peerWord h.sysState).dev = s.dev := rfl
  have hstate (x : TwinS) : (((s.peerWord h.sysState).setTwin x).wr pgTWIN R.TWIN_STAT_PAIRFAULT 0).twinState =
      s.twinState :=
    (twinState_wr _ R.TWIN_STAT_PAIRFAULT 0 rfl (by decide)).trans
      (twinState_wr (s.setTwin _) R.TWIN_STAT_PEERROLE _ rfl (by decide))
  have hy (x : TwinS) : (((s.peerWord h.sysState).setTwin x).wr pgTWIN R.TWIN_STAT_PAIRFAULT 0).isActive = false := hact
  simp only [State.twinHello, sawEpoch_old hold, State.sendAlign, hz, hp, hl, hy, hstate, pairCode_peerWord, ite_self,
    Bool.false_and, Bool.false_eq_true, if_false]

theorem twinHello_pairs (hpaired : s.twin.paired = false) (hwait : s.twinState = 1) (hact : s.isActive = false)
    (hold : newerEpoch h.epoch.toNat s.twin.newest = false) (hcode : s.pairCode h = 0) :
    s.twinHello h =
      (let z := s.peerWord h.sysState
       (z.setTwin { z.twin with paired := true }).wr pgTWIN R.TWIN_STAT_PAIRFAULT 0) := by
  have hnot : ¬ s.twinState = 6 := by omega
  simp only [twinHello_unpaired hpaired hact hold, if_pos hcode, if_neg hnot]

theorem twinHello_fault (hpaired : s.twin.paired = false) (hact : s.isActive = false) (hlink : s.dev.state = .linkup)
    (hold : newerEpoch h.epoch.toNat s.twin.newest = false) (hcode : s.pairCode h ≠ 0) :
    s.twinHello h =
      (((s.peerWord h.sysState).wr pgTWIN R.TWIN_STAT_PAIRFAULT (s.pairCode h)).setTwinState 6).raise pgTWIN 11
        (s.pairCode h) := by
  simp only [twinHello_unpaired hpaired hact hold, if_neg hcode, if_pos hlink]

theorem helloSend_due (hp : s.twinPowered = true) (hpaired : s.twin.paired = false)
    (hdue : s.twin.helloAt + ms 1 ≤ s.now) :
    s.helloSend =
      (let z := s.setTwin { s.twin with helloAt := s.now }
       z.twinSendBoth (.hello z.hello)) := by
  simp only [State.helloSend, hp, hpaired, decide_eq_true hdue, Bool.or_true, Bool.not_false, Bool.and_self, if_true]
  rfl

end Hello

/-! ### HEART and SUM (R578, R592) -/

section Heart
variable {s : State} {h : Heart}

/-- The role of a device does not depend on the epochs it has seen. -/
theorem isStandby_sawEpoch (s : State) (e : Nat) : (s.sawEpoch e).isStandby = s.isStandby := by
  simp only [State.sawEpoch]; split <;> rfl

/-- A HEART that is not the active device's at a standby is noted. -/
theorem twinHeart_noted (hrole : s.isStandby = false ∨ wordRole h.sysState ≠ 2) :
    s.twinHeart h =
      (let z := (s.sawEpoch h.epoch.toNat).heard false
       (z.setTwin { z.twin with heartAt := (s.sawEpoch h.epoch.toNat).pairTick }).peerWord h.sysState) := by
  have hno : ((s.sawEpoch h.epoch.toNat).isStandby && decide (wordRole h.sysState = 2)) = false := by
    rw [isStandby_sawEpoch]
    rcases hrole with hr | hr
    · rw [hr, Bool.false_and]
    · rw [decide_eq_false hr, Bool.and_false]
  simp only [State.twinHeart, hno, Bool.false_and, Bool.false_eq_true, if_false]

/-- A HEART of the active device without an announcement is followed by a standby. -/
theorem twinHeart_followed (hreason : h.reason = 0) (hrole : wordRole h.sysState = 2)
    (hs : (s.sawEpoch h.epoch.toNat).isStandby = true) :
    s.twinHeart h =
      (let z := (s.sawEpoch h.epoch.toNat).heard false
       ((z.setTwin { z.twin with heartAt := (s.sawEpoch h.epoch.toNat).pairTick }).peerWord h.sysState).followHeart h) := by
  have hnone : h.reason.toNat = 0 := by rw [hreason]; rfl
  simp only [State.twinHeart, hs, hrole, hnone, decide_true, Bool.and_self, ne_eq, not_true_eq_false, decide_false,
    Bool.and_false, Bool.false_eq_true, if_true, if_false]

@[simp] theorem peerSummary_jobs (s : State) (b slot crc : Nat) : (s.peerSummary b slot crc).jobs = s.jobs := by
  simp only [State.peerSummary, State.compareSum]
  split
  · split <;> simp only [leaveStep_jobs, raise_fields, inc_fields, setTwin_fields]
  · simp only [setTwin_fields]

theorem peerSummaries_jobs (s : State) (b slot : Nat) (sums : List Word) :
    (s.peerSummaries b slot sums).jobs = s.jobs := by
  induction sums generalizing s slot with
  | nil => rfl
  | cons c cs ih => rw [State.peerSummaries, ih, peerSummary_jobs]

/-- The summaries of a SUM act on a standby, which then sees whether it is in step. -/
theorem twinSum_standby {b first : Nat} {sums : List Word} (hs : s.isStandby = true) :
    s.twinSum b first sums = (s.peerSummaries b first sums).stepCheck (s.peerSummaries b first sums).curBars := by
  have hbars : (s.peerSummaries b first sums).curBars = s.curBars := by
    simp only [State.curBars, peerSummaries_jobs]
  rw [hbars, State.twinSum, if_pos hs]

/-- A summary that agrees with the device's own counts as matched, and both leave the comparison. -/
theorem peerSummary_matches {b slot crc o at_ : Nat} (hown : mfind s.twin.ownSums (sumKey b slot) = some (o, at_))
    (heq : crc = o) :
    (s.peerSummary b slot crc).twin.health.ok = satInc 32 s.twin.health.ok ∧
      mfind (s.peerSummary b slot crc).twin.ownSums (sumKey b slot) = none := by
  have hset : (s.peerSummary b slot crc).twin.health.ok = satInc 32 s.twin.health.ok ∧
      (s.peerSummary b slot crc).twin.ownSums = merase s.twin.ownSums (sumKey b slot) := by
    simp only [State.peerSummary, hown, State.compareSum, if_pos heq, State.setTwin, and_self]
  refine ⟨hset.1, ?_⟩
  rw [hset.2, mfind_merase, if_pos rfl]

end Heart

/-! ### DELTA (R576, R584) -/

section Delta
variable {s : State} {seq g q : Nat} {d : Delta}

/-- The DELTA next in sequence, with none waiting behind it, is applied. -/
theorem twinDelta_next (hseq : seq = s.twin.deltaRx)
    (hnone : (({ s with twin := { s.twin with deltaRx := (s.twin.deltaRx + 1) % 2 ^ 32 } } : State).applyDelta d).twin.early
      = []) :
    s.twinDelta seq d =
      (({ s with twin := { s.twin with deltaRx := (s.twin.deltaRx + 1) % 2 ^ 32 } } : State).applyDelta d).gapOver := by
  simp only [State.twinDelta, if_pos hseq, State.setTwin, hnone, List.length_nil, State.drainEarly]

/-- The number after the next one is ahead in sequence, and leaves one frame to request. -/
theorem seqAhead_one {e : Nat} (he : e < 2 ^ 32) :
    seqAhead ((e + 1) % 2 ^ 32) e = true ∧
      ((e + 1) % 2 ^ 32 + 2 ^ 32 - (e + (2 ^ 32 - 1)) % 2 ^ 32) % 2 ^ 32 - 1 = 1 ∧
      ((e + (2 ^ 32 - 1)) % 2 ^ 32 + 1 + 0) % 2 ^ 32 = e := by
  refine ⟨?_, by omega, by omega⟩
  simp only [seqAhead, decide_eq_true_eq]
  omega

/-- A walk over one index is one step. -/
theorem each_range_one (z : State) (f : State → Nat → State) {n : Nat} (hn : n = 1) :
    State.each f z (List.range n) = f z 0 := by
  subst hn; rfl

/-- A DELTA past a gap, with none waiting, waits, and the frames before it are requested. -/
theorem twinDelta_firstPastGap (hne : seq ≠ s.twin.deltaRx) (hahead : seqAhead seq s.twin.deltaRx = true)
    (hnone : s.twin.early = []) :
    s.twinDelta seq d =
      State.each (fun z i => z.twinSend (.resend (((s.twin.deltaRx + (2 ^ 32 - 1)) % 2 ^ 32 + 1 + i) % 2 ^ 32)))
        (s.setTwin { s.twin with early := [(seq, d)], gapAt := s.twin.gapAt.or (some s.now) })
        (List.range ((seq + 2 ^ 32 - (s.twin.deltaRx + (2 ^ 32 - 1)) % 2 ^ 32) % 2 ^ 32 - 1)) := by
  have hwaits : (seqAhead seq s.twin.deltaRx && !(s.twin.early.any fun x => decide (x.1 = seq))) = true := by
    rw [hahead, hnone]; rfl
  simp only [State.twinDelta]
  rw [if_neg hne, if_pos hwaits, hnone, List.foldl_nil, List.nil_append]

/-- The first DELTA past a gap of one frame waits, and that frame is requested. -/
theorem twinDelta_pastGap (hseq : seq = (s.twin.deltaRx + 1) % 2 ^ 32) (hlt : s.twin.deltaRx < 2 ^ 32)
    (hnone : s.twin.early = []) :
    s.twinDelta seq d =
      ({ s with twin := { s.twin with early := [(seq, d)], gapAt := s.twin.gapAt.or (some s.now) } } : State).twinSend
        (.resend s.twin.deltaRx) := by
  obtain ⟨hahead, hcount, hfirst⟩ := seqAhead_one hlt
  rw [← hseq] at hahead hcount
  have hne : seq ≠ s.twin.deltaRx := by omega
  rw [twinDelta_firstPastGap hne hahead hnone, each_range_one _ _ hcount, hfirst]
  rfl

/-- A gap not filled in time at a standby: it is counted, the standby leaves step, and the DELTA behind it is applied (R576,
R593). -/
theorem gapTimeout_standby (hgap : s.twin.gapAt = some g) (hdue : g + ms 1 ≤ s.now) (hs : s.isStandby = true)
    (hearly : s.twin.early = [(q, d)]) :
    s.gapTimeout =
      (let z := s.setTwin { s.twin with health := { s.twin.health with gap := true } }
       let y := (z.inc pgTWIN R.TWIN_LINKERR_GAP).leaveStep
       ((y.setTwin { y.twin with deltaRx := q, gapAt := some s.now }).drainEarly 1).gapOver) := by
  have hrole (x : TwinS) : ((s.setTwin x).inc pgTWIN R.TWIN_LINKERR_GAP).isStandby = true := by
    simpa only [State.isStandby, inc_fields, setTwin_fields] using hs
  have hkept (x : TwinS) : ((s.setTwin x).inc pgTWIN R.TWIN_LINKERR_GAP).leaveStep.twin.early = x.early := by
    simp only [State.leaveStep, State.setTwin, inc_fields, wr_fields]
  have hnow (x : TwinS) : ((s.setTwin x).inc pgTWIN R.TWIN_LINKERR_GAP).leaveStep.now = s.now := by
    simp only [State.now, State.leaveStep, setTwin_fields, inc_fields, wr_fields]
  rw [State.gapTimeout, hgap]
  simp only [if_neg (Nat.not_lt.mpr hdue), hrole, if_true, hkept, hnow, hearly, List.foldl_cons, List.foldl_nil]
  rfl

end Delta

/-! ### FETCH, RELAY and ALIGN (R589, R590, R612) -/

section Frames
variable {s : State}

/-- A request is answered with the bytes that the basin holds from there on. -/
theorem twinFetch_request {b : Fin 32} {first : BitVec 64} {count : Nat}
    (hsome : 0 < min count ((s.basin b.val).p - first.toNat))
    (hheld : (s.basin b.val).p ≤ first.toNat + s.basinSize b.val) :
    s.twinFetch (.request b first count) =
      s.twinKeep (.fetch (.data b first (s.basinGet b.val first.toNat (min count ((s.basin b.val).p - first.toNat))))) := by
  simp only [State.twinFetch, decide_eq_false (Nat.ne_of_gt hsome), decide_eq_false (Nat.not_lt.mpr hheld), Bool.or_self,
    Bool.false_eq_true, if_false]

/-- Data that reach P of a listening standby fill what it has missed. -/
theorem twinFetch_data {b : Fin 32} {first : BitVec 64} {bytes : List Byte} (hlisten : s.listening = true)
    (hfirst : first.toNat ≤ (s.basin b.val).p) (hnew : bytes.drop ((s.basin b.val).p - first.toNat) ≠ [])
    (hhost : s.hostBasin b.val = true)
    (hroom : (s.basin b.val).p + (bytes.drop ((s.basin b.val).p - first.toNat)).length ≤ s.basinLimit b.val) :
    s.twinFetch (.data b first bytes) = s.takeData b.val (bytes.drop ((s.basin b.val).p - first.toNat)) := by
  have hsome : (bytes.drop ((s.basin b.val).p - first.toNat)).isEmpty = false := by
    rw [← Bool.not_eq_true, List.isEmpty_iff]; exact hnew
  simp only [State.twinFetch, hlisten, hhost, hsome, decide_eq_false (Nat.not_lt.mpr hfirst),
    decide_eq_false (Nat.not_lt.mpr hroom), Bool.not_true, Bool.or_self, Bool.false_eq_true, if_false]

/-- A standby sends a relayed frame into its end of a healed chain, unless it is SYNC or PRBS. -/
theorem twinRelay_standby {n : Nat} {f : List Byte} (hsync : ¬ (tileType f = 4 ∧ tileSub f = 0))
    (hprbs : isPrbs (tileType f) (tileSub f) = false) (hs : s.isStandby = true) (hup : s.laneUp n = true)
    (hheal : s.rdb (pgTLNK n) R.TLNK_STAT_HEALED = true) :
    s.twinRelay n f = s.setTl n { s.tl n with tx := (s.tl n).tx ++ [f], txAt := s.now } := by
  simp only [State.twinRelay, hs, hup, hheal, hsync, hprbs, Bool.not_true, Bool.false_eq_true, or_self, if_true, if_false]

/-- A relayed STAT reaches the active device. -/
theorem twinRelay_active {n : Nat} {f : List Byte} (hstat : tileType f = 6) (hs : s.isStandby = false)
    (hact : s.isActive = true) (hrelay : s.twin.relay.contains n = true) : s.twinRelay n f = s.relayedStat n f := by
  simp only [State.twinRelay, hs, hact, hrelay, hstat, decide_true, Bool.and_self, Bool.false_eq_true, if_true, if_false]

end Frames

/-- TWIN_CMD.ALIGN alone makes an active device send ALIGN (R589). -/
theorem regCmd_align {u : State} {m : Master} (h : u.accepts m (fieldAddr pgTWIN R.TWIN_CMD) .twin 0 = true)
    (hact : u.isActive = true) :
    u.regCmd m pgTWIN R.TWIN_CMD (withBit 0#32 R.TWIN_CMD_ALIGN) =
      (u.twinSend (.align u.ownAlign)).acceptedBy u m .twin 0 (fieldAddr pgTWIN R.TWIN_CMD)
        (withBit 0#32 R.TWIN_CMD_ALIGN) := by
  obtain ⟨d, i, hf, hd⟩ := findReg_twinCmd
  have h0 : bitOf (withBit 0#32 R.TWIN_CMD_ALIGN).toNat 0 = false := by decide
  have h1 : bitOf (withBit 0#32 R.TWIN_CMD_ALIGN).toNat 1 = true := by decide
  refine regWrite_accept h (by decide) hf (Or.inl rfl) ?_
  simp only [State.writeBlock, State.writeTwin, hd, h0, h1, State.sendAlign, hact, Bool.false_and, Bool.false_eq_true,
    if_true, if_false, wrote]

/-! ### Lanes (R575, R614) -/

section Lanes
variable {s : State} {n : Nat}

/-- The lock bit of a twin lane. -/
def twinLaneFld (n : Nat) : Fld := if n = 0 then R.TWIN_STAT_LANE0 else R.TWIN_STAT_LANE1

/-- A change of the lock of a lane that powers the unit. -/
theorem twinLock_changes {locked : Bool} (hp : s.twinPowered = true) (hwas : s.rdb pgTWIN (twinLaneFld n) = !locked) :
    s.twinLock n locked =
      (let z := (s.wr pgTWIN (twinLaneFld n) (b2n locked)).raise pgTWIN (if locked then 0 else 1) n
       if z.anyTwin then z else (if s.isStandby then z.leaveStep else z).relayStop) := by
  have hne : (!s.twinPowered || decide (s.rdb pgTWIN (twinLaneFld n) = locked)) = false := by
    rw [hp, hwas]; cases locked <;> rfl
  rw [twinLaneFld] at hne ⊢
  exact if_neg (by simpa using hne)

end Lanes

/-- Settles O56: each frame in the branch that its condition chooses, for a unit that is powered. -/
theorem twinFrames : Obligations.TwinFrames := by
  refine ⟨?pairs, ?fault, ?noted, ?followed, ?sum, ?summary, ?next, ?pastGap, ?mirror, ?gap, ?request, ?data, ?relay,
    ?stat, ?align, ?alignCmd, ?hello, ?crc, ?locks, ?loses⟩
  case pairs =>
    exact fun l h => runs_of_frame (f := (·.twinHello h)) (fun _ _ => rfl) (fun _ hu => hu.1)
      fun u ⟨_, hpaired, hwait, hact, hold, hcode⟩ => twinHello_pairs hpaired hwait hact hold hcode
  case fault =>
    exact fun l h => runs_of_frame (f := (·.twinHello h)) (fun _ _ => rfl) (fun _ hu => hu.1)
      fun u ⟨_, hpaired, hact, hlink, hold, hcode⟩ => twinHello_fault hpaired hact hlink hold hcode
  case noted =>
    exact fun l h => runs_of_frame (f := (·.twinHeart h)) (fun _ _ => rfl) (fun _ hu => hu.1)
      fun u ⟨_, hrole⟩ => twinHeart_noted hrole
  case followed =>
    exact fun l h hreason hrole => runs_of_frame (f := (·.twinHeart h)) (fun _ _ => rfl) (fun _ hu => hu.1)
      fun u ⟨_, hs⟩ => twinHeart_followed hreason hrole hs
  case sum =>
    exact fun b first sums => runs_of_frame (f := (·.twinSum b.val first.toNat sums)) (fun _ _ => rfl) (fun _ hu => hu.1)
      fun u ⟨_, hs⟩ => twinSum_standby hs
  case summary => exact fun s b slot crc o at_ hown heq => peerSummary_matches hown heq
  case next =>
    exact fun seq d => runs_of_frame (f := (·.twinDelta seq.toNat d)) (fun _ _ => rfl) (fun _ hu => hu.1)
      fun u ⟨_, hseq, _, hnone⟩ => twinDelta_next hseq hnone
  case pastGap =>
    exact fun seq d => runs_of_frame (f := (·.twinDelta seq.toNat d)) (fun _ _ => rfl) (fun _ hu => hu.1)
      fun u ⟨_, hseq, hlt, hnone⟩ => twinDelta_pastGap hseq hlt hnone
  case mirror => exact fun s addr v hs => if_pos hs
  case gap =>
    exact fun g q d => runs_of (f := (·.gapTimeout)) (fun _ _ => rfl)
      fun u ⟨hgap, hdue, hs, hearly⟩ => gapTimeout_standby hgap hdue hs hearly
  case request =>
    exact fun b first count => runs_of_frame (f := (·.twinFetch (.request b first count))) (fun _ _ => rfl)
      (fun _ hu => hu.1) fun u ⟨_, hsome, hheld⟩ => twinFetch_request hsome hheld
  case data =>
    exact fun b first bytes => runs_of_frame (f := (·.twinFetch (.data b first bytes))) (fun _ _ => rfl)
      (fun _ hu => hu.1) fun u ⟨_, hlisten, hfirst, hnew, hhost, hroom⟩ => twinFetch_data hlisten hfirst hnew hhost hroom
  case relay =>
    exact fun n f hsync hprbs => runs_of_frame (f := (·.twinRelay n.val f)) (fun _ _ => rfl) (fun _ hu => hu.1)
      fun u ⟨_, hs, hup, hheal⟩ => twinRelay_standby hsync hprbs hs hup hheal
  case stat =>
    exact fun n f hstat => runs_of_frame (f := (·.twinRelay n.val f)) (fun _ _ => rfl) (fun _ hu => hu.1)
      fun u ⟨_, hs, hact, hrelay⟩ => twinRelay_active hstat hs hact hrelay
  case align =>
    exact fun a => runs_of_frame (f := (·.twinAlign a)) (fun _ _ => rfl) (fun _ hu => hu.1) fun u ⟨_, hs⟩ => if_pos hs
  case alignCmd =>
    exact fun m => runs_of (f := (·.regCmd m pgTWIN R.TWIN_CMD (withBit 0#32 R.TWIN_CMD_ALIGN))) (fun _ _ => rfl)
      fun u ⟨h, hact⟩ => regCmd_align h hact
  case hello =>
    exact runs_of (f := (·.helloSend)) (fun _ _ => rfl) fun u ⟨hp, hpaired, hdue⟩ => helloSend_due hp hpaired hdue
  case crc =>
    exact fun l h => runs_of (f := (·.twinFrame false fun s => s.twinHello h)) (fun _ _ => rfl)
      fun u hp => twinFrame_crcBad hp _
  case locks =>
    exact fun l => runs_of (f := (·.twinLock l.val true)) (fun _ _ => rfl)
      fun u ⟨hp, hwas, hany⟩ => (twinLock_changes (n := l.val) (locked := true) hp hwas).trans (if_pos hany)
  case loses =>
    exact fun l => runs_of (f := (·.twinLock l.val false)) (fun _ _ => rfl)
      fun u ⟨hp, hwas, hnone, hs⟩ => (twinLock_changes (n := l.val) (locked := false) hp hwas).trans
        ((if_neg (Bool.eq_false_iff.mp hnone)).trans (congrArg State.relayStop (if_pos hs)))

end Sys2Proof.Machine
end

section
/-!
CERTIFICATE. Thermal sensors and limits, the VCORE loop, PMBus and the override (O59).
-/
namespace Sys2Proof.Machine

/-! ### Samples of a sensor (R616 to R618) -/

section Samples
variable {s : State} {n f : Nat} {peer : Bool} {t : Int}

/-- The range of a reading that a sensor in order can give, −40 to 150 degC. -/
def soundReading (t : Int) : Bool := decide (-5120 ≤ t) && decide (t ≤ 19200)

theorem soundReading_of_range (hlow : -5120 ≤ t) (hhigh : t ≤ 19200) : soundReading t = true := by
  rw [soundReading, decide_eq_true hlow, decide_eq_true hhigh]; rfl

/-- A sample of a die sensor with a reading in range: a faulty sensor counts it, and takes part again with the sixteenth. -/
theorem thermalSample_sound (hs : s.sensing = true) (hread : s.reading n f = some t) (ht : soundReading t = true)
    (hdie : n < 32) :
    s.thermalSample n (some f) peer =
      (if (s.sensor n).fault && decide ((s.sensor n).good + 1 < 16) then
        s.setSensor n { s.sensor n with good := (s.sensor n).good + 1, temp := t, count := f, tick := s.now }
      else (s.setSensor n { s.sensor n with fault := false, good := 0 }).goodSample n f t peer).thermRegs := by
  rw [soundReading] at ht
  simp only [State.thermalSample, hs, hread, ht, if_neg (Nat.not_le.mpr hdie), Option.getD_some, Bool.not_true,
    Bool.false_eq_true, if_false]

theorem thermalSample_good (hs : s.sensing = true) (hread : s.reading n f = some t) (ht : soundReading t = true)
    (hdie : n < 32) (hfault : (s.sensor n).fault = false) :
    s.thermalSample n (some f) peer =
      ((s.setSensor n { s.sensor n with fault := false, good := 0 }).goodSample n f t peer).thermRegs := by
  rw [thermalSample_sound hs hread ht hdie, hfault, Bool.false_and, if_neg Bool.false_ne_true]

theorem thermalSample_again (hs : s.sensing = true) (hread : s.reading n f = some t) (ht : soundReading t = true)
    (hdie : n < 32) (hfault : (s.sensor n).fault = true) (hfew : (s.sensor n).good + 1 < 16) :
    s.thermalSample n (some f) peer =
      (s.setSensor n { s.sensor n with
        good := (s.sensor n).good + 1, temp := t, count := f, tick := s.now }).thermRegs := by
  have hagain : ((s.sensor n).fault && decide ((s.sensor n).good + 1 < 16)) = true := by
    rw [hfault, decide_eq_true hfew]; rfl
  rw [thermalSample_sound hs hread ht hdie, if_pos hagain]

theorem thermalSample_none (hs : s.sensing = true) (hdie : n < 32) :
    s.thermalSample n none peer = (s.badSample n 0 false peer).thermRegs := by
  simp only [State.thermalSample, hs, if_neg (Nat.not_le.mpr hdie), Option.getD_none, Option.isSome_none,
    Bool.false_and, Bool.not_true, Bool.false_eq_true, if_false]

end Samples

/-! ### Levels and limits (R621, R623) -/

theorem raiseLevel_higher {s : State} {g l : Nat} {inStep : Bool} (h : s.level g < l) :
    s.raiseLevel g l inStep =
      (State.each (fun s n => s.setSensor n { s.sensor n with below := 0 })
        ((s.setLevel g l).raise pgTHRM 0 (g * 8 + l)) (groupSensors g)).thermEnter s.devLevel inStep := by
  rw [State.raiseLevel, if_neg (Nat.not_le.mpr h)]

/-- The register that holds the limits of the die or of the DRAM. -/
def limitsReg (dram : Bool) : Fld := if dram then R.THRM_DRAMLIM else R.THRM_DIELIM

theorem findReg_limits (dram : Bool) :
    ∃ d i, findReg PageKind.thrm.regs (limitsReg dram).off = some (d, i) ∧ d.off = (limitsReg dram).off := by
  cases dram <;> exact ⟨_, _, rfl, rfl⟩

/-- A write of limits is stored where they are in order, and refused where not. -/
theorem writeThrm_limits {s : State} {addr : Nat} {d : RegDef} {dram : Bool} {v : Word}
    (hd : d.off = (limitsReg dram).off) :
    s.writeThrm addr d v = if limitsOk dram v.toNat then s.putThen addr d v id else denied s := by
  have hdie : d.off = R.THRM_DIELIM.off ↔ dram = false := by rw [hd]; cases dram <;> decide
  have hdram : d.off = R.THRM_DRAMLIM.off ↔ dram = true := by rw [hd]; cases dram <;> decide
  have hctl : d.off ≠ R.THRM_CTL.off := by rw [hd]; cases dram <;> decide
  simp only [State.writeThrm, hdie, hdram, hctl, if_false]
  cases dram with
  | false => cases limitsOk false v.toNat <;> rfl
  | true => cases limitsOk true v.toNat <;> rfl

theorem regCmd_limits_ok {u : State} {m : Master} {dram : Bool} {v : Word} (hok : limitsOk dram v.toNat = true)
    (h : u.accepts m (fieldAddr pgTHRM (limitsReg dram)) .thrm 0 = true) :
    u.regCmd m pgTHRM (limitsReg dram) v =
      (u.stored pgTHRM (limitsReg dram) v).acceptedBy u m .thrm 0 (fieldAddr pgTHRM (limitsReg dram)) v := by
  obtain ⟨d, i, hf, hd⟩ := findReg_limits dram
  have h40 : 0x40 ≤ (limitsReg dram).off := by cases dram <;> decide
  have hlt : (limitsReg dram).off < 4096 := by cases dram <;> decide
  refine regCmd_stored (g := id) h (by decide) h40 hlt hf ?_
  simp only [State.writeBlock, writeThrm_limits hd, hok, if_true]

theorem regCmd_limits_refused {u : State} {m : Master} {dram : Bool} {v : Word} (hbad : limitsOk dram v.toNat = false)
    (h : u.takes m (fieldAddr pgTHRM (limitsReg dram)) .thrm 0 = true) :
    u.regCmd m pgTHRM (limitsReg dram) v = u.refuse m (fieldAddr pgTHRM (limitsReg dram)) v.toNat 8 := by
  obtain ⟨d, i, hf, hd⟩ := findReg_limits dram
  have hoff : pageOff (fieldAddr pgTHRM (limitsReg dram)) = (limitsReg dram).off := by cases dram <;> rfl
  have h40 : 0x40 ≤ (limitsReg dram).off := by cases dram <;> decide
  refine regWrite_denied (c := 8) (l := true) h (hoff ▸ h40) (hoff ▸ hf) (by decide) ?_
  simp only [State.writeBlock, writeThrm_limits hd, hbad, Bool.false_eq_true, if_false, denied]

/-! ### PMBus and the VCORE loop (R670 to R675) -/

/-- A transaction without a failed attempt goes through. -/
theorem pmb_sound (s : State) (command data pec : Nat) : s.pmb command data 0 pec = (true, s.pmbSend command data 1) := by
  simp only [State.pmb, if_true, show ¬ 4 ≤ 0 by decide, if_false, Nat.zero_add]

theorem pmbAlert_sound {s : State} {status : Nat} (hup : s.pagesUp = true) (hlock : s.avs.lockedOut = false) :
    s.pmbAlert status 0 0 = ((s.pmbSend 0x79 0 1).raise pgSYS 3 status).pmbSend 0x03 0 1 := by
  have hkept : ((s.pmbSend 0x79 0 1).raise pgSYS 3 status).avs.lockedOut = false := by
    simpa only [raise_fields, State.pmbSend] using hlock
  simp only [State.pmbAlert, hup, pmb_sound, hkept, Bool.not_true, Bool.false_eq_true, if_false]

section Loop
variable {s : State} {vout iout : Nat}

/-- The state of the loop after an interval that leaves no run of calm intervals (R671). -/
def State.avsIntervalOver (s : State) : State :=
  { s with avs := { s.avs with calm := 0, intervalAt := s.now, smin := s.rd pgWEIR R.WEIR_SPEED } }

variable (hrun : s.avs.stopped = false) (hlock : s.avs.lockedOut = false) (hup : s.pagesUp = true)
  (hsafe : s.dev.state ≠ .safe) (hen : s.rdb pgSYS R.SYS_AVSCFG_EN = true) (hfix : s.vcoreFixed = false)
  (hdue : s.avs.intervalAt + ms (atLeast1 (s.rd pgSYS R.SYS_AVSCFG_INT)) ≤ s.now)
include hrun hlock hup hsafe hen hfix hdue

/-- Nothing keeps a running loop from its interval that is over. -/
theorem avsInterval_guard :
    (s.avs.stopped || s.avs.lockedOut || !s.pagesUp || s.dev.state == .safe || !s.rdb pgSYS R.SYS_AVSCFG_EN ||
      s.vcoreFixed || decide (s.now < s.avs.intervalAt + ms (atLeast1 (s.rd pgSYS R.SYS_AVSCFG_INT)))) = false := by
  have hstate : (s.dev.state == .safe) = false := beq_eq_false_iff_ne.mpr hsafe
  simp only [hrun, hlock, hup, hstate, hen, hfix, decide_eq_false (Nat.not_lt.mpr hdue), Bool.not_true, Bool.or_self]

/-- Between the margins the loop keeps the target and reads back (R671). -/
theorem avsInterval_keeps (hlow : 256 + s.rd pgSYS R.SYS_AVSCFG_LOMARG ≤ s.avs.smin)
    (hhigh : s.avs.smin ≤ 256 + max (s.rd pgSYS R.SYS_AVSCFG_LOMARG + 1) (s.rd pgSYS R.SYS_AVSCFG_HIMARG)) :
    s.avsInterval vout iout 0 0 =
      (((s.avsIntervalOver.pmbSend 0x8B 0 1).pmbSend 0x8C 0 1).wr pgSYS R.SYS_VCORE_VOUT vout).wr pgSYS R.SYS_IOUT_IOUT
        iout := by
  have hguard := avsInterval_guard hrun hlock hup hsafe hen hfix hdue
  rw [State.avsInterval, hguard]
  simp only [decide_eq_false (Nat.not_lt.mpr hlow), decide_eq_false (Nat.not_lt.mpr hhigh), pmb_sound, Bool.false_and,
    Bool.not_true, Bool.false_eq_true, if_false, if_true]
  rfl

/-- Below the low margin the loop raises the target by a step, short of 900 mV (R671). -/
theorem avsInterval_raises (hslow : s.avs.smin < 256 + s.rd pgSYS R.SYS_AVSCFG_LOMARG)
    (hmax : s.rd pgSYS R.SYS_VCORE_TARGET + atLeast1 (s.rd pgSYS R.SYS_AVSCFG_STEP) < 900) :
    s.avsInterval vout iout 0 0 =
      (let r := s.avsIntervalOver.writeVout (s.rd pgSYS R.SYS_VCORE_TARGET + atLeast1 (s.rd pgSYS R.SYS_AVSCFG_STEP)) 0 0
       if r.1 then
         (((r.2.pmbSend 0x8B 0 1).pmbSend 0x8C 0 1).wr pgSYS R.SYS_VCORE_VOUT vout).wr pgSYS R.SYS_IOUT_IOUT iout
       else r.2) := by
  have hguard := avsInterval_guard hrun hlock hup hsafe hen hfix hdue
  have hstep : s.rd pgSYS R.SYS_VCORE_TARGET + atLeast1 (s.rd pgSYS R.SYS_AVSCFG_STEP) ≠ s.rd pgSYS R.SYS_VCORE_TARGET := by
    simp only [atLeast1]; split <;> omega
  rw [State.avsInterval, hguard]
  simp only [decide_eq_true hslow, Nat.min_eq_left (Nat.le_of_lt hmax), beq_eq_false_iff_ne.mpr (Nat.ne_of_lt hmax),
    if_neg hstep, Bool.and_false, Bool.false_eq_true, if_false, if_true, ite_self, Bool.not_eq_true', Bool.eq_false_iff,
    ne_eq, ite_not]
  rfl

end Loop

/-! ### The registers of the loop (R673, R675) -/

/-- A register of the SYS page that acts once it is stored. -/
theorem findReg_avsovr : ∃ d i, findReg PageKind.sys.regs (pageOff (fieldAddr pgSYS R.SYS_AVSOVR)) = some (d, i) ∧
    regAt (fieldAddr pgSYS R.SYS_AVSOVR) = some d ∧ d.off = R.SYS_AVSOVR.off :=
  ⟨_, _, rfl, rfl, rfl⟩

theorem regCmd_avsOverride {u : State} {m : Master} {v : Word} {env : WriteEnv}
    (h : u.accepts m (fieldAddr pgSYS R.SYS_AVSOVR) .sys 0 = true) :
    u.regCmd m pgSYS R.SYS_AVSOVR v env =
      ((u.stored pgSYS R.SYS_AVSOVR v).avsOverride env.failures env.pec).acceptedBy u m .sys 0
        (fieldAddr pgSYS R.SYS_AVSOVR) v := by
  obtain ⟨d, i, hf, ha, hd⟩ := findReg_avsovr
  have hstate : R.SYS_AVSOVR.off ≠ R.SYS_STATE.off := by decide
  have hcfg : R.SYS_AVSOVR.off ≠ R.SYS_AVSCFG.off := by decide
  refine regWrite_accept h (by decide) hf (Or.inl rfl) ?_
  simp only [State.writeBlock, State.writeSys, State.putThen, wrote, hd, hstate, hcfg, if_true, if_false, State.stored, ha]
  rfl

theorem findReg_avscfg : ∃ d i, findReg PageKind.sys.regs R.SYS_AVSCFG.off = some (d, i) ∧ d.off = R.SYS_AVSCFG.off :=
  ⟨_, _, rfl, rfl⟩

/-- A write that sets EN from 0 starts the loop. -/
theorem regCmd_avsEnable {u : State} {m : Master} {v : Word}
    (h : u.accepts m (fieldAddr pgSYS R.SYS_AVSCFG) .sys 0 = true) (hoff : u.rdb pgSYS R.SYS_AVSCFG_EN = false) :
    u.regCmd m pgSYS R.SYS_AVSCFG (withBit v R.SYS_AVSCFG_EN) =
      (u.stored pgSYS R.SYS_AVSCFG (withBit v R.SYS_AVSCFG_EN)).avsStart.acceptedBy u m .sys 0
        (fieldAddr pgSYS R.SYS_AVSCFG) (withBit v R.SYS_AVSCFG_EN) := by
  obtain ⟨d, i, hf, hd⟩ := findReg_avscfg
  have hbit : bitOf (withBit v R.SYS_AVSCFG_EN).toNat 0 = true := bitOf_withBit v R.SYS_AVSCFG_EN (by decide)
  have hstate : R.SYS_AVSCFG.off ≠ R.SYS_STATE.off := by decide
  refine regCmd_stored (g := State.avsStart) h (by decide) (by decide) (by decide) hf ?_
  simp only [State.writeBlock, State.writeSys, hd, hstate, hoff, hbit, Bool.not_false, Bool.and_self, if_true, if_false]

/-- Settles O59: samples by range and fault, limits by their order, the interval of the loop by its margins. -/
theorem sensorsAndVcore : Obligations.SensorsAndVcore := by
  refine ⟨?good, ?again, ?none, ?level, ?limits, ?refused, ?keeps, ?raises, ?alert, ?override, ?enable⟩
  case good =>
    exact fun n f peer t hlow hhigh => runs_of (f := (·.thermalSample n.val (some f.toNat) peer)) (fun _ _ => rfl)
      fun u ⟨hs, hread, hfault, hdie⟩ => thermalSample_good hs hread (soundReading_of_range hlow hhigh) hdie hfault
  case again =>
    exact fun n f peer t hlow hhigh => runs_of (f := (·.thermalSample n.val (some f.toNat) peer)) (fun _ _ => rfl)
      fun u ⟨hs, hread, hfault, hfew, hdie⟩ =>
        thermalSample_again hs hread (soundReading_of_range hlow hhigh) hdie hfault hfew
  case none =>
    exact fun n peer => runs_of (f := (·.thermalSample n.val none peer)) (fun _ _ => rfl)
      fun u ⟨hs, hdie⟩ => thermalSample_none hs hdie
  case level => exact fun s g l inStep h => raiseLevel_higher h
  case limits =>
    exact fun m dram v hok => runs_of (f := (·.regCmd m pgTHRM (limitsReg dram) v)) (fun _ _ => rfl)
      fun u h => regCmd_limits_ok hok h
  case refused =>
    exact fun m dram v hbad => runs_of (f := (·.regCmd m pgTHRM (limitsReg dram) v)) (fun _ _ => rfl)
      fun u h => regCmd_limits_refused hbad h
  case keeps =>
    exact fun vout iout => runs_of (f := (·.avsInterval vout.toNat iout.toNat 0 0)) (fun _ _ => rfl)
      fun u ⟨hrun, hlock, hup, hsafe, hen, hfix, hdue, hlow, hhigh⟩ =>
        avsInterval_keeps hrun hlock hup hsafe hen hfix hdue hlow hhigh
  case raises =>
    exact fun vout iout => runs_of (f := (·.avsInterval vout.toNat iout.toNat 0 0)) (fun _ _ => rfl)
      fun u ⟨hrun, hlock, hup, hsafe, hen, hfix, hdue, hslow, hmax⟩ =>
        avsInterval_raises hrun hlock hup hsafe hen hfix hdue hslow hmax
  case alert =>
    exact fun status => runs_of (f := (·.pmbAlert status.toNat 0 0)) (fun _ _ => rfl)
      fun u ⟨hup, hlock⟩ => pmbAlert_sound hup hlock
  case override =>
    exact fun m v f p => runs_of (f := (·.regCmd m pgSYS R.SYS_AVSOVR v { failures := f.val, pec := p.val }))
      (fun _ _ => rfl) fun u h => regCmd_avsOverride h
  case enable =>
    exact fun m v => runs_of (f := (·.regCmd m pgSYS R.SYS_AVSCFG (withBit v R.SYS_AVSCFG_EN))) (fun _ _ => rfl)
      fun u ⟨h, hoff⟩ => regCmd_avsEnable h hoff

end Sys2Proof.Machine
end

section
/-!
SUPPORT and CERTIFICATE. Event flags: setting a flag, the order of a handshake, and where event records go (O7, O8, O9).
-/
namespace Sys2Proof.Machine

/-! ### What sending to the host leaves -/

/-- `t` has the DRAM store, the registers and the noted flags of `s`: what sending to the host or to the twin keeps. -/
structure SendFrame (s t : State) : Prop where
  mem : t.mem = s.mem
  regs : t.regs = s.regs
  raised : t.raised = s.raised

theorem SendFrame.rfl {s : State} : SendFrame s s := ⟨Eq.refl _, Eq.refl _, Eq.refl _⟩

theorem SendFrame.trans {s t u : State} (h : SendFrame s t) (k : SendFrame t u) : SendFrame s u :=
  ⟨k.mem.trans h.mem, k.regs.trans h.regs, k.raised.trans h.raised⟩

theorem sendFrame_hostSend (s : State) (n : Nat) (x : HostTx) : SendFrame s (s.hostSend n x) := by
  simp only [State.hostSend]
  split
  · exact .rfl
  · split <;> exact ⟨rfl, rfl, rfl⟩

theorem sendFrame_readOut (s : State) (c : Option (Nat × Nat)) : SendFrame s (s.readOut c) := by
  cases c with
  | none => exact .rfl
  | some e => simp only [State.readOut]; split <;> exact ⟨rfl, rfl, rfl⟩

theorem sendFrame_sendNow (s : State) (k : Nat) (f : ToSend) : SendFrame s (s.sendNow k f) :=
  have hset (x : Session) : SendFrame s (s.setSession k x) := ⟨rfl, rfl, rfl⟩
  ((hset _).trans (sendFrame_hostSend _ _ _)).trans (sendFrame_readOut _ _)

theorem sendFrame_sendSeq (s : State) (k : Nat) (f : ToSend) : SendFrame s (s.sendSeq k f) := by
  simp only [State.sendSeq]
  split
  · exact sendFrame_sendNow s k f
  · exact ⟨rfl, rfl, rfl⟩

theorem sendFrame_streamEvent (s : State) (b pos : Nat) (bs : List Byte) (n : Nat) :
    SendFrame s (s.streamEvent b pos bs n) := by
  induction n with
  | zero => exact .rfl
  | succ n ih =>
    simp only [State.streamEvent]
    split
    · exact ih.trans (sendFrame_sendSeq _ _ _)
    · exact ih

theorem sendFrame_stream (s : State) (b pos : Nat) (bs : List Byte) (n : Nat) : SendFrame s (s.stream b pos bs n) := by
  induction n generalizing s pos bs with
  | zero => exact .rfl
  | succ n ih =>
    simp only [State.stream]
    split
    · exact .rfl
    · exact (sendFrame_streamEvent s b pos _ 8).trans (ih _ _ _)

/-! ### What an event record leaves -/

/-- `t` has the noted flags of `s`, its basins where they were, the event basins of its pages, and the bytes of the DRAM
store outside the event basins of the pages in `P`. -/
structure RecordFrame (P : Nat → Prop) (s t : State) : Prop where
  raised : t.raised = s.raised
  place : ∀ b, b < 32 → ∀ n, t.basinAddr b n = s.basinAddr b n
  basin : ∀ q, (t.head q).eventBasin = (s.head q).eventBasin
  mem : ∀ a, (∀ q, P q → ∀ n, a ≠ s.basinAddr (s.head q).eventBasin n) → memByte t.mem a = memByte s.mem a

section Frame
variable {P : Nat → Prop} {s t u : State}

theorem RecordFrame.trans (h : RecordFrame P s t) (k : RecordFrame P t u) : RecordFrame P s u where
  raised := k.raised.trans h.raised
  place b hb n := (k.place b hb n).trans (h.place b hb n)
  basin q := (k.basin q).trans (h.basin q)
  mem a ha := by
    refine (k.mem a fun q hq n => ?_).trans (h.mem a ha)
    rw [h.basin, h.place _ (eventBasin_lt _)]
    exact ha q hq n

/-- The pages whose event basins take records may be more. -/
theorem RecordFrame.mono {Q : Nat → Prop} (h : RecordFrame P s t) (hpq : ∀ q, P q → Q q) : RecordFrame Q s t :=
  { h with mem := fun a ha => h.mem a fun q hq => ha q (hpq q hq) }

/-- Where the words that place the basins stay, the basins stay. -/
theorem basinAddr_of_words {b : Nat} (hbase : t.word (fieldAddr pgBASNW (R.BASN_RBASE b)) = s.word (fieldAddr pgBASNW (R.BASN_RBASE b)))
    (hcfg : t.word (fieldAddr pgBASNW (R.BASN_RCFG b)) = s.word (fieldAddr pgBASNW (R.BASN_RCFG b))) (n : Nat) :
    t.basinAddr b n = s.basinAddr b n := by
  have h1 : t.basinBase b = s.basinBase b := congrArg (fun w : Word => bitsOf w.toNat 0 23 * 4096) hbase
  have h2 : t.basinSize b = s.basinSize b := congrArg (fun w : Word => 2 ^ clampN 12 32 (bitsOf w.toNat 4 6)) hcfg
  simp only [State.basinAddr, h1, h2]

/-- An operation that keeps registers, headers, DRAM and noted flags keeps all that an event record keeps. -/
theorem SendFrame.record (h : SendFrame s t) (hh : t.hdr = s.hdr) : RecordFrame P s t where
  raised := h.raised
  place _ _ n := basinAddr_of_words (by simp only [State.word, h.regs]) (by simp only [State.word, h.regs]) n
  basin q := by simp only [State.head, hh]
  mem _ _ := by rw [h.mem]

theorem RecordFrame.rfl : RecordFrame P s s := SendFrame.rfl.record (Eq.refl _)

/-- A count leaves every other word. -/
theorem word_inc_other (s : State) (pg : Nat) (f : Fld) (a : Nat) (h : fieldAddr pg f ≠ a) : (s.inc pg f).word a = s.word a :=
  word_wr_other s pg f _ a h

/-- A count of a register that places no basin keeps all that an event record keeps. -/
theorem recordFrame_inc (pg : Nat) (f : Fld) (h : ∀ b, b < 32 → fieldAddr pg f ≠ fieldAddr pgBASNW (R.BASN_RBASE b) ∧
    fieldAddr pg f ≠ fieldAddr pgBASNW (R.BASN_RCFG b)) : RecordFrame P s (s.inc pg f) where
  raised := by simp only [inc_fields]
  place b hb n :=
    basinAddr_of_words (word_inc_other s pg f _ (h b hb).1) (word_inc_other s pg f _ (h b hb).2) n
  basin q := by simp only [State.head, inc_fields]
  mem _ _ := by simp only [inc_fields]

end Frame

/-- The bytes of a record enter its basin only. -/
theorem memByte_basinPut (s : State) (b n : Nat) (bs : List Byte) (a : Nat) (h : ∀ k, a ≠ s.basinAddr b k) :
    memByte (s.basinPut b n bs).mem a = memByte s.mem a := by
  induction bs generalizing s n with
  | nil => rfl
  | cons x xs ih =>
    rw [State.basinPut]
    refine (ih { s with mem := memPut s.mem (s.basinAddr b n) x } (n + 1) h).trans ?_
    exact (memByte_memPut _ _ _ _).trans (if_neg (h n).symm)

@[simp] theorem raised_basinPut (s : State) (b n : Nat) (bs : List Byte) : (s.basinPut b n bs).raised = s.raised := by
  induction bs generalizing s n with
  | nil => rfl
  | cons x xs ih => rw [State.basinPut, ih]

theorem regs_basinPut (s : State) (b n : Nat) (bs : List Byte) : (s.basinPut b n bs).regs = s.regs := by
  induction bs generalizing s n with
  | nil => rfl
  | cons x xs ih => rw [State.basinPut, ih]

/-- A record of the event basin of a page. -/
theorem recordFrame_recordRaw (s : State) (pg : Nat) (bs : List Byte) :
    RecordFrame (· = pg) s (s.recordRaw (s.head pg).eventBasin bs) := by
  have hb := eventBasin_lt (s.head pg)
  simp only [State.recordRaw]
  split
  · have hput : RecordFrame (· = pg) s (s.appendRaw (s.head pg).eventBasin bs) :=
      { raised := raised_basinPut _ _ _ _
        place := fun _ _ n => basinAddr_of_words (congrArg (mget _ · _) (regs_basinPut _ _ _ _))
          (congrArg (mget _ · _) (regs_basinPut _ _ _ _)) n
        basin := fun q => congrArg (fun m => (mget {} m q : Hdr).eventBasin) (hdr_basinPut _ _ _ _)
        mem := fun a ha => memByte_basinPut _ _ _ _ _ (ha pg rfl) }
    exact hput.trans ((sendFrame_stream _ _ _ _ _).record (hdr_stream _ _ _ _ _))
  · refine recordFrame_inc _ _ fun k _ => ?_
    simp only [fieldAddr, R.BASN_RDROP, R.BASN_RBASE, R.BASN_RCFG]
    omega

theorem eventBasin_set (h : Hdr) (flag : Nat) : (h.set flag).eventBasin = h.eventBasin := rfl

/-- A flag that is set leaves all but its header and the event basin of its page. -/
theorem recordFrame_raiseRaw (s : State) (pg flag d : Nat) : RecordFrame (· = pg) s (s.raiseRaw pg flag d).2 := by
  have hset : RecordFrame (· = pg) s (s.setHead pg ((s.head pg).set flag)) :=
    { raised := rfl
      place := fun _ _ _ => rfl
      basin := fun q => by rw [head_setHead]; split <;> simp_all [eventBasin_set]
      mem := fun _ _ => rfl }
  simp only [State.raiseRaw]
  split
  · have hrec := recordFrame_recordRaw (s.setHead pg ((s.head pg).set flag)) pg (s.eventRecord pg flag ((s.head pg).seq + 1#8) d)
    rw [hset.basin] at hrec
    exact hset.trans hrec
  · exact hset

theorem recordFrame_raiseChk (fs : List (Nat × Nat)) (s : State) : RecordFrame (· = pgCHK) s (s.raiseChk fs) := by
  induction fs generalizing s with
  | nil => exact .rfl
  | cons e t ih => exact (recordFrame_raiseRaw s _ _ _).trans (ih _)

theorem recordFrame_chkFeed {P : Nat → Prop} (s : State) (n inst : Nat) (bs : List Byte) (first last : Bool) (e : Option Nat) :
    RecordFrame P s (s.chkFeed n inst bs first last e).2 := by
  have hctx (c : Nat) (x : ChkCtx) : RecordFrame P s (s.setChkCtx n c x) := SendFrame.record ⟨rfl, rfl, rfl⟩ rfl
  have hcount (t : State) (bad : Bool) : RecordFrame P t (if bad then t.inc pgCHK R.CHK_MISCNT else t) := by
    split
    · refine recordFrame_inc _ _ fun b hb => ?_
      simp only [fieldAddr, pgCHK, pgBASNW, R.CHK_MISCNT, R.BASN_RBASE, R.BASN_RCFG]
      omega
    · exact .rfl
  simp only [State.chkFeed]
  generalize (if 16 ≤ n then inst % 64 else 0) = c
  split
  · exact hctx _ _
  · split
    · exact hctx _ _
    · exact (hctx _ _).trans (hcount _ _)

theorem recordFrame_chkTap {P : Nat → Prop} (s : State) (src inst : Nat) (bs : List Byte) (first last : Bool)
    (e : Option Nat) (n : Nat) : RecordFrame P s (s.chkTap src inst bs first last e n).2 := by
  induction n with
  | zero => exact .rfl
  | succ n ih =>
    simp only [State.chkTap]
    split
    · exact ih.trans (recordFrame_chkFeed _ _ _ _ _ _ _)
    · exact ih

theorem recordFrame_tap (s : State) (src inst : Nat) (bs : List Byte) (first last : Bool) (e : Option Nat) :
    RecordFrame (· = pgCHK) s (s.tap src inst bs first last e) :=
  (recordFrame_chkTap s src inst bs first last e 20).trans (recordFrame_raiseChk _ _)

/-- A flag set now leaves the DRAM store outside the event basins of its page and of the check channels. -/
theorem recordFrame_raiseNow (s : State) (pg flag d : Nat) :
    RecordFrame (fun q => q = pg ∨ q = pgCHK) s (s.raiseNow pg flag d) := by
  have hraw := (recordFrame_raiseRaw s pg flag d).mono (Q := fun q => q = pg ∨ q = pgCHK) fun _ => Or.inl
  simp only [State.raiseNow]
  split
  · exact hraw.trans ((recordFrame_tap _ _ _ _ _ _ _).mono fun _ => Or.inr)
  · exact hraw

/-! ### Setting a flag (R72) -/

/-- Setting a flag of a header: it is set, SEQ advances, and it alone remembers the new number. -/
theorem header_set (h : Hdr) (flag : Nat) :
    (h.set flag).flags = h.flags ||| BitVec.ofNat 24 (2 ^ flag) ∧ (h.set flag).seq = h.seq + 1#8 ∧
    mget 0#8 (h.set flag).rem flag = h.seq + 1#8 ∧ ∀ f, f ≠ flag → mget 0#8 (h.set flag).rem f = mget 0#8 h.rem f := by
  refine ⟨rfl, rfl, ?_, fun f hf => ?_⟩ <;> rw [Hdr.set, mget_mput]
  · exact if_pos rfl
  · exact if_neg hf.symm

/-- Only flags of the check channels are set as bytes pass a tap. -/
theorem head_raiseChk (fs : List (Nat × Nat)) (s : State) {q : Nat} (hq : q ≠ pgCHK) : (s.raiseChk fs).head q = s.head q := by
  induction fs generalizing s with
  | nil => rfl
  | cons e t ih => rw [State.raiseChk, ih, head_raiseRaw, if_neg hq.symm]

theorem head_tap (s : State) (src inst : Nat) (bs : List Byte) (first last : Bool) (e : Option Nat) {q : Nat} (hq : q ≠ pgCHK) :
    (s.tap src inst bs first last e).head q = s.head q := by
  rw [State.tap, head_raiseChk _ _ hq, State.head, hdr_chkTap]
  rfl

/-- The header that a flag set now leaves on its page, and on the others. -/
theorem head_raiseNow (s : State) (pg flag d : Nat) {q : Nat} (hq : q ≠ pgCHK) :
    (s.raiseNow pg flag d).head q = if pg = q then (s.head pg).set flag else s.head q := by
  rw [← head_raiseRaw s pg flag d q]
  simp only [State.raiseNow]
  split
  · exact head_tap _ _ _ _ _ _ _ hq
  · rfl

/-- Settles O7: the header of the page is set, and a record reaches other headers through the check channels only. -/
theorem flagSetting : Obligations.FlagSetting := by
  intro s pg flag d _
  obtain ⟨hflags, hseq, hrem, hothers⟩ := header_set (s.head pg) flag
  refine ⟨?raw, fun hpg => ?now⟩
  case raw =>
    have hown : (s.raiseRaw pg flag d).2.head pg = (s.head pg).set flag := by rw [head_raiseRaw, if_pos rfl]
    rw [hown]
    exact ⟨hflags, hseq, hrem, hothers, fun q hq => by rw [head_raiseRaw, if_neg hq.symm]⟩
  case now =>
    have hown : (s.raiseNow pg flag d).head pg = (s.head pg).set flag := by rw [head_raiseNow _ _ _ _ hpg, if_pos rfl]
    rw [hown]
    exact ⟨hflags, hseq, hrem, hothers, fun q hq hc => by rw [head_raiseNow _ _ _ _ hc, if_neg hq.symm],
      inner_raiseNow s pg flag d⟩

/-! ### Where a record goes (R76 to R78) -/

theorem length_leBytes (n k : Nat) : (leBytes n k).length = k := by
  induction k generalizing n with
  | zero => rfl
  | succ k ih => rw [leBytes, List.length_cons, ih]

theorem length_eventRecord (s : State) (pg flag : Nat) (seq : BitVec 8) (d : Nat) : (s.eventRecord pg flag seq d).length = 32 := by
  simp only [State.eventRecord, List.length_append, length_leBytes, zeros, List.length_replicate]

/-- A flag without a place for its record writes none. -/
theorem mem_raiseNow_noPlace {s : State} {pg : Nat} (h : s.canProduce (s.head pg).eventBasin 32 = false) (flag d : Nat) :
    (s.raiseNow pg flag d).mem = s.mem := by
  have h1 : (s.setHead pg ((s.head pg).set flag)).canProduce (s.head pg).eventBasin 32 = false := h
  by_cases hr : (s.head pg).routed flag = true
  · simp only [State.raiseNow, State.raiseRaw, hr, h1, State.recordRaw, length_eventRecord, Bool.false_eq_true, if_true,
      if_false, inc_fields, setHead_fields]
  · simp only [State.raiseNow, State.raiseRaw, if_neg hr, setHead_fields]

/-- Settles O9: no record without a place, and a record in the event basins only. -/
theorem eventRecordPlace : Obligations.EventRecordPlace := by
  intro s pg flag d
  refine ⟨fun h => mem_raiseNow_noPlace h flag d, fun a hpg hchk => (recordFrame_raiseNow s pg flag d).mem a ?_⟩
  rintro q (rfl | rfl)
  · exact hpg
  · exact hchk

/-! ### The order of a handshake (R73) -/

/-- Entries in ascending order of flag number. -/
def FlagsAscend (l : List (Nat × Nat × Nat)) : Prop := l.Pairwise fun a b => a.2.1 ≤ b.2.1

section Insert
variable {e : Nat × Nat × Nat} {l : List (Nat × Nat × Nat)}

theorem insertFlag_perm (e : Nat × Nat × Nat) (l : List (Nat × Nat × Nat)) : (insertFlag e l).Perm (e :: l) := by
  induction l with
  | nil => rfl
  | cons x t ih =>
    rw [insertFlag]
    split
    · rfl
    · exact (ih.cons x).trans (List.Perm.swap e x t)

theorem insertFlag_ascends (h : FlagsAscend l) : FlagsAscend (insertFlag e l) := by
  induction l with
  | nil => exact List.pairwise_singleton _ _
  | cons x t ih =>
    obtain ⟨hx, ht⟩ := List.pairwise_cons.mp h
    rw [insertFlag]
    split
    next hlt =>
      refine List.pairwise_cons.mpr ⟨fun y hy => ?_, h⟩
      rcases List.mem_cons.mp hy with rfl | hy
      · exact Nat.le_of_lt hlt
      · exact (Nat.le_of_lt hlt).trans (hx y hy)
    next hge =>
      refine List.pairwise_cons.mpr ⟨fun y hy => ?_, ih ht⟩
      rcases List.mem_cons.mp ((insertFlag_perm e t).mem_iff.mp hy) with rfl | hy
      · exact Nat.not_lt.mp hge
      · exact hx y hy

/-- Among the entries of one number, the entry put in stands last. -/
theorem insertFlag_filter (h : FlagsAscend l) (f : Nat) :
    (insertFlag e l).filter (fun x => x.2.1 == f) = l.filter (fun x => x.2.1 == f) ++ [e].filter fun x => x.2.1 == f := by
  induction l with
  | nil => rfl
  | cons x t ih =>
    obtain ⟨hx, ht⟩ := List.pairwise_cons.mp h
    rw [insertFlag]
    split
    next hlt =>
      rw [← List.singleton_append, List.filter_append]
      by_cases hf : e.2.1 = f
      · have hnone : (x :: t).filter (fun y => y.2.1 == f) = [] := by
          refine List.filter_eq_nil_iff.mpr fun y hy => ?_
          have hle : x.2.1 ≤ y.2.1 := by
            rcases List.mem_cons.mp hy with rfl | hy
            · exact Nat.le_refl _
            · exact hx y hy
          simp only [beq_iff_eq]
          omega
        rw [hnone, List.append_nil, List.nil_append]
      · have hskip : [e].filter (fun y => y.2.1 == f) = [] := by simp [hf]
        rw [hskip, List.nil_append, List.append_nil]
    next =>
      rw [List.filter_cons, List.filter_cons, ih ht]
      split <;> rfl

/-- Entries put in one by one behind a list in order: the same entries, in order, those of one number as they came. -/
theorem flagOrder_from (l m : List (Nat × Nat × Nat)) (hm : FlagsAscend m) :
    (l.foldl (fun m e => insertFlag e m) m).Perm (m ++ l) ∧ FlagsAscend (l.foldl (fun m e => insertFlag e m) m) ∧
    ∀ f, (l.foldl (fun m e => insertFlag e m) m).filter (fun e => e.2.1 == f) =
      m.filter (fun e => e.2.1 == f) ++ l.filter fun e => e.2.1 == f := by
  induction l generalizing m with
  | nil => simp [hm]
  | cons e t ih =>
    obtain ⟨hperm, hord, hfilter⟩ := ih (insertFlag e m) (insertFlag_ascends hm)
    refine ⟨?_, hord, fun f => ?_⟩
    · exact hperm.trans (((insertFlag_perm e m).append_right t).trans List.perm_middle.symm)
    · rw [List.foldl_cons, hfilter f, insertFlag_filter hm, List.append_assoc, ← List.filter_append, List.singleton_append]

end Insert

theorem raised_raiseList (fs : List (Nat × Nat × Nat)) (s : State) : (s.raiseList fs).raised = s.raised := by
  induction fs generalizing s with
  | nil => rfl
  | cons e t ih => exact (ih _).trans (recordFrame_raiseNow s _ _ _).raised

theorem raised_raiseAll (s : State) : s.raiseAll.raised = [] := raised_raiseList _ _

/-- A flag set now is set. -/
theorem flag_raiseNow (s : State) (pg flag d : Nat) (h : flag < 24) : (s.raiseNow pg flag d).flag pg flag = true := by
  have hraw : (s.raiseRaw pg flag d).2.flag pg flag = true := by
    rw [State.flag, head_raiseRaw, if_pos rfl, Hdr.set, BitVec.getLsbD_or, BitVec.getLsbD_ofNat, Nat.testBit_two_pow_self]
    simp [h]
  simp only [State.raiseNow]
  split
  · exact flagsIn_tap _ _ _ _ _ _ _ _ _ hraw
  · exact hraw

/-- Every flag of a list is set after it. -/
theorem flag_raiseList {fs : List (Nat × Nat × Nat)} {r : Nat × Nat × Nat} (hr : r ∈ fs) (h : r.2.1 < 24) (s : State) :
    (s.raiseList fs).flag r.1 r.2.1 = true := by
  induction fs generalizing s with
  | nil => cases hr
  | cons e t ih =>
    obtain ⟨pg, f, d⟩ := e
    rw [State.raiseList]
    rcases List.mem_cons.mp hr with rfl | ht
    · exact flagsIn_raiseList t (s.raiseNow pg f d) pg f (flag_raiseNow s pg f d h)
    · exact ih ht _

theorem flag_raiseAll {s : State} {r : Nat × Nat × Nat} (hr : r ∈ s.raised) (h : r.2.1 < 24) :
    s.raiseAll.flag r.1 r.2.1 = true :=
  flag_raiseList ((flagOrder_from s.raised [] .nil).1.mem_iff.mpr hr) h _

/-! ### The end of a command -/

theorem raised_holdMark (s : State) : s.holdMark.raised = s.raised := by
  simp only [State.holdMark]
  split
  · rfl
  · split <;> rfl

/-- The hold of the colour loop notes flags behind those of the command. -/
theorem mem_raised_loopHold {s : State} {r : Nat × Nat × Nat} (hr : r ∈ s.raised) : r ∈ s.loopHold.raised := by
  simp only [State.loopHold]
  split
  · exact hr
  · simp only [State.loopStatus, wr_fields, apply_ite State.raised, raised_holdMark, ite_self, State.raise, setLoop_fields]
    split
    · exact List.mem_append_left _ hr
    · split
      · exact List.mem_append_left _ hr
      · exact hr

theorem sendFrame_credits (s : State) : SendFrame s s.credits := by
  have h (t : State) (n : Nat) : SendFrame t (t.creditCheck n) := by
    simp only [State.creditCheck]
    split
    · have hlane (x : HostLane) : SendFrame t (t.draw.2.setLane n x) := ⟨rfl, rfl, rfl⟩
      exact (hlane _).trans (sendFrame_hostSend _ _ _)
    · exact .rfl
  exact (((h s 0).trans (h _ 1)).trans (h _ 2)).trans (h _ 3)

theorem sendFrame_twinSendOn (s : State) (n : Nat) (f : TwinFrame) : SendFrame s (s.twinSendOn n f) := by
  obtain ⟨x, hx⟩ := twinSendOn_twin s n f
  exact hx ▸ ⟨rfl, rfl, rfl⟩

theorem sendFrame_helloChange (s old : State) : SendFrame s (s.helloChange old) := by
  simp only [State.helloChange]
  split
  · exact (sendFrame_twinSendOn _ _ _).trans (sendFrame_twinSendOn _ _ _)
  · exact .rfl

theorem sendFrame_shareSessions (s old : State) (n : Nat) : SendFrame s (s.shareSessions old n) := by
  induction n with
  | zero => exact .rfl
  | succ n ih =>
    simp only [State.shareSessions]
    split
    · refine ih.trans ?_
      obtain ⟨x, hx⟩ := sendDelta_twin (s.shareSessions old n) (.session (Fin.ofNat 8 n) _ _ _ _ _)
      exact hx ▸ ⟨rfl, rfl, rfl⟩
    · exact ih

/-- Once the flags of a command are set, nothing that follows notes another. -/
theorem raised_after (e s : State) : (e.after s).raised = [] := by
  have hset : e.loopHold.raiseAll.raised = [] := raised_raiseAll _
  have hmeas (t : State) : t.measDrop.raised = t.raised := by simp only [State.measDrop]; split <;> rfl
  have hsluice (t : State) : t.sluiceRule.raised = t.raised := by simp only [State.sluiceRule]; split <;> rfl
  have hpins (t : State) : t.settle.raised = t.raised := by simp only [State.settle]; split <;> rfl
  simp only [State.after, State.finish, hmeas, hsluice, hpins, (sendFrame_shareSessions _ _ _).raised,
    (sendFrame_helloChange _ _).raised, (sendFrame_credits _).raised, hset]

/-- The headers after a command are those that its flags have left. -/
theorem hdr_after (e s : State) : (e.after s).hdr = e.loopHold.raiseAll.hdr := by
  simp only [State.after, State.finish, hdr_measDrop, hdr_sluiceRule, hdr_settle, hdr_shareSessions, hdr_helloChange,
    hdr_credits]

/-- Settles O8: the order of the list by inserting its entries one by one, and its flags by setting them one by one. -/
theorem flagOrder_of_handshake : Obligations.FlagOrder := by
  refine ⟨fun l => ?order, fun s => rfl, fun e s => ⟨raised_after e s, fun r hr hlt => ?set⟩⟩
  case order =>
    obtain ⟨hperm, hord, hfilter⟩ := flagOrder_from l [] .nil
    exact ⟨hperm, hord, hfilter⟩
  case set => exact flagsIn_of_hdr (hdr_after e s) _ _ (flag_raiseAll (mem_raised_loopHold hr) hlt)

end Sys2Proof.Machine
end

section
/-!
CERTIFICATE. Register writes: the checks of a write, plain registers, and the event registers of a header (O11, O15, O16).
-/
namespace Sys2Proof.Machine

/-! ### The checks of a write (R35, R42 to R44, R585, R661) -/

section Checks
variable {s : State} {m : Master} {addr n : Nat} {k : PageKind}

/-- A write to an address that no page occupies is ignored (R35). -/
theorem regWrite_noPage (h : pageKind (pageNo addr) = none) (v : Word) : s.regWrite m addr v = s := by
  simp only [State.regWrite, State.accessWrite, h]

/-- A write to a page that does not answer, or to an absent unit, is ignored (R2, R661). -/
theorem regWrite_unanswered (hk : pageKind (pageNo addr) = some (k, n))
    (h : s.pageAnswers k = false ∨ s.absent k n (pageOff addr) true = true) (v : Word) : s.regWrite m addr v = s := by
  simp only [State.regWrite, State.accessWrite, hk]
  split
  · rfl
  · rcases h with h | h
    · simp only [h, Bool.not_false, if_true]
    · simp only [h, if_true]
      split <;> rfl

/-- Whom a page that answers refuses: the twin without an image, an unprivileged master in a privileged group, the host on a
mirror page of a standby (R42, R43, R585). -/
theorem regWrite_refused (hk : pageKind (pageNo addr) = some (k, n)) (h4 : addr % 4 = 0) (ha : s.pageAnswers k = true)
    (hp : s.absent k n (pageOff addr) true = false)
    (h : (m = .twin ∧ k.mirror = false) ∨ (privOffset k (pageOff addr) = true ∧ s.privileged m = false) ∨
      (isHost m = true ∧ k.mirror = true ∧ s.isStandby = true)) (v : Word) :
    s.regWrite m addr v = s.refuse m addr v.toNat 7 := by
  simp only [State.regWrite, State.accessWrite, hk, h4, ha, hp, ne_eq, not_true_eq_false, Bool.not_true, Bool.false_eq_true,
    if_false]
  split
  · rfl
  next htwin =>
    split
    · rfl
    next hpriv =>
      rcases h with h | ⟨h1, h2⟩ | ⟨h1, h2, h3⟩
      · exact absurd h htwin
      · simp [h1, h2] at hpriv
      · simp only [h1, h2, h3, Bool.and_self, if_true]

end Checks

/-- Settles O11: the checks in the order in which a write meets them. -/
theorem writeChecks : Obligations.WriteChecks := by
  refine ⟨?noPage, ?refused, ?unanswered⟩
  case noPage => exact fun m a v hk => runs_of (f := (·.regWrite m a.toNat v)) (fun _ _ => rfl) fun u _ => regWrite_noPage hk v
  case refused =>
    exact fun m a v k n hk h4 => runs_of (f := (·.regWrite m a.toNat v)) (fun _ _ => rfl)
      fun u ⟨ha, hp, h⟩ => regWrite_refused hk h4 ha hp h v
  case unanswered =>
    exact fun m a v k n hk => runs_of (f := (·.regWrite m a.toNat v)) (fun _ _ => rfl)
      fun u h => regWrite_unanswered hk h v

/-! ### Storing a register (R33) -/

section Store
variable {s : State} {pg a b i : Nat} {d : RegDef} {v : Word}

theorem word_noteWrite (s : State) (a b : Nat) : (s.noteWrite a).word b = s.word b := rfl

/-- A write of a register without shadow storage leaves every other word. -/
theorem word_putReg_other (hd : d.rws = 0) (hb : b ≠ a) : (s.putReg pg a d v).word b = s.word b := by
  simp only [State.putReg, hd, if_true, word_noteWrite, State.putPlain, word_setWord, if_neg hb.symm]

theorem testBit_mask {mask : Nat} (hm : mask < 2 ^ 32) (hi : i < 32) : (2 ^ 32 - 1 - mask).testBit i = !mask.testBit i := by
  rw [Nat.sub_sub, Nat.add_comm 1, Nat.testBit_two_pow_sub_succ hm]
  simp [hi]

/-- The bits of a mask are taken from one word, the others from another. -/
theorem getLsbD_masked (x y : Word) {mask : Nat} (hm : mask < 2 ^ 32) (hi : i < 32) :
    (BitVec.ofNat 32 (Nat.land x.toNat (2 ^ 32 - 1 - mask) + Nat.land y.toNat mask)).getLsbD i =
      if bitOf mask i then y.getLsbD i else x.getLsbD i := by
  have hx (j : Nat) (hj : j < 32) : (BitVec.ofNat 32 (Nat.land x.toNat (2 ^ 32 - 1 - mask))).getLsbD j =
      (x.getLsbD j && !mask.testBit j) := by
    rw [BitVec.getLsbD_ofNat, show Nat.land x.toNat _ = x.toNat &&& _ from rfl, Nat.testBit_and, testBit_mask hm hj,
      BitVec.testBit_toNat]
    simp [hj]
  have hy (j : Nat) (hj : j < 32) : (BitVec.ofNat 32 (Nat.land y.toNat mask)).getLsbD j = (y.getLsbD j && mask.testBit j) := by
    rw [BitVec.getLsbD_ofNat, show Nat.land y.toNat _ = y.toNat &&& _ from rfl, Nat.testBit_and, BitVec.testBit_toNat]
    simp [hj]
  have hapart : BitVec.ofNat 32 (Nat.land x.toNat (2 ^ 32 - 1 - mask)) &&& BitVec.ofNat 32 (Nat.land y.toNat mask) = 0#32 := by
    refine BitVec.eq_of_getLsbD_eq fun j hj => ?_
    rw [BitVec.getLsbD_and, hx j hj, hy j hj]
    cases mask.testBit j <;> simp
  rw [BitVec.ofNat_add, BitVec.add_eq_or_of_and_eq_zero _ _ hapart, BitVec.getLsbD_or, hx i hi, hy i hi, bitOf_eq_testBit]
  cases mask.testBit i <;> simp

/-- A write of a register without shadow storage takes its RW and CNT bits from the value, a count with what the hardware has
added in the same window (R33, R86). -/
theorem word_putReg_same (hd : d.rws = 0) (hm : d.rw + d.cnt < 2 ^ 32) (hi : i < 32) :
    ((s.putReg pg a d v).word a).getLsbD i =
      if bitOf (d.rw + d.cnt) i then (s.withHits a v).getLsbD i else (s.word a).getLsbD i := by
  simp only [State.putReg, hd, if_true, word_noteWrite, State.putPlain, word_setWord]
  exact getLsbD_masked _ _ hm hi

end Store

/-! ### Writes of plain registers and of header registers -/

/-- A write of a block register outside a window, on a page without a twin image and without privileged groups. -/
theorem regWrite_plainPage {s t : State} {m : Master} {addr n i : Nat} {k : PageKind} {d : RegDef} {v : Word} {l : Bool}
    (h : s.takes m addr k n = true) (ho : 0x40 ≤ pageOff addr) (hf : findReg k.regs (pageOff addr) = some (d, i))
    (hg : k.privGroups = 0) (hn : windowOf k (pageOff addr) = none) (hm : k.mirror = false)
    (hw : s.writeBlock {} m k n addr d i v = (0, l, t)) : s.regWrite m addr v = t := by
  have hp : privOffset k (pageOff addr) = false := by simp [privOffset, hg, bitOf]
  rw [regWrite_block h ho hf hp hw, windowNext_none _ _ _ hn, mirrorWrite_off _ _ _ _ _ _ hm]

/-- A write of a header register of a page without a twin image that its page accepts, the selection of an item apart. -/
theorem regWrite_headPlain {s t : State} {m : Master} {pg off n : Nat} {k : PageKind} {v : Word} {l : Bool}
    (h : s.takes m (headAddr pg off) k n = true) (ho : off < 0x40) (hs : off ≠ 0x20) (hm : k.mirror = false)
    (hw : s.writeHead m pg k n off v.toNat = (0, l, t)) : s.regWrite m (headAddr pg off) v = t := by
  have hoff : pageOff (headAddr pg off) = off := pageOff_headAddr pg off (by omega)
  rw [regWrite_head (t := t) (l := l) h (by omega) (by rwa [hoff, pageNo_headAddr pg off (by omega)]) (by simp [hoff, hs]),
    mirrorWrite_off _ _ _ _ _ _ hm]

/-- An address is the register of its page at its offset. -/
theorem headAddr_pageNo (a : Nat) : headAddr (pageNo a) (pageOff a) = a := by
  simp only [headAddr, pageNo, pageOff]
  omega

/-- Settles O15: each page by what its block does with the stored register; storing by the bits of the register's masks. -/
theorem plainRegisterWrite : Obligations.PlainRegisterWrite := by
  refine ⟨?plain, ?yrt, ?ptpa, fun s pg a d v b hd hb => word_putReg_other hd hb,
    fun s pg a d v i hd hm hi => word_putReg_same hd hm hi, ?evten⟩
  case plain =>
    intro m a v k n i d hk ho hf
    refine runs_of (f := (·.regWrite m a.toNat v)) (fun _ _ => rfl) fun u h => regWrite_accept h ho hf (Or.inl rfl) ?_
    rcases hk with rfl | rfl | rfl <;> rfl
  case yrt =>
    exact fun m a v n i d ho hf => runs_of (f := (·.regWrite m a.toNat v)) (fun _ _ => rfl)
      fun u h => regWrite_plainPage h ho hf rfl rfl rfl rfl
  case ptpa =>
    exact fun m a v n i d ho hf => runs_of (f := (·.regWrite m a.toNat v)) (fun _ _ => rfl)
      fun u h => regWrite_plainPage h ho hf rfl rfl rfl rfl
  case evten =>
    refine fun m a v k n ho hm => runs_of (f := (·.regWrite m a.toNat v)) (fun _ _ => rfl) fun u h => ?_
    have ha : headAddr (pageNo a.toNat) 0x18 = a.toNat := (congrArg _ ho).symm.trans (headAddr_pageNo a.toNat)
    rw [← ha] at h ⊢
    rw [pageNo_headAddr _ _ (by decide)]
    exact regWrite_headPlain h (by decide) (by decide) hm rfl

/-! ### Clearing event flags (R74) -/

/-- Flags gathered one by one: those of the list, besides those at hand. -/
theorem getLsbD_gather (l : List Nat) (x : BitVec 24) {f : Nat} (hf : f < 24) :
    (l.foldl (fun y g => y ||| BitVec.ofNat 24 (2 ^ g)) x).getLsbD f = (x.getLsbD f || l.contains f) := by
  induction l generalizing x with
  | nil => simp
  | cons g t ih =>
    rw [List.foldl_cons, ih, BitVec.getLsbD_or, BitVec.getLsbD_ofNat, Nat.testBit_two_pow, List.contains_cons, Bool.or_assoc]
    simp [hf, eq_comm (a := g), BEq.beq]

/-- The age of a remembered number, as the hardware and as the rule count it. -/
theorem age_eq (v : Word) (r : BitVec 8) :
    decide ((bitsOf v.toNat 24 8 + 256 - r.toNat) % 256 < 128) =
      decide ((((v.toNat / 2 ^ 24 : Nat) : Int) - (r.toNat : Nat)) % 256 < 128) := by
  have hv := v.isLt
  have hr := r.isLt
  refine decide_eq_decide.mpr ?_
  simp only [bitsOf]
  omega

/-- A flag stays that was set and that the mask leaves out or whose number is newer than SEQ (R74). -/
theorem getLsbD_clear (h : Hdr) (v : Word) {f : Nat} (hf : f < 24) :
    (h.clear v.toNat).flags.getLsbD f = (h.flags.getLsbD f &&
      !(v.getLsbD f && decide ((((v.toNat / 2 ^ 24 : Nat) : Int) - ((mget 0#8 h.rem f).toNat : Nat)) % 256 < 128))) := by
  have hmem : (h.kept v.toNat).contains f =
      (bitOf h.flags.toNat f && !(bitOf v.toNat f && decide ((bitsOf v.toNat 24 8 + 256 - (mget 0#8 h.rem f).toNat) % 256 < 128))) := by
    rw [Hdr.kept, Bool.eq_iff_iff, List.contains_iff_mem, List.mem_filter, List.mem_range]
    simp only [hf, true_and]
  rw [Hdr.clear, getLsbD_gather _ _ hf, BitVec.getLsbD_zero, Bool.false_or, hmem, bitOf_eq_testBit, bitOf_eq_testBit, age_eq,
    BitVec.testBit_toNat, BitVec.testBit_toNat]

/-- Settles O16: PG_EVTCLR as a write of its header, and the flags that it leaves bit by bit. -/
theorem eventClear : Obligations.EventClear := by
  refine ⟨fun m pg v k n => ?write, fun h v f hf => ⟨getLsbD_clear h v hf, rfl, rfl⟩⟩
  case write =>
    refine runs_of (f := (·.regWrite m (headAddr pg.toNat 0x14) v)) (fun _ _ => rfl) fun u h => ?_
    have hoff : pageOff (headAddr pg.toNat 0x14) = 0x14 := pageOff_headAddr _ _ (by decide)
    exact regWrite_head (l := true) h (by omega) (by rw [hoff, pageNo_headAddr _ _ (by decide)]; rfl) (by simp [hoff])

end Sys2Proof.Machine
end

section
/-!
CERTIFICATE. LOAD, step by step (O13).
-/
namespace Sys2Proof.Machine

section Load
variable {u : State} (hs : u.dev.state = .load)
include hs

/-- Step 1 takes the straps by majority, with EXTBUILD for BUILD_MODE 1 (R638). -/
theorem loadStep_straps (hn : u.startStep = 1) (a b c : BitVec 6) :
    u.loadStep (.straps a b c) = ((u.wr pgSYS R.SYS_STRAP (majority a b c + 256)).wr pgSYS R.SYS_START_EXTBUILD
      (b2n (majority a b c % 4 == 1))).toStep 2 := by
  simp only [State.loadStep, hs, hn, ne_eq, not_true_eq_false, if_true, if_false]

/-- Step 2 tells TREF of 10 MHz from TREF of 25 MHz (R98). -/
theorem loadStep_tref (hn : u.startStep = 2) (hm : u.rd pgSYS R.SYS_STRAP_BOOT_MODE ≠ 2) (hz : Nat) :
    u.loadStep (.tref hz) = if near100ppm hz 10000000 then u.toStep 3
      else if near100ppm hz 25000000 then (u.wr pgTIME R.TIME_STAT_TREF25 1).toStep 3 else u.startFail 2 0 := by
  simp only [State.loadStep, hs, hn, hm, ne_eq, not_true_eq_false, if_true, if_false]

/-- Step 3 ends with the lock, which starts the counter at 0, or fails (R99). -/
theorem loadStep_locked (hn : u.startStep = 3) (ok : Bool) (n : Nat) :
    u.loadStep (.locked ok n) = if ok then
        ({ u with counter := 0#80, dev := { u.dev with releasedAt := n }, time := { u.time with running := true } } :
          State).toStep 4
      else u.startFail 3 0 := by
  simp only [State.loadStep, hs, hn, ne_eq, not_true_eq_false, if_true, if_false]

/-- Step 4 loads sound OTP data (R660). -/
theorem loadStep_otp (hn : u.startStep = 4) (hb : u.otpBad = none) (hc : u.part.calOk = true) :
    u.loadStep (.otp true) = u.otpLoad.toStep 5 := by
  simp only [State.loadStep, hs, hn, hb, hc, Bool.and_self, ne_eq, not_true_eq_false, if_true, if_false]

theorem loadStep_sensors (hn : u.startStep = 5) : u.loadStep .sensors = u.toStep 6 := by
  simp only [State.loadStep, hs, hn, ne_eq, not_true_eq_false, if_true, if_false]

/-- Step 6 ends LOAD with camera rails as their straps select (R640). -/
theorem loadStep_camera (hn : u.startStep = 6) {a b : Nat} (ha : railOk (u.rdb pgSYS R.SYS_STRAP_CAMA_VSEL) a = true)
    (hb : railOk (u.rdb pgSYS R.SYS_STRAP_CAMB_VSEL) b = true) :
    u.loadStep (.camera a b) = (((u.goto .build).toStep 7).markTime 0).trainBegin := by
  simp only [State.loadStep, hs, hn, ha, hb, Bool.not_true, Bool.false_eq_true, ne_eq, not_true_eq_false, if_true, if_false]

end Load

/-- No frequency is near both. -/
theorem near100ppm_apart {hz : Nat} (h : near100ppm hz 25000000 = true) : near100ppm hz 10000000 = false := by
  simp only [near100ppm, Bool.and_eq_true, Bool.and_eq_false_iff, decide_eq_true_eq, decide_eq_false_iff_not] at h ⊢
  omega

/-- Settles O13: each step in the branch that its result chooses. -/
theorem loadSteps : Obligations.LoadSteps := by
  refine ⟨?straps, ?tref10, ?tref25, ?lock, ?otp, ?sensors, ?camera, ?noLock⟩
  case straps =>
    exact fun a b c => runs_of (f := (·.loadStep _)) (fun _ _ => rfl) fun u ⟨hs, hn⟩ => loadStep_straps hs hn a b c
  case tref10 =>
    exact fun hz => runs_of (f := (·.loadStep _)) (fun _ _ => rfl)
      fun u ⟨hs, hn, hm, h⟩ => (loadStep_tref hs hn hm hz).trans (if_pos h)
  case tref25 =>
    refine fun hz => runs_of (f := (·.loadStep _)) (fun _ _ => rfl) fun u ⟨hs, hn, hm, h⟩ => ?_
    rw [loadStep_tref hs hn hm, near100ppm_apart h, h]
    rfl
  case lock => exact fun n => runs_of (f := (·.loadStep _)) (fun _ _ => rfl) fun u ⟨hs, hn⟩ => loadStep_locked hs hn true n
  case otp => exact runs_of (f := (·.loadStep _)) (fun _ _ => rfl) fun u ⟨hs, hn, hb, hc⟩ => loadStep_otp hs hn hb hc
  case sensors => exact runs_of (f := (·.loadStep _)) (fun _ _ => rfl) fun u ⟨hs, hn⟩ => loadStep_sensors hs hn
  case camera =>
    exact fun a b => runs_of (f := (·.loadStep _)) (fun _ _ => rfl) fun u ⟨hs, hn, ha, hb⟩ => loadStep_camera hs hn ha hb
  case noLock =>
    exact fun n => runs_of (f := (·.loadStep _)) (fun _ _ => rfl) fun u ⟨hs, hn⟩ => loadStep_locked hs hn false n

end Sys2Proof.Machine
end

section
/-!
CERTIFICATE. Shadow storage commands and the mailbox (O18, O19).
-/
namespace Sys2Proof.Machine

/-! ### Headers written twice, and the low bits of a command word -/

/-- The last entry listed at a key stands. -/
theorem mput_mput {α : Type} (m : NMap α) (k : Nat) (v w : α) : mput (mput m k v) k w = mput m k w := by
  induction m with
  | nil => simp [mput]
  | cons e t ih =>
    obtain ⟨a, x⟩ := e
    simp only [mput]
    split
    · simp [mput]
    · split
      · simp [mput]
      next hlt hne => simp [mput, hlt, hne, ih]

/-- The last of two headers of a page stands, neither being a header at reset. -/
theorem mset_mset_header (m : NMap Hdr) (pg : Nat) {g h : Hdr} (hg : g ≠ {}) (hh : h ≠ {}) :
    mset {} (mset {} m pg g) pg h = mset {} m pg h := by
  simp only [mset, if_neg hg, if_neg hh, mput_mput]

/-- A header in held mode is not one at reset. -/
theorem held_ne_reset {h : Hdr} (hh : h.held = true) : h ≠ {} := by
  rintro rfl
  cases hh

/-- A command bit leaves the bits below it. -/
theorem withBit_mod (v : Word) {f : Fld} {n : Nat} (hf : f.lo < 32) (hn : n ≤ f.lo) :
    (withBit v f).toNat % 2 ^ n = v.toNat % 2 ^ n := by
  refine Nat.eq_of_testBit_eq fun i => ?_
  rw [Nat.testBit_mod_two_pow, Nat.testBit_mod_two_pow, ← bitOf_eq_testBit, ← bitOf_eq_testBit, bitOf_withBit_eq v f i hf]
  by_cases hi : i < n
  · simp [show i ≠ f.lo by omega]
  · simp [hi]

/-! ### PG_APPLY (R81 to R83, R86, R706, R707) -/

/-- The header of a page with the fields of a PG_APPLY value, whose command word is `w`. -/
def State.applyHead (s : State) (pg : Nat) (v w : Word) : Hdr :=
  { s.head pg with cls := v.toNat % 8, held := bitOf v.toNat 3, view := bitOf v.toNat 6,
                   appseq := BitVec.ofNat 8 (bitsOf (s.withHits (headAddr pg 0x1C) w).toNat 16 8) }

/-- The staging of a page moves to its committed set, later values winning (R81). -/
def State.commitStaged (s : State) (pg : Nat) : State := { s with
  staged := s.staged.filter (!onPage pg ·)
  committed := (s.staged.filter (onPage pg)).foldl (fun q e => mput q e.1 e.2) s.committed }

/-- What a page keeps after a COMMIT for a boundary of the same window: nothing without a set that awaits one, else the set as
it was before (R86). -/
def State.lateAfter (s : State) (pg : Nat) : Option LateCommit :=
  if (s.head pg).awaiting.isNone then none
  else match s.lateCommit pg with
    | some l => some { l with set := (s.staged.filter (onPage pg)).foldl (fun q e => mput q e.1 e.2) l.set }
    | none => some { tick := s.now, before := s.committed.filter (onPage pg),
                     set := (s.staged.filter (onPage pg)).foldl (fun q e => mput q e.1 e.2) [] }

section Apply
variable {s t : State} {m : Master} {pg n : Nat} {k : PageKind} {v : Word} {c : ApplyClass}

/-- Whether the source of a class runs depends on the device state and the enables of the pages. -/
theorem sourceIdle_congr (hd : t.dev = s.dev) (he : ∀ q, (t.head q).en = (s.head q).en) (pg : Nat) (c : ApplyClass)
    (a : Option Nat) : t.sourceIdle pg c a = s.sourceIdle pg c a := by
  have hen (q : Nat) : t.enabled q = s.enabled q := by simp only [State.enabled, he]
  cases c <;> simp only [State.sourceIdle, State.portIdle, hd, hen]

/-- A new header with the enable of the old leaves the enables of all pages. -/
theorem en_setHead {h : Hdr} (he : h.en = (s.head pg).en) (q : Nat) : ((s.setHead pg h).head q).en = (s.head q).en := by
  rw [head_setHead]
  split
  next hq => exact hq ▸ he
  next => rfl

theorem sourceIdle_setHead {h : Hdr} (he : h.en = (s.head pg).en) (q : Nat) (c : ApplyClass) (a : Option Nat) :
    (s.setHead pg h).sourceIdle q c a = s.sourceIdle q c a :=
  sourceIdle_congr (by rfl) (en_setHead he) q c a

theorem sourceIdle_commitStaged (q : Nat) (c : ApplyClass) (a : Option Nat) :
    (s.commitStaged pg).sourceIdle q c a = s.sourceIdle q c a :=
  sourceIdle_congr (by rfl) (fun _ => rfl) q c a

/-- A write of PG_APPLY with a command bit, of a class that the page accepts: its fields, then COMMIT, then DISCARD. -/
theorem writeApply_accepted (hc : ApplyClass.ofCode (v.toNat % 8) = some c) (hk : bitOf k.cap (8 + v.toNat % 8) = true)
    {f : Fld} (hf : f.lo = 4 ∨ f.lo = 7) :
    s.writeApply pg k (withBit v f).toNat = wrote (
      let t := s.setHead pg (s.applyHead pg v (withBit v f))
      let t := if bitOf v.toNat 4 || decide (f.lo = 4) then t.commit pg c else t
      if bitOf v.toNat 7 || decide (f.lo = 7) then t.discard pg else t) := by
  have hlt : f.lo < 32 := by omega
  have hcode : bitsOf (withBit v f).toNat 0 3 = v.toNat % 8 := by
    simp only [bitsOf, Nat.pow_zero, Nat.div_one]
    exact withBit_mod v hlt (by omega)
  have h3 : bitOf (withBit v f).toNat 3 = bitOf v.toNat 3 := by
    rw [bitOf_withBit_eq v f 3 hlt]
    simp [show (3 : Nat) ≠ f.lo by omega]
  have h6 : bitOf (withBit v f).toNat 6 = bitOf v.toNat 6 := by
    rw [bitOf_withBit_eq v f 6 hlt]
    simp [show (6 : Nat) ≠ f.lo by omega]
  simp only [State.writeApply, hcode, hc, hk, h3, h6, bitOf_withBit_eq v f _ hlt, BitVec.ofNat_toNat, BitVec.setWidth_eq,
    eq_comm (b := f.lo), Bool.true_eq_false, if_false]
  rfl

/-- A COMMIT in held mode whose boundary is to come: the staging of the page joins the set that awaits it. -/
theorem commit_waits (hh : (s.head pg).held = true) (hi : s.sourceIdle pg ((s.head pg).awaiting.getD c) none = false) :
    s.commit pg c = (s.commitStaged pg).setHead pg
      { s.head pg with awaiting := some ((s.head pg).awaiting.getD c), late := s.lateAfter pg } := by
  have hheld : ¬ (!(s.head pg).held) = true := by simp [hh]
  have hidle : ¬ ((s.commitStaged pg).setHead pg
      { s.head pg with awaiting := some ((s.head pg).awaiting.getD c), late := s.lateAfter pg }).sourceIdle pg
        ((s.head pg).awaiting.getD c) none = true := by
    rw [sourceIdle_setHead (by rfl), sourceIdle_commitStaged, hi]
    exact Bool.false_ne_true
  exact (if_neg hheld).trans (if_neg hidle)

/-- A write of PG_APPLY that passes the checks, on a page without a twin image. -/
theorem regWrite_apply {w : Word} (h : s.takes m (headAddr pg 0x1C) k n = true) (hm : k.mirror = false)
    (hw : s.writeApply pg k w.toNat = wrote t) : s.regWrite m (headAddr pg 0x1C) w = t :=
  regWrite_headPlain h (by decide) (by decide) hm hw

/-- Of the header with the fields of a PG_APPLY and the header after its COMMIT, both in held mode, the second stands. -/
theorem setHead_commitStaged {g h : Hdr} (hg : g.held = true) (hh : h.held = true) :
    ((s.setHead pg g).commitStaged pg).setHead pg h = (s.commitStaged pg).setHead pg h := by
  have hhdr := mset_mset_header s.hdr pg (held_ne_reset hg) (held_ne_reset hh)
  simp only [State.setHead, State.commitStaged, hhdr]

/-- COMMIT in held mode: the fields of PG_APPLY, and the staging of the page with the set that awaits its boundary. -/
theorem writeApply_commit (hc : ApplyClass.ofCode (v.toNat % 8) = some c) (hk : bitOf k.cap (8 + v.toNat % 8) = true)
    (h3 : bitOf v.toNat 3 = true) (h7 : bitOf v.toNat 7 = false)
    (hi : s.sourceIdle pg ((s.head pg).awaiting.getD c) none = false) :
    s.writeApply pg k (applyCommit v).toNat = wrote ((s.commitStaged pg).setHead pg
      { s.applyHead pg v (applyCommit v) with awaiting := some ((s.head pg).awaiting.getD c), late := s.lateAfter pg }) := by
  have hown : (s.setHead pg (s.applyHead pg v (applyCommit v))).head pg = s.applyHead pg v (applyCommit v) := by
    rw [head_setHead, if_pos rfl]
  have hlate : (s.setHead pg (s.applyHead pg v (applyCommit v))).lateAfter pg = s.lateAfter pg := by
    simp only [State.lateAfter, State.lateCommit, hown]
    rfl
  have hidle : (s.setHead pg (s.applyHead pg v (applyCommit v))).sourceIdle pg
      ((s.applyHead pg v (applyCommit v)).awaiting.getD c) none = false :=
    (sourceIdle_setHead (by rfl) pg _ none).trans hi
  rw [applyCommit, writeApply_accepted hc hk (Or.inl rfl), ← applyCommit]
  simp only [decide_true, Bool.or_true, if_true, h7, show ¬ (4 = 7) by decide, decide_false, Bool.or_false,
    Bool.false_eq_true, if_false]
  rw [commit_waits (by rw [hown]; exact h3) (by rw [hown]; exact hidle), hown, hlate]
  exact congrArg wrote (setHead_commitStaged h3 h3)

end Apply

/-- Settles O18: the fields of PG_APPLY, then COMMIT into an empty or an awaiting set, or DISCARD. -/
theorem shadowCommands : Obligations.ShadowCommands := by
  refine ⟨?first, ?merges, ?discard⟩
  case first =>
    refine fun m pg v k n c hc hk h3 h7 => runs_of (f := (·.regWrite m (headAddr pg.toNat 0x1C) (applyCommit v)))
      (fun _ _ => rfl) fun u ⟨h, hm, ha, hi⟩ => regWrite_apply h hm ?_
    have hlate : u.lateAfter pg.toNat = none := if_pos (by rw [ha]; rfl)
    rw [writeApply_commit hc hk h3 h7 (by rw [ha]; exact hi), hlate, ha, State.applyHead, h3]
    rfl
  case merges =>
    refine fun m pg v k n c d hc hk h3 h7 => runs_of (f := (·.regWrite m (headAddr pg.toNat 0x1C) (applyCommit v)))
      (fun _ _ => rfl) fun u ⟨h, hm, ha, hl, hi⟩ => regWrite_apply h hm ?_
    have hnone : u.lateCommit pg.toNat = none := by simp only [State.lateCommit, hl, Option.filter_none]
    have hlate : u.lateAfter pg.toNat =
        some { tick := u.now, before := u.committed.filter (onPage pg.toNat),
               set := (u.staged.filter (onPage pg.toNat)).foldl (fun q e => mput q e.1 e.2) [] } := by
      rw [State.lateAfter, ha, hnone]
      rfl
    have hstays : some ((u.head pg.toNat).awaiting.getD c) = (u.head pg.toNat).awaiting := by rw [ha]; rfl
    rw [writeApply_commit hc hk h3 h7 (by rw [ha]; exact hi), hlate, hstays, State.applyHead, h3]
    rfl
  case discard =>
    refine fun m pg v k n c hc hk h4 => runs_of (f := (·.regWrite m (headAddr pg.toNat 0x1C) (applyDiscard v)))
      (fun _ _ => rfl) fun u ⟨h, hm⟩ => regWrite_apply h hm ?_
    rw [applyDiscard, writeApply_accepted hc hk (Or.inr rfl), ← applyDiscard]
    simp only [h4, show ¬ (7 = 4) by decide, decide_false, decide_true, Bool.or_true, Bool.or_false, Bool.false_eq_true,
      if_true, if_false]
    rfl

/-! ### The mailbox (R46, R67 to R71, R708) -/

theorem selWord_item {item : Nat} (h : item < 2 ^ 12) (dir : Bool) : bitsOf (selWord item dir).toNat 0 12 = item := by
  cases dir <;> simp [selWord, bitsOf] <;> omega

theorem selWord_dir {item : Nat} (h : item < 2 ^ 12) (dir : Bool) : bitOf (selWord item dir).toNat 15 = dir := by
  cases dir <;> simp [selWord, bitOf] <;> omega

section Select
variable {s t : State} {m : Master} {pg item n : Nat} {k : PageKind}

/-- Selecting an item that may be read captures it (R46, R68). -/
theorem writeSel_read (hi : item < 2 ^ 12) (hp : itemPriv k item = false)
    (hu : s.itemUse k item = .readOnly ∨ s.itemUse k item = .readWrite) :
    s.writeSel m pg k n (selWord item false).toNat =
      (0, false, (s.itemRead k n item).2.setMbx pg m
        ((s.mbx pg m).done item false (BitVec.ofNat 128 (s.itemRead k n item).1))) := by
  simp only [State.writeSel, selWord_item hi, selWord_dir hi, hp, Bool.false_and, Bool.false_eq_true, if_false]
  rcases hu with hu | hu <;> rw [hu]

/-- Writing an item that may be written, and that its block accepts, hands it the data words (R71). -/
theorem writeSel_write (hi : item < 2 ^ 12) (hp : itemPriv k item = false)
    (hu : s.itemUse k item = .writeOnly ∨ s.itemUse k item = .readWrite)
    (hw : (s.itemWrite k n item (s.mbx pg m).data.toNat).1 = true) :
    s.writeSel m pg k n (selWord item true).toNat = (0, false, s.mbxDone m pg k n item) := by
  simp only [State.writeSel, selWord_item hi, selWord_dir hi, hp, Bool.false_and, Bool.false_eq_true, if_false]
  rcases hu with hu | hu <;> rw [hu] <;> simp only [hw, if_true] <;> rfl

/-- A write of PG_MBXSEL that passes the checks, on a page without a twin image. -/
theorem regWrite_sel {w : Word} (h : s.takes m (headAddr pg 0x20) k n = true) (hm : k.mirror = false)
    (hw : s.writeSel m pg k n w.toNat = (0, false, t)) : s.regWrite m (headAddr pg 0x20) w = t := by
  have hoff : pageOff (headAddr pg 0x20) = 0x20 := pageOff_headAddr _ _ (by decide)
  rw [regWrite_head h (by omega) (by rw [hoff, pageNo_headAddr _ _ (by decide)]; exact hw) rfl, mirrorWrite_off _ _ _ _ _ _ hm]

end Select

/-- Settles O19: PG_MBXSEL by its direction. -/
theorem mailboxCommands : Obligations.MailboxCommands := by
  refine ⟨?read, ?write⟩
  case read =>
    exact fun m pg item k n hp hm => runs_of (f := (·.regWrite m (headAddr pg.toNat 0x20) (selWord item.toNat false)))
      (fun _ _ => rfl) fun u ⟨h, hu⟩ => regWrite_sel h hm (writeSel_read item.isLt hp hu)
  case write =>
    exact fun m pg item k n hp hm => runs_of (f := (·.regWrite m (headAddr pg.toNat 0x20) (selWord item.toNat true)))
      (fun _ _ => rfl) fun u ⟨h, hu, hw⟩ => regWrite_sel h hm (writeSel_write item.isLt hp hu hw)

end Sys2Proof.Machine
end

section
/-!
CERTIFICATE. The service port; limited-change settings, session close and spilling (O20, O21).
-/
namespace Sys2Proof.Machine

/-! ### The service port (R49 to R57, R709) -/

section Service
variable {s : State} {req : List Byte}

/-- A request that spells an OP of its command is one of it. -/
theorem svcOp_of {p : Nat → Bool} (hp : p (byteAt req 0) = true) : s.svcOp p req = s.svcRequest req := if_pos hp

/-- A whole request with a wrong CRC performs nothing (R55). -/
theorem svcRequest_badCrc (ha : s.svcAlive = true) (hl : svcLength req ≤ req.length)
    (hc : beAt req (svcLength req - 2) 2 ≠ crc16 (req.take (svcLength req - 2))) :
    s.svcRequest req = { s.inc pgSYS R.SYS_SVCERR_CRCERR with svc := svcResponse 0x01 [] } := by
  simp only [State.svcRequest, ha, Nat.not_lt.mpr hl, if_pos hc, Bool.not_true, Bool.false_eq_true, if_false]

/-- A whole request with a right CRC is performed and answered. -/
theorem svcRequest_whole (ha : s.svcAlive = true) (hl : svcLength req ≤ req.length)
    (hc : beAt req (svcLength req - 2) 2 = crc16 (req.take (svcLength req - 2))) :
    s.svcRequest req =
      (let r := s.request .svc (byteAt req 0) (beAt req 1 3) (byteAt req 4) (svcWords req (byteAt req 4 + 1))
       { r.2.2 with svc := svcResponse r.1 r.2.1 }) := by
  simp only [State.svcRequest, ha, Nat.not_lt.mpr hl, hc, ne_eq, not_true_eq_false, Bool.not_true, Bool.false_eq_true, if_false]

variable {m : Master} {addr len : Nat} {words : List Nat}

theorem request_read (hc : requestCheck 3 addr len = 0) : s.request m 3 addr len words = s.readWords m addr 0 (len + 1) := by
  simp only [State.request, hc, ne_eq, not_true_eq_false, if_false, if_true]

theorem request_write (hc : requestCheck 2 addr len = 0) :
    s.request m 2 addr len words = ((s.writeWords m addr 0 words).1, [], (s.writeWords m addr 0 words).2) := by
  simp only [State.request, hc, ne_eq, not_true_eq_false, if_false, show ¬ (2 = 3) by decide]

theorem request_unknown {op : Nat} (h2 : op ≠ 2) (h3 : op ≠ 3) : s.request m op addr len words = (6, [], s) := by
  have hc : requestCheck op addr len = 6 := if_pos ⟨h2, h3⟩
  simp only [State.request, hc, ne_eq, Nat.reduceEqDiff, not_false_eq_true, if_true]

/-- SVC_CS_N that rises before the last bit of the CRC cuts the request short (R57). -/
theorem svcAbort_cut {n : Nat} (ha : s.svcAlive = true) (hn : n < 8 * svcLength req) :
    s.svcAbort req n = s.inc pgSYS R.SYS_SVCERR_ABORT := by
  simp only [State.svcAbort, ha, Nat.not_le.mpr hn, decide_false, Bool.false_and, Bool.not_true, Bool.or_self,
    Bool.false_eq_true, if_false, State.svcCut]

end Service

/-- Settles O20: a request by its CRC and OP, whole or cut short. -/
theorem servicePort : Obligations.ServicePort := by
  refine ⟨?read, ?write, ?badCrc, ?unknown, ?abort⟩
  case read =>
    refine fun req ho hl hc hr => runs_of (f := (·.svcOp (· == 3) req)) (fun _ _ => rfl) fun u ha => ?_
    rw [svcOp_of (by simp [ho]), svcRequest_whole ha hl hc, ho, request_read hr]
  case write =>
    refine fun req ho hl hc hr => runs_of (f := (·.svcOp (· == 2) req)) (fun _ _ => rfl) fun u ha => ?_
    rw [svcOp_of (by simp [ho]), svcRequest_whole ha hl hc, ho, request_write hr]
  case badCrc =>
    refine fun req ho hl hc => runs_of (f := (·.svcOp (· == 2) req)) (fun _ _ => rfl) fun u ha => ?_
    rw [svcOp_of (by simp [ho]), svcRequest_badCrc ha hl hc]
  case unknown =>
    refine fun req h2 h3 hl hc => runs_of (f := (·.svcOp (fun p => p != 2 && p != 3) req)) (fun _ _ => rfl) fun u ha => ?_
    rw [svcOp_of (by simp [h2, h3]), svcRequest_whole ha hl hc, request_unknown h2 h3]
  case abort =>
    exact fun req n hn => runs_of (f := (·.svcAbort req n)) (fun _ _ => rfl) fun u ha => svcAbort_cut ha hn

/-! ### Limited-change settings (R88 to R93) -/

/-- The state of a change of a setting that has begun: counted, BUSY, and its record written without its commit mark. -/
def State.otpBegun (s : State) (m : Master) (n : Nat) : State :=
  let v := (s.otpStaged n).1
  let z := ((s.wr pgPRIV R.PRIV_OTPSTAT_DONE 0).wr pgPRIV R.PRIV_OTPSTAT_FAIL 0).wr pgPRIV R.PRIV_OTPSTAT_BUSY 1
  let y := z.wr pgPRIV (otpLeftFld n) (z.rd pgPRIV (otpLeftFld n) - 1)
  { y with
    part := { y.part with records := y.part.records ++ [
      { tick := s.now, master := masterCode m, setting := n, value := v, committed := false,
        digest := otpDigest s.now (masterCode m) n v }] },
    priv := { y.priv with otp := some { setting := n, value := v, master := masterCode m, start := s.now } } }

section Otp
variable {s : State} {m : Master}

/-- GO for a setting with changes left and a sound new value begins the change (R89, R90). -/
theorem otpGo_begins {n : Nat} (hn : n < 4) (hq : s.pending.any (otpDoneAt s.now) = false)
    (hb : s.rdb pgPRIV R.PRIV_OTPSTAT_BUSY = false) (hs : (s.otpStaged n).2 = false)
    (hm : ¬ (n = 1 ∧ barMapBad (s.otpStaged n).1 = true)) (hl : s.rd pgPRIV (otpLeftFld n) ≠ 0) :
    s.otpGo m n = (5, s.otpBegun m n) := by
  have hsettle : s.otpSettle = s := if_neg (by simp [hq])
  have hgo : ¬ ((n = 1 ∧ barMapBad (s.otpStaged n).1 = true) ∨ s.rd pgPRIV (otpLeftFld n) = 0) := not_or.mpr ⟨hm, hl⟩
  simp only [State.otpGo, hsettle, hb, Nat.not_le.mpr hn, hs, hgo, Bool.false_eq_true, if_false]
  rfl

/-- The command word of GO names its setting. -/
theorem otpGo_word (n : BitVec 4) : bitOf (withBit (n.setWidth 32) R.PRIV_OTPCMD_GO).toNat 4 = true ∧
    (withBit (n.setWidth 32) R.PRIV_OTPCMD_GO).toNat % 16 = n.toNat := by
  have hlt := n.isLt
  refine ⟨bitOf_withBit _ R.PRIV_OTPCMD_GO (by decide), (withBit_mod (n := 4) _ (by decide) (by decide)).trans ?_⟩
  rw [BitVec.toNat_setWidth]
  omega

/-- A GO that begins a change is accepted with its audit entry (R90). -/
theorem regCmd_otpGo {n : BitVec 4} (h : s.accepts m (fieldAddr pgPRIV R.PRIV_OTPCMD) .priv 0 = true)
    (hgo : s.otpGo m n.toNat = (5, s.otpBegun m n.toNat)) :
    s.regCmd m pgPRIV R.PRIV_OTPCMD (withBit (n.setWidth 32) R.PRIV_OTPCMD_GO) =
      ((s.otpBegun m n.toNat).putPlain (fieldAddr pgPRIV R.PRIV_OTPCMD) 0xF
        (withBit (n.setWidth 32) R.PRIV_OTPCMD_GO)).acceptedBy s m .priv 0 (fieldAddr pgPRIV R.PRIV_OTPCMD)
          (withBit (n.setWidth 32) R.PRIV_OTPCMD_GO) := by
  obtain ⟨hbit, hset⟩ := otpGo_word n
  generalize withBit (n.setWidth 32) R.PRIV_OTPCMD_GO = c at hbit hset
  obtain ⟨d, i, hf, hd⟩ : ∃ d i, findReg PageKind.priv.regs (pageOff (fieldAddr pgPRIV R.PRIV_OTPCMD)) = some (d, i) ∧
    d.off = R.PRIV_OTPCMD.off := ⟨_, _, rfl, rfl⟩
  refine regWrite_accept h (by decide) hf (Or.inr rfl) ?_
  simp only [State.writeBlock, State.writePriv, hd, hbit, hset, hgo, and_self, if_true, or_true, BEq.rfl]

/-- The completion of a record after its window (R92, R93). -/
theorem otpDone_later {w : OtpWork} (ho : s.priv.otp = some w) (ht : w.start < s.now) :
    s.otpDone = (let z : State := { s with part := { s.part with records := commitLast s.part.records },
                                            priv := { s.priv with otp := none } }
      ((z.otpApply w.setting w.value).wr pgPRIV R.PRIV_OTPSTAT_BUSY 0).wr pgPRIV R.PRIV_OTPSTAT_DONE 1) := by
  simp only [State.otpDone, ho, Nat.not_le.mpr ht, if_false]

end Otp

/-! ### Closing a session, and spilling (R60, R710) -/

/-- A write of PRIV_SESSCLOSE leaves the sessions. -/
theorem session_stored_sessclose (s : State) (v : Word) (k : Nat) :
    (s.stored pgPRIV R.PRIV_SESSCLOSE v).session k = s.session k := rfl

/-- PRIV_SESSCLOSE with CLOSE closes an open session (R60). -/
theorem regCmd_sessclose {u : State} {m : Master} {k : Fin 8}
    (h : u.accepts m (fieldAddr pgPRIV R.PRIV_SESSCLOSE) .priv 0 = true) (ho : (u.session k.val).open_ = true) :
    u.regCmd m pgPRIV R.PRIV_SESSCLOSE (withBit (BitVec.ofNat 32 k.val) R.PRIV_SESSCLOSE_CLOSE) =
      (((u.stored pgPRIV R.PRIV_SESSCLOSE (withBit (BitVec.ofNat 32 k.val) R.PRIV_SESSCLOSE_CLOSE)).setSession k.val {}).raise
        pgYRT 1 k.val).acceptedBy u m .priv 0 (fieldAddr pgPRIV R.PRIV_SESSCLOSE)
          (withBit (BitVec.ofNat 32 k.val) R.PRIV_SESSCLOSE_CLOSE) := by
  have hbit := bitOf_withBit (BitVec.ofNat 32 k.val) R.PRIV_SESSCLOSE_CLOSE (by decide)
  have hsess : (withBit (BitVec.ofNat 32 k.val) R.PRIV_SESSCLOSE_CLOSE).toNat % 8 = k.val := by
    refine (withBit_mod (n := 3) _ (by decide) (by decide)).trans ?_
    rw [BitVec.toNat_ofNat]
    omega
  generalize withBit (BitVec.ofNat 32 k.val) R.PRIV_SESSCLOSE_CLOSE = c at hbit hsess
  have hclose : (u.stored pgPRIV R.PRIV_SESSCLOSE c).closeSession k.val =
      ((u.stored pgPRIV R.PRIV_SESSCLOSE c).setSession k.val {}).raise pgYRT 1 k.val := if_pos ho
  rw [regCmd_stored h (by decide) (by decide) (by decide) rfl
    (g := fun s => if bitOf c.toNat 3 then s.closeSession (c.toNat % 8) else s) rfl,
    show bitOf c.toNat 3 = true from hbit, if_pos rfl, hsess, hclose]

/-- The oldest unspilled entry of a ring moves to its basin once it fits (R710). -/
theorem spillOne_fits {s : State} {r : SpillRing} {i : Nat} {rest : List Nat} (hu : (s.ring r).unsp = i :: rest)
    (hs : s.spillOn r = true)
    (hc : s.canProduce (s.rd (ringCfg r).1 (ringCfg r).2.2.1) ((mfind (s.ring r).slots i).getD []).length = true) :
    s.spillOne r = (s.append (s.rd (ringCfg r).1 (ringCfg r).2.2.1) ((mfind (s.ring r).slots i).getD [])).setRing r
      { s.ring r with unsp := rest } := by
  simp only [State.spillOne, hu, hs, hc, Bool.and_self, if_true]

/-- Settles O21: GO by its checks, its completion, the close of an open session and the copy of an entry that fits. -/
theorem otpSessionsSpill : Obligations.OtpSessionsSpill := by
  refine ⟨?go, ?done, ?close, ?spill⟩
  case go =>
    exact fun m n hn => runs_of (f := (·.regCmd m pgPRIV R.PRIV_OTPCMD (withBit (n.setWidth 32) R.PRIV_OTPCMD_GO)))
      (fun _ _ => rfl) fun u ⟨h, hq, hb, hs, hm, hl⟩ => regCmd_otpGo h (otpGo_begins hn hq hb hs hm hl)
  case done => exact fun w => runs_of (f := (·.otpDone)) (fun _ _ => rfl) fun u ⟨ho, ht⟩ => otpDone_later ho ht
  case close =>
    exact fun m k => runs_of
      (f := (·.regCmd m pgPRIV R.PRIV_SESSCLOSE (withBit (BitVec.ofNat 32 k.val) R.PRIV_SESSCLOSE_CLOSE)))
      (fun _ _ => rfl) fun u ⟨h, ho⟩ => regCmd_sessclose h ho
  case spill =>
    exact fun r i rest => runs_of (f := (·.spillOne r)) (fun _ _ => rfl) fun u ⟨hu, hs, hc⟩ => spillOne_fits hu hs hc

end Sys2Proof.Machine
end

section
/-!
CERTIFICATE. The PTP assist: messages that arrive, the delay samples and the servo (O22).
-/
namespace Sys2Proof.Machine

section Messages
variable {u : State} {m : PtpMsg}

/-! ### Messages outside the profile, and the Sync (R124, R128, R130) -/

/-- A Sync outside the profile or of another port counts as dropped. -/
theorem ptpSync_drops (he : u.enabled pgPTPA = true) (hm : (u.ptpProfile m && u.fromMaster m) = false) :
    u.ptpSync m = u.inc pgPTPA R.PTPA_DROPCNT_DROP := by
  simp only [State.ptpSync, he, hm, Bool.not_true, Bool.not_false, Bool.false_eq_true, if_false, if_true, State.ptpDrop]

section Master
variable (he : u.enabled pgPTPA = true) (hp : u.ptpProfile m = true) (hm : u.fromMaster m = true)
include he hp hm

/-- A Sync of the selected port counts and restarts the Sync timeout; then it completes or waits. -/
theorem ptpSync_takes :
    u.ptpSync m =
      (let z := u.incWrap pgPTPA R.PTPA_RXCNT_SYNC
       let x : SyncRx := { seq := m.seq.toNat, at_ := z.now, corr := ptpCorr m, t2 := z.ingress }
       let y := z.setPtp { z.ptp with syncRef := some z.now, lastSync := some x }
       if m.twoStep then y.setPtp { y.ptp with waiting := y.ptp.waiting ++ [x] }
       else y.syncDone x (ptpStamp m + ptpCorr m)) := by
  simp only [State.ptpSync, he, hp, hm, Bool.and_self, Bool.not_true, Bool.false_eq_true, if_false]
  rfl

/-- A Follow_Up in time completes the oldest Sync that waits (R128). -/
theorem ptpFollowUp_completes {x : SyncRx} {rest : List SyncRx} (hs : x.seq = m.seq.toNat)
    (hw : u.ptp.waiting = x :: rest) (ht : u.now < x.at_ + ms 100) :
    u.ptpFollowUp m = u.syncDone x (ptpStamp m + x.corr + ptpCorr m) := by
  simp only [State.ptpFollowUp, he, hp, hm, hw, hs, ht, List.find?_cons, decide_true, Bool.and_self, Bool.not_true,
    Bool.false_eq_true, if_false]

end Master

/-! ### The delay samples (R129) -/

/-- Of two states of the PTP assist the later stands. -/
theorem setPtp_setPtp (s : State) (x y : PtpS) : (s.setPtp x).setPtp y = s.setPtp y := rfl

theorem ptp_setPtp (s : State) (x : PtpS) : (s.setPtp x).ptp = x := rfl

/-- One exchange that both halves complete gives the first delay sample. -/
theorem delayDone_first {p : PtpS} {x : DelayX} {d : Int} (hd : p.dreqs = [x]) (hx : x.sample = some d)
    (hs : p.samples = []) : (u.setPtp p).delayDone = u.setPtp { p with dreqs := [], samples := [d] } := by
  have hwhole : p.dreqs.filter (·.sample.isSome) = [x] := by simp [hd, hx]
  have hrest : p.dreqs.filter (·.sample.isNone) = [] := by simp [hd, hx]
  have hnone : (u.setPtp { p with dreqs := [] }).ptpDelay = none := by
    simp only [State.ptpDelay, PtpS.delay, ptp_setPtp, hs, List.take_nil]
  simp only [State.delayDone, ptp_setPtp, setPtp_setPtp, hwhole, hrest, List.filterMap_cons, List.filterMap_nil, hx,
    List.foldl_cons, List.foldl_nil, State.delaySample, hnone]

/-- With no exchange in progress no delay sample arises. -/
theorem delayDone_none (h : u.ptp.dreqs = []) : u.delayDone = u := by
  have hkeep : u.setPtp { u.ptp with dreqs := [] } = u := by rw [← h]; rfl
  simp only [State.delayDone, h, List.filter_nil, List.filterMap_nil, List.foldl_nil, hkeep]

/-- The Delay_Resp of the one exchange in progress, whose Sync is complete. -/
theorem ptpDelayResp_first {x : DelayX} {y : SyncRx} {b : Int} (hs : x.seq = m.seq.toNat) (h4 : x.t4 = none)
    (hy : x.sync = some y) (hb : y.base = some b) (he : u.enabled pgPTPA = true) (hp : u.ptpProfile m = true)
    (hm : u.fromMaster m = true) (hr : m.requesting.toNat = u.portIdentity) (hd : u.ptp.dreqs = [x])
    (hn : u.ptp.samples = []) :
    u.ptpDelayResp m =
      (let z := u.incWrap pgPTPA R.PTPA_RXCNT_DRESP
       z.setPtp { z.ptp with dreqs := [], logInterval := m.logInterval.toInt,
                             samples := [half (b + (ptpStamp m - ptpCorr m - x.t3))] }) := by
  have hfind : u.ptp.dreqs.find? (fun x => decide (x.seq = m.seq.toNat) && x.t4.isNone) = some x := by
    simp [hd, hs, h4]
  have hd' : (u.incWrap pgPTPA R.PTPA_RXCNT_DRESP).ptp.dreqs = [x] := by rw [← hd]; simp only [incWrap_fields]
  have hn' : (u.incWrap pgPTPA R.PTPA_RXCNT_DRESP).ptp.samples = [] := by rw [← hn]; simp only [incWrap_fields]
  have hsample : ({ x with t4 := some (ptpStamp m - ptpCorr m) } : DelayX).sample =
      some (half (b + (ptpStamp m - ptpCorr m - x.t3))) := by
    simp only [DelayX.sample, hy, Option.bind_some, hb]
  have hsync : x.sync.isNone = false := by rw [hy]; rfl
  simp only [State.ptpDelayResp, he, hp, hm, hr, hfind, hd', hsync, ne_eq, not_true_eq_false, Bool.and_self, Bool.not_true,
    Bool.false_eq_true, if_false, List.erase_cons_head, List.nil_append]
  generalize u.incWrap pgPTPA R.PTPA_RXCNT_DRESP = z at hd' hn' ⊢
  exact delayDone_first rfl hsample hn'

/-! ### Announce (R122, R126) -/

/-- A master change outside TRACK only sets its flag. -/
theorem masterChange_untracked (h : u.tstate ≠ 3) : u.masterChange = u.raise pgPTPA 1 := by
  have h' : (u.raise pgPTPA 1).tstate ≠ 3 := h
  simp only [State.masterChange, if_neg h']

/-- An Announce of the selected port with another grandmaster. -/
theorem ptpAnnounce_changes (he : u.enabled pgPTPA = true) (hp : u.ptpProfile m = true)
    (hs : u.ptp.port = some m.source.toNat) (hg : m.grandmaster.toNat ≠ u.ptp.grandmaster) (ht : u.tstate ≠ 3) :
    u.ptpAnnounce m =
      (u.setPtp { u.ptp with annRef := some u.now, grandmaster := m.grandmaster.toNat }).raise pgPTPA 1 := by
  have hg' : m.grandmaster.toNat ≠ (u.setPtp { u.ptp with annRef := some u.now }).ptp.grandmaster := hg
  simp only [State.ptpAnnounce, he, hp, hs, Bool.not_true, Bool.false_eq_true, if_false, ne_eq, not_true_eq_false]
  exact (if_pos hg').trans (masterChange_untracked ht)

/-- With nothing selected and LEARN 1 an Announce selects its port. -/
theorem ptpAnnounce_selects (he : u.enabled pgPTPA = true) (hp : u.ptpProfile m = true) (hs : u.ptp.port = none)
    (hl : u.rdb pgPTPA R.PTPA_CTL_LEARN = true) (ht : u.tstate ≠ 3) :
    u.ptpAnnounce m =
      ((u.setPtp { u.ptp with port := some m.source.toNat, annRef := some u.now, syncRef := some u.now,
                              grandmaster := m.grandmaster.toNat }).raise pgPTPA 0).raise pgPTPA 1 := by
  simp only [State.ptpAnnounce, he, hp, hs, hl, Bool.not_true, Bool.false_eq_true, if_false, if_true]
  exact masterChange_untracked ht

/-! ### The offset sample and the servo (R105, R117, R130) -/

/-- A completed Sync with a filtered delay and no exchange in progress gives the servo its offset sample. -/
theorem syncDone_offset {x : SyncRx} {t1 d : Int} (hx : u.ptp.dreqs = []) (hd : u.ptpDelay = some d)
    (hs : u.rdb pgTIME R.TIME_CTL_SRC = false) :
    u.syncDone x t1 =
      (u.setPtp { u.ptp with
        lastSync := u.ptp.lastSync.map fun y => if y.seq = x.seq ∧ y.at_ = x.at_ then { y with base := some (x.t2 - t1) } else y,
        waiting := u.ptp.waiting.erase x, theta := (x.t2 - t1 - d).fdiv 4096 }).servo ((x.t2 - t1 - d).fdiv 4096) := by
  have hset : ∀ p : PtpS, p.dreqs = [] → (u.setPtp p).delayDone = u.setPtp p := fun p hp => delayDone_none hp
  have hdelay : ∀ p : PtpS, p.samples = u.ptp.samples → (u.setPtp p).ptpDelay = some d := fun p hp => by
    rw [← hd]; simp only [State.ptpDelay, PtpS.delay, State.setPtp, hp]; rfl
  have hmap : ∀ f, u.ptp.dreqs.map f = u.ptp.dreqs := fun f => by rw [hx, List.map_nil]
  simp only [State.syncDone, hmap]
  rw [hset, hdelay]
  rotate_left
  · rfl
  · exact hx
  refine (if_neg (Bool.not_eq_true _ ▸ hs)).trans ?_
  rfl

/-- A new rate leaves network time at its present tick (R105). -/
theorem netTime_setRate (s : State) (r : Int) : (s.setRate r).netTime s.now = s.netTime s.now := by
  have hpos : (0 : Int) < timeMod := by decide
  have h0 : 0 ≤ s.netTime s.now := Int.emod_nonneg _ hpos.ne'
  have hnow : (s.setRate r).netTime s.now = (((s.netTime s.now).toNat : Int) + 0) % timeMod := by
    simp only [State.netTime, State.setRate, State.anchor, State.setTime, sub_self, zero_mul, Int.zero_fdiv]
  rw [hnow, add_zero, Int.toNat_of_nonneg h0]
  exact Int.emod_emod_of_dvd _ (dvd_refl _)

/-- Network time follows from the anchor and the rate. -/
theorem netTime_congr {s t : State} (ha : s.time.anchorA = t.time.anchorA) (hc : s.time.anchorC = t.time.anchorC)
    (hr : s.time.rate = t.time.rate) (c : Nat) : s.netTime c = t.netTime c := by
  simp only [State.netTime, ha, hc, hr]

/-- A new rate and other fields of the timebase leave network time at its present tick. -/
theorem netTime_setRate_of {s t : State} (hn : t.now = s.now) (ha : t.time.anchorA = s.time.anchorA)
    (hc : t.time.anchorC = s.time.anchorC) (hr : t.time.rate = s.time.rate) (r : Int) :
    (t.setRate r).netTime s.now = s.netTime s.now := by
  rw [← hn, netTime_setRate, netTime_congr ha hc hr]

theorem time_setTime (s : State) (x : TimeS) : (s.setTime x).time = x := rfl

theorem rd_setTime (s : State) (x : TimeS) (pg : Nat) (f : Fld) : (s.setTime x).rd pg f = s.rd pg f := by
  simp only [State.rd, State.word, setTime_fields]

theorem rateClamp_setTime (s : State) (x : TimeS) (r : Int) : (s.setTime x).rateClamp r = s.rateClamp r := by
  simp only [State.rateClamp, State.rateLimit, rd_setTime]

/-- A sample within the jump limit moves integrator and rate (R117). -/
theorem servo_track {theta : Int} (hm : u.rdb pgTIME R.TIME_CTL_MODE = true) (ht : u.tstate = 3)
    (hj : theta.natAbs ≤ u.jumpThr) :
    ∃ (z : State) (integ rho : Int), z.now = u.now ∧ z.time = { u.time with theta := theta } ∧
      integ = u.rateClamp (u.time.integ - (u.rd pgTIME R.TIME_KI : Nat) * theta) ∧
      rho = u.rateClamp (integ - (u.rd pgTIME R.TIME_KP : Nat) * theta) ∧
      u.servo theta = (z.setTime { z.time with integ := integ }).setRate rho := by
  have hm' : ¬ u.rdb pgTIME R.TIME_CTL_MODE = false := by rw [hm]; decide
  have hrdb : ∀ (x : TimeS) (f : Fld), (u.setTime x).rdb pgTIME f = u.rdb pgTIME f := fun _ _ => rfl
  have hjump : ∀ x : TimeS, (u.setTime x).jumpThr = u.jumpThr := fun _ => rfl
  have hstate : ∀ x : TimeS, (u.setTime x).tstate = 3 := fun _ => ht
  refine ⟨(u.setTime { u.time with theta := theta }).wr pgTIME R.TIME_STAT_REFUSECNT 0, _, _, ?_, ?_, rfl, rfl, ?_⟩
  · simp only [State.now, wr_fields, setTime_fields]
  · simp only [wr_fields, time_setTime]
  · simp only [State.servo, hrdb, if_neg hm', hstate, State.servoTrack, hjump, if_neg (Nat.not_lt.mpr hj), rateClamp_setTime,
      rd_setTime, time_setTime]

end Messages

/-- Settles O22: each message in the branch that its condition chooses, then the offset sample and the servo. -/
theorem ptpMessages : Obligations.PtpMessages := by
  refine ⟨?oneStep, ?twoStep, ?followUp, ?delayResp, ?change, ?select, ?drop, ?offset, ?servo⟩
  case oneStep =>
    refine fun m hm => runs_of_once (g := (·.ptpSync m)) (fun _ _ => rfl) (fun _ h => h.1) fun u ⟨_, he, hp, hf⟩ => ?_
    simp only [ptpSync_takes he hp hf, hm, Bool.false_eq_true, if_false]
  case twoStep =>
    refine fun m hm => runs_of_once (g := (·.ptpSync m)) (fun _ _ => rfl) (fun _ h => h.1) fun u ⟨_, he, hp, hf⟩ => ?_
    simp only [ptpSync_takes he hp hf, hm, if_true, ptp_setPtp, setPtp_setPtp]
  case followUp =>
    exact fun m x rest hs => runs_of_once (g := (·.ptpFollowUp m)) (fun _ _ => rfl) (fun _ h => h.1)
      fun u ⟨_, he, hp, hf, hw, ht⟩ => ptpFollowUp_completes he hp hf hs hw ht
  case delayResp =>
    exact fun m x y b hs h4 hy hb => runs_of_once (g := (·.ptpDelayResp m)) (fun _ _ => rfl) (fun _ h => h.1)
      fun u ⟨_, he, hp, hf, hr, hd, hn⟩ => ptpDelayResp_first hs h4 hy hb he hp hf hr hd hn
  case change =>
    exact fun m => runs_of (f := (·.ptpAnnounce m)) (fun _ _ => rfl)
      fun u ⟨he, hp, hs, hg, ht⟩ => ptpAnnounce_changes he hp hs hg ht
  case select =>
    exact fun m => runs_of (f := (·.ptpAnnounce m)) (fun _ _ => rfl)
      fun u ⟨he, hp, hs, hl, ht⟩ => ptpAnnounce_selects he hp hs hl ht
  case drop =>
    exact fun m => runs_of_once (g := (·.ptpSync m)) (fun _ _ => rfl) (fun _ h => h.1) fun u ⟨_, he, hm⟩ => ptpSync_drops he hm
  case offset => exact fun s x t1 d hx hd hs => syncDone_offset hx hd hs
  case servo =>
    refine fun s theta hm ht hj => ?_
    obtain ⟨z, integ, rho, hn, hz, hinteg, hrho, hs⟩ := servo_track hm ht hj
    have hkeep : z.time.anchorA = s.time.anchorA ∧ z.time.anchorC = s.time.anchorC ∧ z.time.rate = s.time.rate ∧
        z.time.theta = theta := by
      rw [hz]; exact ⟨rfl, rfl, rfl, rfl⟩
    obtain ⟨ha, hc, hr, htheta⟩ := hkeep
    rw [hs]
    refine ⟨hinteg, hrho, htheta, netTime_setRate_of (t := z.setTime _) hn ha hc hr _⟩

end Sys2Proof.Machine
end

section
/-!
CERTIFICATE. Timers of the PTP assist, PPS and captures, TREF and the launches of host lanes (O23, O24, O26).
-/
namespace Sys2Proof.Machine

section Timers
variable {u : State}

/-! ### Timers of the PTP assist (R120, R126 to R129) -/

/-- A Delay_Req takes the next sequence number and the tick named, held to the end of the spread (R127). -/
theorem delayReq_queues {l : Nat} (he : u.enabled pgPTPA = true) :
    u.delayReq l =
      (let at_ := match u.ptp.dreqAt with
        | some a => min l (a + u.dreqSpan)
        | none => l
       (u.setPtp { u.ptp with dreqSeq := (u.ptp.dreqSeq + 1) % 65536, dreqAt := some at_ }).queueHost
        (u.rd pgPTPA R.PTPA_CTL_LANE) at_
        (.delayReq u.ptp.dreqSeq (u.rdb pgPTPA R.PTPA_CTL_VLAN) (u.rd pgPTPA R.PTPA_CTL_VID)
          (u.rd pgPTPA R.PTPA_CTL_PCP) (u.rd pgPTPA R.PTPA_CTL_DOMAIN))) := by
  have hrd : ∀ (p : PtpS) (f : Fld), (u.setPtp p).rd pgPTPA f = u.rd pgPTPA f := fun p f => by
    simp only [State.rd, State.word, setPtp_fields]
  simp only [State.delayReq, he, Bool.not_true, Bool.false_eq_true, if_false, State.rdb, hrd] <;> rfl

theorem followUpTimeout_due {x : SyncRx} {rest : List SyncRx} (hw : u.ptp.waiting = x :: rest)
    (ht : x.at_ + ms 100 ≤ u.now) :
    u.followUpTimeout = (u.setPtp { u.ptp with waiting := rest }).raise pgPTPA 5 := by
  simp only [State.followUpTimeout, hw, State.since, ht, decide_true, if_true]

theorem syncTimeout_due {a : Nat} (he : u.enabled pgPTPA = true) (hs : u.rdb pgTIME R.TIME_CTL_SRC = false)
    (ha : u.ptp.syncRef = some a) (ht : a + ms (atLeast1 (u.rd pgPTPA R.PTPA_TMO_SYNC)) ≤ u.now) :
    u.syncTimeout = ((u.setPtp { u.ptp with syncRef := none }).raise pgPTPA 2).timeLost := by
  simp only [State.syncTimeout, he, hs, State.since, ha, ht, decide_true, Bool.not_false, Bool.and_self, if_true]

theorem announceTimeout_due {a p : Nat} (he : u.enabled pgPTPA = true) (hp : u.ptp.port = some p)
    (hl : u.rdb pgPTPA R.PTPA_CTL_LEARN = true) (ha : u.ptp.annRef = some a)
    (ht : a + ms (atLeast1 (u.rd pgPTPA R.PTPA_TMO_ANN)) ≤ u.now) :
    u.announceTimeout = (u.setPtp { u.ptp with annRef := none, port := none }).raise pgPTPA 3 := by
  have hsome : u.ptp.port.isSome = true := by rw [hp]; rfl
  simp only [State.announceTimeout, he, hsome, hl, State.since, ha, ht, decide_true, Bool.and_self, if_true]

/-- The oldest Delay_Req without a Delay_Resp is the first of the list. -/
theorem delayRespTimeout_due {x : DelayX} {rest : List DelayX} (h4 : x.t4 = none) (hd : u.ptp.dreqs = x :: rest)
    (ht : x.at_ + ms 1000 ≤ u.now) :
    u.delayRespTimeout = (u.setPtp { u.ptp with dreqs := rest }).raise pgPTPA 4 := by
  have hfind : u.ptp.dreqs.find? (·.t4.isNone) = some x := by
    rw [hd, List.find?_cons_of_pos (by rw [h4]; rfl)]
  have herase : u.ptp.dreqs.erase x = rest := by rw [hd, List.erase_cons_head]
  simp only [State.delayRespTimeout, hfind, herase, State.since, ht, decide_true, if_true]

/-- FREE is the state after `timeFree` (R110). -/
theorem tstate_timeFree (s : State) : s.timeFree.tstate = 0 := by
  have hz : ((s.wr pgTIME R.TIME_STAT_TSTATE 0).wr pgTIME R.TIME_STAT_REFUSECNT 0).tstate = 0 := by
    rw [State.tstate, rd_wr_apart (f := R.TIME_STAT_REFUSECNT) (g := R.TIME_STAT_TSTATE) _ _ _ rfl (by decide) (by decide),
      rd_wr_same _ _ _ _ (by decide), Nat.zero_mod]
  rw [State.timeFree]
  split
  · exact hz
  · exact (rd_raise _ _ _ _ _ _).trans hz

/-- Entering FREE leaves the timebase: the rate stays (R110). -/
theorem time_timeFree (s : State) : s.timeFree.time = s.time := by
  rw [State.timeFree]
  split <;> simp only [raise_fields, wr_fields]

end Timers

/-- Settles O23: each timer once its time has passed; a lost source enters FREE from ARMED and TRACK. -/
theorem ptpTimers : Obligations.PtpTimers := by
  refine ⟨?request, ?followUp, ?sync, ?announce, ?response, ?lost⟩
  case request => exact fun l => runs_of (f := (·.delayReq l.toNat)) (fun _ _ => rfl) fun u he => delayReq_queues he
  case followUp =>
    exact fun x rest => runs_of (f := (·.followUpTimeout)) (fun _ _ => rfl) fun u ⟨hw, ht⟩ => followUpTimeout_due hw ht
  case sync =>
    exact fun a => runs_of (f := (·.syncTimeout)) (fun _ _ => rfl) fun u ⟨he, hs, ha, ht⟩ => syncTimeout_due he hs ha ht
  case announce =>
    exact fun a p => runs_of (f := (·.announceTimeout)) (fun _ _ => rfl)
      fun u ⟨he, hp, hl, ha, ht⟩ => announceTimeout_due he hp hl ha ht
  case response =>
    exact fun x rest h4 => runs_of (f := (·.delayRespTimeout)) (fun _ _ => rfl)
      fun u ⟨hd, ht⟩ => delayRespTimeout_due h4 hd ht
  case lost =>
    intro s
    rw [State.timeLost]
    split
    · exact ⟨tstate_timeFree s, time_timeFree s⟩
    · exact ⟨rfl, rfl⟩

section Pps
variable {u : State}

/-! ### PPS (R121, R136 to R138) -/

/-- An active edge with SRC 0 only enters the PPS cell. -/
theorem ppsEdge_captures {r : Bool} (hr : r ≠ u.rdb pgTIME R.TIME_PPSCTL_INEDGE)
    (hs : u.rdb pgTIME R.TIME_CTL_SRC = false) :
    u.ppsEdge r =
      u.setTime { u.time with pps := { tick := u.now, count := u.time.pps.count + 1#32 }, ppsRef := u.now } := by
  have hmiss : u.ppsMiss = u := by
    simp only [State.ppsMiss, hs, Bool.false_and, Bool.false_eq_true, if_false]
  have hsrc : ∀ x : TimeS, (u.setTime x).rdb pgTIME R.TIME_CTL_SRC = false := fun x => by
    rw [State.rdb, rd_setTime]; exact hs
  simp only [State.ppsEdge, if_neg hr, hmiss, hsrc, Bool.false_eq_true, if_false]

theorem ppsMiss_due (hs : u.rdb pgTIME R.TIME_CTL_SRC = true) (ht : u.time.ppsRef + ms 1500 ≤ u.now) :
    u.ppsMiss = ((u.setTime { u.time with ppsRef := u.now }).raise pgTIME 8).timeLost := by
  simp only [State.ppsMiss, hs, ht, decide_true, Bool.and_self, if_true]

theorem ppsOutStart_due {n : Nat} (hn : u.time.ppsNext = some n) (he : u.rdb pgTIME R.TIME_PPSCTL_OUTEN = true)
    (ht : ((n * secUnits : Nat) : Int) ≤ u.netTime u.now) (ho : u.time.ppsOut = false) :
    u.ppsOutStart =
      u.setTime { u.time with ppsOut := true, ppsNext := some u.nextSecond,
                              ppsEnd := u.now + us (atLeast1 (u.rd pgTIME R.TIME_PPSCTL_WIDTH)) } := by
  simp only [State.ppsOutStart, hn, he, not_lt.mpr ht, ho, decide_false, Bool.not_true, Bool.or_self,
    Bool.false_eq_true, if_false]

theorem ppsOutEnd_due (ho : u.time.ppsOut = true) (ht : u.time.ppsEnd ≤ u.now) :
    u.ppsOutEnd = u.setTime { u.time with ppsOut := false } := by
  simp only [State.ppsOutEnd, ho, ht, decide_true, Bool.and_self, if_true]

/-! ### Captures (R135) -/

/-- A capture into a cell that has been read: it is NEW. -/
theorem capture_new {n : Nat} (hn : bitOf (u.rd pgTIME R.TIME_CAPSTAT_NEW) n = false) :
    u.capture n =
      (let x : CapCell := { tick := u.now, count := (mget {} u.time.cells n).count + 1#32 }
       (u.setTime { u.time with cells := mset {} u.time.cells n x }).wr pgTIME R.TIME_CAPSTAT_NEW
        (Nat.lor (u.rd pgTIME R.TIME_CAPSTAT_NEW) (2 ^ n))) := by
  simp only [State.capture, rd_setTime, hn, Bool.false_eq_true, if_false]

/-- A capture into a cell that has been read leaves what the cells select. -/
theorem capture_selects {n : Nat} (hn : bitOf (u.rd pgTIME R.TIME_CAPSTAT_NEW) n = false) {k : Nat} (hk : k < 8) :
    (u.capture n).rd pgTIME (R.TIME_CAPSRC_SRC k) = u.rd pgTIME (R.TIME_CAPSRC_SRC k) := by
  have hoff : pgTIME * 4096 + R.TIME_CAPSTAT_NEW.off ≠ pgTIME * 4096 + (R.TIME_CAPSRC_SRC k).off := by
    simp only [R.TIME_CAPSTAT_NEW, R.TIME_CAPSRC_SRC]
    omega
  rw [capture_new hn, rd_wr_other _ _ _ _ _ _ hoff, rd_setTime]

/-- A cell that selects another source takes no edge. -/
theorem captureAll_succ_skips {src k : Nat} {rising : Bool}
    (h : (u.captureAll src rising k).rd pgTIME (R.TIME_CAPSRC_SRC k) ≠ src) :
    u.captureAll src rising (k + 1) = u.captureAll src rising k := by
  have hsrc : ((u.captureAll src rising k).rd pgTIME (R.TIME_CAPSRC_SRC k) == src) = false := beq_eq_false_iff_ne.mpr h
  simp only [State.captureAll, hsrc, Bool.and_false, Bool.false_and, Bool.false_eq_true, if_false]

/-- A cell that selects a source and its rising edge takes it. -/
theorem captureAll_succ_takes {src k : Nat} (hc : capSource src = true)
    (hs : (u.captureAll src true k).rd pgTIME (R.TIME_CAPSRC_SRC k) = src)
    (he : (u.captureAll src true k).rd pgTIME (R.TIME_CAPSRC_EDGE k) = 0) :
    u.captureAll src true (k + 1) = (u.captureAll src true k).capture k := by
  have hedge : ((0 == 2) || (if (0 == 1) = true then !true else true)) = true := rfl
  simp only [State.captureAll, hc, hs, he, beq_self_eq_true, hedge, Bool.and_self, if_true]

/-- An edge that one cell selects reaches that cell alone. -/
theorem captureAll_one {src n : Nat} (hc : capSource src = true) (hs : u.rd pgTIME (R.TIME_CAPSRC_SRC n) = src)
    (he : u.rd pgTIME (R.TIME_CAPSRC_EDGE n) = 0) (hn : bitOf (u.rd pgTIME R.TIME_CAPSTAT_NEW) n = false)
    (ho : ∀ k, k < 8 → k ≠ n → u.rd pgTIME (R.TIME_CAPSRC_SRC k) ≠ src) (k : Nat) (hk : k ≤ 8) :
    u.captureAll src true k = if n < k then u.capture n else u := by
  induction k with
  | zero => rw [if_neg (Nat.not_lt_zero n)]; rfl
  | succ k ih =>
    have ih := ih (by omega)
    rcases Nat.lt_trichotomy n k with h | h | h
    · rw [if_pos h] at ih
      rw [captureAll_succ_skips (by rw [ih, capture_selects hn (by omega)]; exact ho k (by omega) (by omega)), ih,
        if_pos (by omega)]
    · subst h
      rw [if_neg (Nat.lt_irrefl n)] at ih
      rw [captureAll_succ_takes hc (ih.symm ▸ hs) (ih.symm ▸ he), ih, if_pos (by omega)]
    · rw [if_neg (by omega)] at ih
      rw [captureAll_succ_skips (ih.symm ▸ ho k (by omega) (by omega)), ih, if_neg (by omega)]

end Pps

/-- Settles O24: the PPS edge, its miss and the output pulse by their conditions, and an edge that one cell selects. -/
theorem ppsAndCaptures : Obligations.PpsAndCaptures := by
  refine ⟨?edge, ?miss, ?start, ?fall, ?cell⟩
  case edge =>
    exact fun r => runs_of_once (g := (·.ppsEdge r)) (fun _ _ => rfl) (fun _ h => h.1)
      fun u ⟨_, hr, hs⟩ => ppsEdge_captures hr hs
  case miss => exact runs_of (f := (·.ppsMiss)) (fun _ _ => rfl) fun u ⟨hs, ht⟩ => ppsMiss_due hs ht
  case start =>
    exact fun n => runs_of (f := (·.ppsOutStart)) (fun _ _ => rfl) fun u ⟨hn, he, ht, ho⟩ => ppsOutStart_due hn he ht ho
  case fall => exact runs_of (f := (·.ppsOutEnd)) (fun _ _ => rfl) fun u ⟨ho, ht⟩ => ppsOutEnd_due ho ht
  case cell =>
    exact fun c n => runs_of (f := (·.captureAll c.toNat true 8)) (fun _ _ => rfl) fun u ⟨hc, hs, he, hn, ho⟩ =>
      ((captureAll_one hc hs he hn ho 8 (Nat.le_refl 8)).trans (if_pos n.isLt)).trans (capture_new hn)

section Launch
variable {u : State}

/-! ### TREF and launches (R101, R131, R132) -/

theorem trefLoss_begins (hr : u.time.running = true) (hl : u.rdb pgTIME R.TIME_STAT_TREFLOSS = false) :
    u.trefLoss = ((u.wr pgTIME R.TIME_STAT_TREFLOSS 1).wr pgTIME R.TIME_STAT_LOCK 0).raise pgTIME 7 := by
  simp only [State.trefLoss, hr, hl, Bool.not_true, Bool.or_self, Bool.false_eq_true, if_false]

theorem trefReturn_ends (hl : u.rdb pgTIME R.TIME_STAT_TREFLOSS = true) :
    u.trefReturn = (u.wr pgTIME R.TIME_STAT_TREFLOSS 0).wr pgTIME R.TIME_STAT_LOCK 1 := by
  simp only [State.trefReturn, hl, if_true]

/-- The first frame of a host lane at or after its tick, with whether it is late. -/
theorem frameLaunch_frame {c : Nat} {x : Launch HostTx} {xs : List (Launch HostTx)} {f : List Byte} (hc : 44 ≤ c)
    (hx : x.item = .frame f) (hl : (u.lane (c - 44)).launch = x :: xs) (ht : x.tick ≤ u.now)
    (hp : (u.lane (c - 44)).pauseEnd ≤ u.now) :
    u.frameLaunch c =
      ((u.setLane (c - 44) { u.lane (c - 44) with launch := xs }).hostSend (c - 44) (.frame f)).lateLaunch
        (decide (x.tick ≤ x.queued)) c := by
  simp only [State.frameLaunch, if_pos hc, State.launchHost, hl, hx, Nat.not_lt.mpr ht, Nat.not_lt.mpr hp, decide_false,
    Bool.or_self, Bool.false_eq_true, if_false, Nat.add_sub_cancel' hc]

end Launch

/-- Settles O26: TREF lost and back, and the first frame of a host lane in time and late. -/
theorem trefAndLaunch : Obligations.TrefAndLaunch := by
  refine ⟨?loss, ?back, ?inTime, ?late⟩
  case loss => exact runs_of (f := (·.trefLoss)) (fun _ _ => rfl) fun u ⟨hr, hl⟩ => trefLoss_begins hr hl
  case back => exact runs_of (f := (·.trefReturn)) (fun _ _ => rfl) fun u hl => trefReturn_ends hl
  case inTime =>
    refine fun c x xs f hc hx => runs_of (f := (·.frameLaunch c.val)) (fun _ _ => rfl) fun u ⟨hl, ht, hp, hq⟩ => ?_
    simp only [frameLaunch_frame hc hx hl ht hp, State.lateLaunch, Nat.not_le.mpr hq, decide_false, Bool.false_eq_true,
      if_false]
  case late =>
    refine fun c x xs f hc hx => runs_of (f := (·.frameLaunch c.val)) (fun _ _ => rfl) fun u ⟨hl, ht, hp, hq⟩ => ?_
    simp only [frameLaunch_frame hc hx hl ht hp, State.lateLaunch, hq, decide_true, if_true]

end Sys2Proof.Machine
end

section
/-!
CERTIFICATE. YRT sessions: the handshake, frames in sequence and the timers of a session (O29, O30, O31).
-/
namespace Sys2Proof.Machine

section Frames
variable {s : State} {n kind : Nat} {x : RxFrame} {rest : List RxFrame}

/-- A sequenced frame that its session expects next is handled in that session (R205). -/
theorem sequenced_inSeq (h : s.yrtInSeq n kind x rest) (f : State → Nat → Yrt → State) :
    (s.setLane n { s.lane n with rx := rest }).sequenced n (parseYrt x.bytes) f =
      f (s.yrtTaken n x rest) (parseYrt x.bytes).sess (parseYrt x.bytes) := by
  obtain ⟨⟨_, _, hl, hs, ho, hn, hm⟩, hseq⟩ := h
  have hin : (s.setLane n { s.lane n with rx := rest }).inSession n (parseYrt x.bytes) =
      (some (parseYrt x.bytes).sess, s.yrtTaken n x rest) := if_pos ⟨hs, ho, hn, hm⟩
  have hl' : (s.setLane n { s.lane n with rx := rest }).listening = false := hl
  simp only [State.sequenced, hl', hin, Bool.false_eq_true, if_false]
  exact if_pos hseq

/-- The command of a sequenced kind takes the oldest drained frame into its session. -/
theorem takeYrt_sequenced (h : s.yrtInSeq n kind x rest) (f : State → Nat → Yrt → State) :
    s.takeYrt n kind (fun s y => s.sequenced n y f) =
      f (s.yrtTaken n x rest) (parseYrt x.bytes).sess (parseYrt x.bytes) := by
  rw [takeYrt_front h.1.1 h.1.2.1, sequenced_inSeq h]

end Frames

section Handshake
variable {s : State} {n k : Nat} {y : Yrt}

/-! ### The handshake (R58, R61 to R63, R200 to R203) -/

/-- An OPEN without privilege, of a host without a session of this nonce, takes the lowest free session. -/
theorem yrtOpen_takes (hf : bitOf y.flags 2 = false) (hl : s.listening = false)
    (hm : (List.range 8).find? (fun j => (s.session j).open_ && decide ((s.session j).lane = n ∧ (s.session j).mac = y.mac ∧
      (s.session j).nh = BitVec.ofNat 128 (leAt y.payload 0 16))) = none)
    (hk : (List.range 8).find? (fun j => !(s.session j).open_) = some k) :
    s.yrtOpen n y =
      (let z := s.draw.2
       (((z.setSession k { open_ := true, lane := n, mac := y.mac, nh := BitVec.ofNat 128 (leAt y.payload 0 16),
                           nd := Config.freeNonce s.free, evmask := byteAt y.payload 16, chalStatus := 0, chalAt := z.now,
                           proving := false, lastRx := z.now, ackMoved := z.now }).raise pgYRT 0 k).challenge
         k).creditCheck n) := by
  have hk' : (List.range 8).find? (fun j => !(({ s with free := s.free + 1 } : State).session j).open_) = some k := hk
  simp only [State.yrtOpen, hl, hm, hf, State.draw, hk', Bool.false_and, Bool.not_false, Bool.false_eq_true, if_false,
    if_true]
  rfl

/-- A PROVE in time with the right proof gives privilege (R62, R201). -/
theorem yrtProve_grants (hc : (s.session k).chalStatus = 1) (hg : (s.session k).grant = none)
    (hp : (s.session k).proving = true) (ht : s.now < (s.session k).chalAt + ms 100) (hm : y.payload = s.proof k) :
    s.yrtProve k y =
      (let w := s.setSession k { s.session k with priv := true }
       ({ w with priv := { w.priv with failures := 0 } } : State).grant k 0 (s.grantProof k)) := by
  simp only [State.yrtProve, hc, hg, hp, ht, hm, ne_eq, not_true_eq_false, if_false, decide_true, beq_self_eq_true,
    Bool.and_self, if_true]

theorem proveTimeout_due (hp : (s.session k).proving = true) (ht : (s.session k).chalAt + ms 100 ≤ s.now) :
    s.proveTimeout k = (s.setSession k { s.session k with proving := false }).authFail := by
  simp only [State.proveTimeout, hp, ht, decide_true, Bool.and_self, if_true]

theorem holdOver_due (hh : s.rdb pgPRIV R.PRIV_AUTHFAIL_HOLD = true) (ht : s.priv.holdEnd ≤ s.now) :
    s.holdOver = s.wr pgPRIV R.PRIV_AUTHFAIL_HOLD 0 := by
  simp only [State.holdOver, hh, ht, decide_true, Bool.and_self, if_true]

end Handshake

/-- Settles O29: OPEN, PROVE and CLOSE by what the session holds, and the two times of the handshake. -/
theorem sessionHandshake : Obligations.SessionHandshake := by
  refine ⟨?opened, ?proved, ?late, ?hold, ?closed⟩
  case opened =>
    exact fun n x rest k hk hf => runs_of (f := (·.takeYrt n.val 0x01 fun s y => s.yrtOpen n.val y)) (fun _ _ => rfl)
      fun u ⟨hr, hl, hm, hfree⟩ => (takeYrt_front hr hk _).trans
        (yrtOpen_takes (s := u.setLane n.val { u.lane n.val with rx := rest }) hf hl hm hfree)
  case proved =>
    refine fun n x rest => runs_of (f := (·.takeYrt n.val 0x03 fun s y => s.unsequenced n.val y State.yrtProve))
      (fun _ _ => rfl) fun u ⟨h, hc, hg, hp, ht, hm⟩ => ?_
    rw [takeYrt_unsequenced h, yrtProve_grants hc hg hp ht hm]
  case late =>
    exact fun k => runs_of (f := (·.proveTimeout k.val)) (fun _ _ => rfl) fun u ⟨hp, ht⟩ => proveTimeout_due hp ht
  case hold => exact runs_of (f := (·.holdOver)) (fun _ _ => rfl) fun u ⟨hh, ht⟩ => holdOver_due hh ht
  case closed =>
    exact fun n x rest => runs_of (f := (·.takeYrt n.val 0x05 fun s y => s.sequenced n.val y State.yrtClose))
      (fun _ _ => rfl) fun u h => takeYrt_sequenced h _

section Sequenced
variable {s : State} {k : Nat} {y : Yrt}

/-! ### DATA, REGREQ and READ (R59, R205, R208, R219, R713) -/

/-- DATA is handled in its session where the device does not only listen. -/
theorem takeYrt_data {n : Nat} {x : RxFrame} {rest : List RxFrame} (h : s.yrtInSeq n 0x10 x rest) :
    (s.takeYrt n 0x10 fun s y => if s.listening then s.listenData n y else s.sequenced n y State.yrtData) =
      (s.yrtTaken n x rest).yrtData (parseYrt x.bytes).sess (parseYrt x.bytes) := by
  have hl : (s.setLane n { s.lane n with rx := rest }).listening = false := h.1.2.2.1
  rw [takeYrt_front h.1.1 h.1.2.1, hl, if_neg Bool.false_ne_true, sequenced_inSeq h]

theorem yrtData_accepted (h : s.dataReason y = 0) :
    s.yrtData k y =
      (let z := s.advance k
       let b := z.basin y.basin
       let w := (z.basinPut y.basin b.p y.payload).setBasin y.basin { b with p := b.p + y.payload.length }
       (w.queueRecords y.basin b.p (b.p + y.payload.length)).tap 1 (s.session k).lane y.payload true true none) := by
  simp only [State.yrtData, h, if_true, State.takeData]

theorem yrtData_refused {r : Nat} (h0 : r ≠ 0) (h2 : r ≠ 2) (h : s.dataReason y = r) :
    s.yrtData k y = (s.inc pgYRT R.YRT_REFCNT_DATAREF).nak k r y.seq := by
  simp only [State.yrtData, h, if_neg h0, if_neg h2]

theorem yrtRegreq_performs (h : regreqFits y.payload = true) :
    s.yrtRegreq k y =
      (let c := byteAt y.payload 4
       let r := (s.advance k).request (.net (Fin.ofNat 8 k)) (byteAt y.payload 0) (leAt y.payload 1 3) c
         ((List.range (c + 1)).map fun i => leAt y.payload (8 + 4 * i) 4)
       r.2.2.regresp k y.seq r.1 r.2.1) := by
  simp only [State.yrtRegreq, h, Bool.not_true, Bool.false_eq_true, if_false]

theorem yrtRead_answers (hp : y.payload.length = 4) (hb : y.basin < 32) (hn : leAt y.payload 0 4 ≠ 0)
    (ho : (s.advance k).basinOn y.basin = true) (hd : (s.advance k).basinDev y.basin = true)
    (hc : ((s.advance k).basin y.basin).c ≤ y.offset)
    (ht : y.offset + leAt y.payload 0 4 ≤ ((s.advance k).basin y.basin).p) :
    s.yrtRead k y = (s.advance k).sendReads k y.basin y.offset (leAt y.payload 0 4) (bitOf y.flags 1)
      (leAt y.payload 0 4 / 2048 + 1) := by
  simp only [State.yrtRead, hp, ho, hd, hn, Nat.not_le.mpr hb, Nat.not_lt.mpr hc, Nat.not_lt.mpr ht, ne_eq,
    not_true_eq_false, Bool.true_eq_false, or_self, if_false]

end Sequenced

/-- Settles O30: each frame in sequence by its kind, DATA by the reason that refuses it. -/
theorem sequencedFrames : Obligations.SequencedFrames := by
  refine ⟨?accepted, ?refused, ?request, ?read⟩
  case accepted =>
    exact fun n x rest => runs_of
      (f := (·.takeYrt n.val 0x10 fun s y => if s.listening then s.listenData n.val y else s.sequenced n.val y State.yrtData))
      (fun _ _ => rfl) fun u ⟨h, hr⟩ => (takeYrt_data h).trans (yrtData_accepted hr)
  case refused =>
    exact fun n x rest r h0 h2 => runs_of
      (f := (·.takeYrt n.val 0x10 fun s y => if s.listening then s.listenData n.val y else s.sequenced n.val y State.yrtData))
      (fun _ _ => rfl) fun u ⟨h, hr⟩ => (takeYrt_data h).trans (yrtData_refused h0 h2 hr)
  case request =>
    refine fun n x rest hf => runs_of (f := (·.takeYrt n.val 0x20 fun s y => s.sequenced n.val y State.yrtRegreq))
      (fun _ _ => rfl) fun u h => ?_
    rw [takeYrt_sequenced h, yrtRegreq_performs hf]
  case read =>
    exact fun n x rest hp hb hn => runs_of (f := (·.takeYrt n.val 0x30 fun s y => s.sequenced n.val y State.yrtRead))
      (fun _ _ => rfl) fun u ⟨h, ho, hd, hc, ht⟩ => (takeYrt_sequenced h _).trans (yrtRead_answers hp hb hn ho hd hc ht)

section Timers
variable {s : State} {k : Nat}

/-! ### The timers of a session (R60, R206, R210, R211) -/

theorem gapRepeat_due {a : Nat} (ha : (s.session k).gapNakAt = some a) (ho : (s.session k).open_ = true)
    (hg : (s.session k).gapOpen = true) (ht : a + s.nakTmo ≤ s.now) :
    s.gapRepeat k =
      (let z := (s.inc pgYRT R.YRT_GAPCNT_NAKTX).sendPlain k 0x12 0 1 (some (s.session k).expected) []
       z.setSession k { z.session k with gapNakAt := some z.now, gapOpen := true }) := by
  simp only [State.gapRepeat, ha, ho, hg, ht, decide_true, Bool.and_self, if_true, State.gapNak, State.nak]

theorem rto_resends {e : Kept} {es : List Kept} (hk : (s.session k).kept = e :: es)
    (ht : max (s.session k).ackMoved e.sentAt + us (atLeast1 (s.rd pgYRT R.YRT_RTO_RTO)) ≤ s.now)
    (hn : e.retx < atLeast1 (s.rd pgYRT R.YRT_TIMERS_RETRYMAX)) :
    s.rto k =
      (s.setSession k { s.session k with kept := { e with retx := e.retx + 1, sentAt := s.now } :: es }).resend k e := by
  simp only [State.rto, hk, if_neg (Nat.not_lt.mpr ht), if_neg (Nat.not_le.mpr hn)]

theorem rto_closes {e : Kept} {es : List Kept} (hk : (s.session k).kept = e :: es)
    (ht : max (s.session k).ackMoved e.sentAt + us (atLeast1 (s.rd pgYRT R.YRT_RTO_RTO)) ≤ s.now)
    (hn : atLeast1 (s.rd pgYRT R.YRT_TIMERS_RETRYMAX) ≤ e.retx) :
    s.rto k = (s.closeSession k).raise pgYRT 2 k := by
  simp only [State.rto, hk, if_neg (Nat.not_lt.mpr ht), if_pos hn]

theorem delayedAck_due {d : Nat} (hd : (s.session k).ackDue = some d) (ho : (s.session k).open_ = true) (ht : d ≤ s.now) :
    s.delayedAck k = s.sendPlain k 0x13 0 0 none [] := by
  simp only [State.delayedAck, hd, ho, ht, decide_true, Bool.and_self, if_true]

theorem idleClose_due (ho : (s.session k).open_ = true)
    (ht : (s.session k).lastRx + ms (atLeast1 (s.rd pgPRIV R.PRIV_SESSTMO_MS)) ≤ s.now) :
    s.idleClose k = (s.setSession k {}).raise pgYRT 1 k := by
  simp only [State.idleClose, ho, ht, decide_true, Bool.and_self, if_true, State.closeSession]

end Timers

/-- Settles O31: each timer of a session once its time has passed. -/
theorem sessionTimers : Obligations.SessionTimers := by
  refine ⟨?gap, ?again, ?closes, ?ack, ?idle⟩
  case gap =>
    exact fun k a => runs_of (f := (·.gapRepeat k.val)) (fun _ _ => rfl) fun u ⟨ha, ho, hg, ht⟩ => gapRepeat_due ha ho hg ht
  case again =>
    exact fun k e es => runs_of (f := (·.rto k.val)) (fun _ _ => rfl) fun u ⟨hk, ht, hn⟩ => rto_resends hk ht hn
  case closes =>
    exact fun k e es => runs_of (f := (·.rto k.val)) (fun _ _ => rfl) fun u ⟨hk, ht, hn⟩ => rto_closes hk ht hn
  case ack =>
    exact fun k d => runs_of (f := (·.delayedAck k.val)) (fun _ _ => rfl) fun u ⟨hd, ho, ht⟩ => delayedAck_due hd ho ht
  case idle => exact fun k => runs_of (f := (·.idleClose k.val)) (fun _ _ => rfl) fun u ⟨ho, ht⟩ => idleClose_due ho ht

end Sys2Proof.Machine
end

section
/-!
CERTIFICATE. Jobs: the commands of BASN_CMD, the start of the queued job and the end of the running one (O36).
-/
namespace Sys2Proof.Machine

/-! ### BASN_CMD (R236) -/

/-- An accepted write of BASN_CMD: what its command bits ask for, once the register is stored. -/
theorem regCmd_basnCmd {u : State} {m : Master} {v : Word}
    (h : u.accepts m (fieldAddr pgBASN R.BASN_CMD) .basn 0 = true) :
    u.regCmd m pgBASN R.BASN_CMD v =
      ((u.stored pgBASN R.BASN_CMD v).basnCmd v.toNat).acceptedBy u m .basn 0 (fieldAddr pgBASN R.BASN_CMD) v :=
  regCmd_stored h (by decide) (by decide) (by decide) rfl (g := (·.basnCmd v.toNat)) rfl

section Commands
variable {s : State} {v : Word}

/-- HALT alone halts the running job. -/
theorem basnCmd_halt (h1 : bitOf v.toNat 1 = false) (h2 : bitOf v.toNat 2 = false) :
    s.basnCmd (withBit v R.BASN_CMD_HALT).toNat = s.haltJob 1 := by
  have hbit : ∀ c, bitOf (withBit v R.BASN_CMD_HALT).toNat c = (bitOf v.toNat c || decide (c = 0)) :=
    fun c => bitOf_withBit_eq v R.BASN_CMD_HALT c (by decide)
  simp [State.basnCmd, hbit, h1, h2]

/-- RESUME alone resumes it. -/
theorem basnCmd_resume (h0 : bitOf v.toNat 0 = false) (h2 : bitOf v.toNat 2 = false) :
    s.basnCmd (withBit v R.BASN_CMD_RESUME).toNat = s.resumeJob := by
  have hbit : ∀ c, bitOf (withBit v R.BASN_CMD_RESUME).toNat c = (bitOf v.toNat c || decide (c = 1)) :=
    fun c => bitOf_withBit_eq v R.BASN_CMD_RESUME c (by decide)
  simp [State.basnCmd, hbit, h0, h2]

/-- ABORT alone ends it (R236). -/
theorem basnCmd_abort (h0 : bitOf v.toNat 0 = false) (h1 : bitOf v.toNat 1 = false) (hj : s.inJob = true) :
    s.basnCmd (withBit v R.BASN_CMD_ABORT).toNat = s.endJob := by
  have hbit : ∀ c, bitOf (withBit v R.BASN_CMD_ABORT).toNat c = (bitOf v.toNat c || decide (c = 2)) :=
    fun c => bitOf_withBit_eq v R.BASN_CMD_ABORT c (by decide)
  simp [State.basnCmd, hbit, h0, h1, State.abortJob, hj]

end Commands

/-! ### Start and end of a job (R221, R235, R299) -/

section Jobs
variable {s : State}

/-- The queued job starts: no bar fails a check, and the running place is free (R235, R299). -/
theorem tryStart_starts {q : Job} (hk : q.kind ≠ 2) (hc : s.jobs.cur = none) (hq : s.jobs.queued = some q)
    (hw : s.webHolds = false) (hd : s.dev.state = .ready ∨ s.inJob = true)
    (hf : ∀ b ∈ barsOf q.bars, ((s.boundaries .job allPages).posApplied s).startFault q b = none)
    (ho : ((s.boundaries .job allPages).posApplied s).orderBad (barsOf q.bars) = false) :
    s.tryStart =
      (let z := (s.boundaries .job allPages).posApplied s
       let j := { q with trig0 := s.rd pgPOS R.POS_TRIGSEQ, join := s.isStandby && decide (s.twin.peerState % 16 = 6) }
       let y := z.setJobs { z.jobs with queued := none, cur := some j }
       let w := State.each (State.bindBar j) (y.setFire { y.fire with xstart := j.xstart, lpi := j.lpi })
         ((List.range 8).filter y.barPart)
       let x := (((State.each (fun s b => (s.geometryPass b).startBar b) w (barsOf j.bars)).startChannels j).loopStart
         j).chkReserve
       ((x.raise pgBASN 2 j.id).change .printing x.dev.role x.dev.cause).sendAlign.jobRegs.dcpAll) := by
  have hready : (s.dev.state == .ready || s.inJob) = true := by
    rcases hd with h | h
    · rw [h]; rfl
    · rw [h, Bool.or_true]
  have hbad : ((barsOf q.bars).filterMap fun b =>
      (((s.boundaries .job allPages).posApplied s).startFault q b).map fun g => (b, g)) = [] := by
    rw [List.filterMap_eq_nil_iff]
    exact fun b hb => by rw [hf b hb, Option.map_none]
  simp only [State.tryStart, hc, hq, hw, hready, Bool.not_true, Bool.or_self, Bool.false_eq_true, if_false, State.startJob,
    hbad, ho, ne_eq, not_true_eq_false, if_neg hk]
  rfl

/-- The running job ends once it has completed, with no stop sequence in progress. -/
theorem jobOver_ends {j : Job} (hc : s.jobs.cur = some j) (hj : s.inJob = true) (hd : s.jobDone j = true)
    (hs : s.cyclesLeft.sb = 0) :
    s.jobOver =
      (let c := s.cyclesLeft
       let z := ((c.setJobs { c.jobs with cur := none, dcps := [] }).stopReq false).revPermit false
       let y := z.setFire { z.fire with ending := false }
       let x := State.each (fun s b => (s.setBarF b { s.barF b with stop := none, warm := none }).wr (pgHLTH b)
         R.HLTH_STAT_WARMING 0) y (barsOf j.bars)
       let w := if j.kind = 0 then x.consume j.basin (if j.passBytes ≠ 0 then j.start + j.passBytes else j.nextPos) else x
       let v := State.each (fun s b => (s.applyHeld b fun _ => true).endFactors b) w (barsOf j.bars)
       let r := v.loopEnd.chkRelease
       ((if r.inJob then r.goto .ready else r).tryStart.raise pgBASN 3 j.id).jobRegs.dcpAll) := by
  have hs' : ∀ x, (s.cyclesLeft.setJobs x).sb = 0 := fun _ => hs
  simp only [State.jobOver, hc, hj, hd, Bool.and_self, if_true, State.endJob, hs', ne_eq, not_true_eq_false, if_false]

end Jobs

/-- Settles O36: BASN_CMD by its command bit, the start of the queued job and the end of the running one. -/
theorem jobCommands : Obligations.JobCommands := by
  refine ⟨?halt, ?resume, ?abort, ?start, ?ends⟩
  case halt =>
    refine fun m v j h1 h2 => runs_of (f := (·.regCmd m pgBASN R.BASN_CMD (withBit v R.BASN_CMD_HALT))) (fun _ _ => rfl)
      fun u ⟨h, hj, hs⟩ => ?_
    rw [regCmd_basnCmd h, basnCmd_halt h1 h2, haltJob_printing hj hs]
  case resume =>
    refine fun m v j h0 h2 => runs_of (f := (·.regCmd m pgBASN R.BASN_CMD (withBit v R.BASN_CMD_RESUME))) (fun _ _ => rfl)
      fun u ⟨h, hj, hs, hp⟩ => ?_
    rw [regCmd_basnCmd h, basnCmd_resume h0 h2, resumeJob_halted hj hs hp]
  case abort =>
    refine fun m v h0 h1 => runs_of (f := (·.regCmd m pgBASN R.BASN_CMD (withBit v R.BASN_CMD_ABORT))) (fun _ _ => rfl)
      fun u ⟨h, hj⟩ => ?_
    rw [regCmd_basnCmd h, basnCmd_abort h0 h1 hj]
  case start =>
    exact fun q hk => runs_of (f := (·.tryStart)) (fun _ _ => rfl)
      fun u ⟨hc, hq, hw, hd, hf, ho⟩ => tryStart_starts hk hc hq hw hd hf ho
  case ends =>
    exact fun j => runs_of (f := (·.jobOver)) (fun _ _ => rfl) fun u ⟨hc, hj, hd, hs⟩ => jobOver_ends hc hj hd hs

end Sys2Proof.Machine
end

section
/-!
CERTIFICATE. The Weir: the start of a period, what it fills, the words it admits and the override of the floor (O52).
-/
namespace Sys2Proof.Machine

/-! ### What a period start leaves: the start noted, whether the speed was measured, and the counter -/

/-- The start of the period in force, whether its speed has been measured, and the tick. -/
def State.periodView (s : State) : Nat × Bool × BitVec 80 := (s.weir.start, s.weir.sped, s.counter)

section Frame
variable (s : State)

@[simp] theorem periodView_wr (pg : Nat) (f : Fld) (v : Nat) : (s.wr pg f v).periodView = s.periodView := by
  simp only [State.periodView, wr_fields]
@[simp] theorem periodView_raise (pg f d : Nat) : (s.raise pg f d).periodView = s.periodView := rfl
@[simp] theorem periodView_hit (a lo w k : Nat) (b : Bool) : (s.hit a lo w k b).periodView = s.periodView := rfl
@[simp] theorem periodView_incWrap (pg : Nat) (f : Fld) : (s.incWrap pg f).periodView = s.periodView := by
  simp only [State.incWrap, periodView_hit, periodView_wr]
@[simp] theorem periodView_setHead (pg : Nat) (h : Hdr) : (s.setHead pg h).periodView = s.periodView := rfl
@[simp] theorem periodView_setAct (a : Nat) (x : WeirAct) : (s.setAct a x).periodView = s.periodView := rfl
@[simp] theorem periodView_setSc (n : Nat) (x : DramSc) : (s.setSc n x).periodView = s.periodView := by
  simp only [State.setSc, State.scRegs, periodView_wr]; rfl

@[simp] theorem periodView_applyWords (l : List (Nat × Word)) : (s.applyWords l).periodView = s.periodView := by
  induction l generalizing s with
  | nil => rfl
  | cons e l ih => exact ih _

theorem periodView_takeDue (pg : Nat) (c : ApplyClass) : (s.takeDue pg c).periodView = s.periodView := by
  simp only [State.takeDue]
  split
  · split <;> rfl
  · rfl

theorem periodView_boundary (pg : Nat) (c : ApplyClass) : (s.boundary pg c).periodView = s.periodView := by
  simp only [State.boundary]
  split
  · simp only [State.countApply, periodView_raise, periodView_hit, periodView_setHead, periodView_applyWords,
      periodView_takeDue]
  · rfl

theorem periodView_weirStalls (n : Nat) : (s.weirStalls n).periodView = s.periodView := by
  induction n with
  | zero => rfl
  | succ n ih =>
    rw [← ih]
    simp only [State.weirStalls]
    split
    · rfl
    · split <;> simp only [periodView_raise, periodView_wr, periodView_setAct]

theorem periodView_weirReset : s.weirReset.periodView = s.periodView := by
  rw [State.weirReset]
  split <;> rfl

theorem periodView_weirApply : s.weirApply.periodView = s.periodView := by
  simp only [State.weirApply]
  split
  · exact periodView_boundary s _ _
  · split
    · exact periodView_boundary s _ _
    · exact periodView_takeDue s _ _

theorem periodView_weirThrottle : s.weirThrottle.periodView = s.periodView := by
  have hset : ∀ b, ((s.setWeir { s.weir with throttled := b }).wr pgWEIR R.WEIR_STAT_THROT (b2n b)).periodView =
      s.periodView := fun b => (periodView_wr _ _ _ _).trans rfl
  simp only [State.weirThrottle]
  split
  · rfl
  · split <;> rw [periodView_raise, hset]

theorem periodView_weirUnguar : s.weirUnguar.periodView = s.periodView := by
  simp only [State.weirUnguar]
  split <;> simp only [periodView_raise, periodView_wr]

theorem periodView_weirFill (n : Nat) : (s.weirFill n).periodView = s.periodView := by
  induction n with
  | zero => rfl
  | succ n ih =>
    rw [← ih]
    simp only [State.weirFill]
    split
    · rfl
    · exact periodView_setAct _ _ _

theorem weir_setWeir (x : WeirS) : (s.setWeir x).weir = x := rfl

theorem periodView_weirStatus : s.weirStatus.periodView = s.periodView := by
  simp only [State.weirStatus]
  split
  · split <;> simp only [State.periodView, wr_fields, setWeir_fields, weir_setWeir, raise_fields]
  · simp only [State.periodView, wr_fields, setWeir_fields, weir_setWeir]

theorem periodView_pauseStart (n : Nat) : (s.pauseStart n).periodView = s.periodView := by
  induction n with
  | zero => rfl
  | succ n ih =>
    rw [← ih]
    simp only [State.pauseStart]
    split
    · simp only [State.setScState, periodView_incWrap, periodView_wr, periodView_setSc]
    · rfl

/-- A period that begins notes its start; its speed has not been measured. -/
theorem periodView_weirBegin (at_ : Nat) : (s.weirBegin at_).periodView = (at_, false, s.counter) := by
  have hfirst : (if s.weir.begun then (s.wr pgWEIR R.WEIR_STAT_RTSTALL 0).weirStalls 24 else s).counter = s.counter := by
    have hstalls : ∀ n, ((s.wr pgWEIR R.WEIR_STAT_RTSTALL 0).weirStalls n).counter = s.counter := fun n =>
      (congrArg (·.2.2) ((periodView_weirStalls _ n).trans (periodView_wr s _ _ _)) :)
    split
    · exact hstalls 24
    · rfl
  simp only [State.weirBegin, periodView_weirStatus, periodView_weirFill, periodView_weirUnguar, periodView_weirThrottle,
    periodView_weirApply, periodView_weirReset]
  simp only [State.periodView, State.setWeir, hfirst]

end Frame

/-! ### The start of a period (R141, R506, R509) -/

section Period
variable {s : State}

theorem weirPeriod_pos (s : State) : 0 < s.weirPeriod := by
  simp only [State.weirPeriod, clampN]
  split
  · decide
  · split
    · decide
    · omega

/-- Within a period no start is due. -/
theorem weirRoll_within (hb : s.weir.begun = true) (ht : s.now < s.weir.start + s.weirPeriod) : s.weirRoll = s := by
  have hpass : s.weirPass = s := by
    simp only [State.weirPass, hb, ht, decide_true, Bool.and_self, if_true]
  simp only [State.weirRoll, hpass, hb, decide_true, Bool.and_self, if_true]

/-- At the end of a period the next one begins, with its pauses (R141, R545). -/
theorem weirRoll_starts (hb : s.weir.begun = true) (ht : s.weir.start + s.weirPeriod = s.now) :
    s.weirRoll = (s.weirBegin s.now).pauseStart 8 := by
  obtain ⟨hstart, -, hcounter⟩ : (s.weirBegin s.now).weir.start = s.now ∧ (s.weirBegin s.now).weir.sped = false ∧
      (s.weirBegin s.now).counter = s.counter := by
    simpa only [State.periodView, Prod.mk.injEq] using periodView_weirBegin s s.now
  have hnow : (s.weirBegin s.now).now = s.now := congrArg BitVec.toNat hcounter
  have hpass : s.weirPass = s.weirBegin s.now := by
    simp only [State.weirPass, hb, ht, Nat.lt_irrefl, decide_false, Bool.and_false, Bool.false_eq_true, if_false, if_true,
      hstart, hnow, Nat.sub_self, Nat.zero_div]
  have hne : ¬ s.now = s.weir.start := by
    have := weirPeriod_pos s
    omega
  simp only [State.weirRoll, hpass, hstart, hne, decide_false, Bool.false_and, Bool.false_eq_true, if_false]

/-- A period start measures the speed once. -/
theorem weirStart_starts (hb : s.weir.begun = true) (ht : s.weir.start + s.weirPeriod = s.now) (speed : Nat) :
    s.weirStart speed =
      (let z := (s.weirBegin s.now).pauseStart 8
       (z.setWeir { z.weir with sped := true }).weirSpeed speed) := by
  have hsped : ((s.weirBegin s.now).pauseStart 8).weir.sped = false := by
    have h := (periodView_pauseStart (s.weirBegin s.now) 8).trans (periodView_weirBegin s s.now)
    exact congrArg (·.2.1) h
  simp only [State.weirStart, weirRoll_starts hb ht, hsped, Bool.false_eq_true, if_false]

end Period

/-! ### Banks and levels (R509, R521) -/

section Fill
variable (s : State)

theorem act_setAct (a : Nat) (x : WeirAct) (b : Nat) : (s.setAct a x).act b = if a = b then x else s.act b := by
  simp only [State.act, State.setAct, mget_mset]
  split
  · split
    · exact Eq.symm ‹_›
    · rfl
  · rfl

/-- What filling leaves: the settings and whether the Weir throttles. -/
theorem settings_weirFill (n : Nat) : (s.weirFill n).regs = s.regs ∧ (s.weirFill n).weir.throttled = s.weir.throttled := by
  induction n with
  | zero => exact ⟨rfl, rfl⟩
  | succ n ih =>
    simp only [State.weirFill]
    split <;> exact ih

/-- What a period start makes of an activity. -/
def State.filled (s : State) (a : Nat) : WeirAct :=
  { s.act a with bank := if s.actThrottled a then (s.act a).bank else min ((s.act a).bank + (s.act a).level) (s.burst a),
                 level := s.effBudget a }

/-- Each activity below `n` but 20 is filled by itself, the others stay. -/
theorem act_weirFill (n a : Nat) : (s.weirFill n).act a = if a < n ∧ a ≠ 20 then s.filled a else s.act a := by
  induction n with
  | zero => rw [if_neg (fun h => Nat.not_lt_zero a h.1)]; rfl
  | succ n ih =>
    obtain ⟨hregs, hthrot⟩ := settings_weirFill s n
    have hrd : ∀ pg f, (s.weirFill n).rd pg f = s.rd pg f := fun pg f => by simp only [State.rd, State.word, hregs]
    have hthr : ∀ k, (s.weirFill n).actThrottled k = s.actThrottled k := fun k => by simp only [State.actThrottled, hthrot]
    have hburst : ∀ k, (s.weirFill n).burst k = s.burst k := fun k => by simp only [State.burst, hrd]
    have heff : ∀ k, (s.weirFill n).effBudget k = s.effBudget k := fun k => by
      simp only [State.effBudget, State.budget, hthr, hrd]
    by_cases hn : n = 20
    · have hskip : (s.weirFill (n + 1)) = s.weirFill n := by simp only [State.weirFill, if_pos hn]
      rw [hskip, ih]
      exact if_congr (by omega) rfl rfl
    · have hstep : (s.weirFill (n + 1)).act a =
          if n = a then (s.weirFill n).filled n else (s.weirFill n).act a := by
        simp only [State.weirFill, if_neg hn, act_setAct, State.filled]
      rw [hstep, ih]
      by_cases ha : n = a
      · subst ha
        rw [if_pos rfl, if_pos ⟨Nat.lt_succ_self n, hn⟩]
        rw [if_neg (fun h => Nat.lt_irrefl n h.1)] at ih
        simp only [State.filled, ih, hthr, hburst, heff]
      · rw [if_neg ha]
        exact if_congr (by omega) rfl rfl

end Fill

/-! ### A set whose sums exceed a floor (R514) -/

section Apply
variable {s : State}

theorem regs_takeDue (s : State) (pg : Nat) (c : ApplyClass) : (s.takeDue pg c).regs = s.regs := by
  simp only [State.takeDue]
  split
  · split <;> rfl
  · rfl

/-- A due set that exceeds a floor is not applied: it shows, and every budget stays. -/
theorem weirApply_refused {e : Nat × Word} {p : List (Nat × Word)} {n : Nat} (hp : s.dueWords pgWEIR .period = e :: p)
    (ho : weirOver (weirSums (s.applyWords (e :: p)).budget)
      ((s.applyWords (e :: p)).weirFloors (s.applyWords (e :: p)).weirPeriod) = some n) :
    s.weirApply.weir.overSet = true ∧ ∀ a, s.weirApply.budget a = s.budget a := by
  simp only [State.weirApply, hp, List.isEmpty_cons, Bool.false_eq_true, if_false, ho]
  refine ⟨rfl, fun a => ?_⟩
  simp only [State.budget, State.rd, State.word, raise_fields, setWeir_fields, regs_takeDue]

end Apply

/-! ### Words (R510, R516, R518) -/

section Admit
variable {s : State} {a : Nat}

/-- Within a period a word meets the tokens as they are. -/
theorem admitWord_within (hb : s.weir.begun = true) (ht : s.now < s.weir.start + s.weirPeriod) :
    s.admitWord a none = (s.weirAdmit a).2 := by
  simp only [State.admitWord, weirRoll_within hb ht]

theorem weirAdmit_level (ha : a ≠ 20) (hl : 0 < (s.act a).level) :
    s.weirAdmit a = (true, s.setAct a { s.act a with level := (s.act a).level - 1, admitted := (s.act a).admitted + 1 }) := by
  simp only [State.weirAdmit, if_neg ha, if_pos hl]

theorem weirAdmit_bank (ha : a ≠ 20) (hl : (s.act a).level = 0) (hk : 0 < (s.act a).bank) (hs : 0 < s.weir.spare)
    (ht : s.actThrottled a = false) :
    s.weirAdmit a = (true, (s.setWeir { s.weir with spare := s.weir.spare - 1 }).setAct a
      { s.act a with bank := (s.act a).bank - 1, admitted := (s.act a).admitted + 1 }) := by
  simp only [State.weirAdmit, if_neg ha, hl, Nat.lt_irrefl, hk, hs, ht, and_self, if_true, if_false]

theorem weirAdmit_stalls (ha : a ≠ 20) (hl : (s.act a).level = 0)
    (h : (s.act a).bank = 0 ∨ s.weir.spare = 0 ∨ s.actThrottled a = true) :
    s.weirAdmit a = (false, s.setAct a { s.act a with stalled := true }) := by
  have hno : ¬ (0 < (s.act a).bank ∧ 0 < s.weir.spare ∧ s.actThrottled a = false) := by
    rintro ⟨hk, hs, ht⟩
    rcases h with h | h | h
    · omega
    · omega
    · exact Bool.false_ne_true (ht.symm.trans h)
  simp only [State.weirAdmit, if_neg ha, hl, Nat.lt_irrefl, if_neg hno, if_false]

/-- A word of a transaction that a level token admits enters the queue of its subchannel. -/
theorem admitWord_transaction {r : DramReq} (ha : a ≠ 20) (hb : s.weir.begun = true)
    (ht : s.now < s.weir.start + s.weirPeriod) (hl : 0 < (s.act a).level) :
    s.admitWord a (some r) =
      (s.setAct a { s.act a with level := (s.act a).level - 1, admitted := (s.act a).admitted + 1 }).enqueue
        { pa := r.pa.toNat, port := r.port.val, bursts := r.len.val + 1, write := r.write, rmw := r.write && r.part,
          bar := r.bar.val, admitAt := s.now } := by
  have hnow : ∀ x, (s.setAct a x).now = s.now := fun _ => rfl
  simp only [State.admitWord, weirRoll_within hb ht, weirAdmit_level ha hl, hnow, if_true]

end Admit

/-- An override of the floor that passes the checks shows at once in UNGUAR (R516). -/
theorem regCmd_floorOverride {u : State} {m : Master} {v : Word}
    (h : u.accepts m (fieldAddr pgWEIR R.WEIR_FLOOROVR) .weir 0 = true) :
    u.regCmd m pgWEIR R.WEIR_FLOOROVR v =
      (u.stored pgWEIR R.WEIR_FLOOROVR v).weirUnguar.acceptedBy u m .weir 0 (fieldAddr pgWEIR R.WEIR_FLOOROVR) v :=
  regCmd_stored h (by decide) (by decide) (by decide) rfl (g := State.weirUnguar) rfl

/-- Settles O52: the period start, what it fills and refuses, each outcome of a word, and the override of the floor. -/
theorem weirPeriods : Obligations.WeirPeriods := by
  refine ⟨?start, ?fill, ?throttled, ?refused, ?level, ?bank, ?stalls, ?transaction, ?floor⟩
  case start =>
    exact fun speed => runs_of (f := (·.weirStart speed.toNat)) (fun _ _ => rfl) fun u ⟨hb, ht⟩ => weirStart_starts hb ht _
  case fill =>
    intro s a ha h20 ht
    simp only [act_weirFill, if_pos (And.intro ha h20), State.filled, State.effBudget, ht, Bool.false_eq_true, if_false]
  case throttled =>
    intro s a ha h20 ht
    simp only [act_weirFill, if_pos (And.intro ha h20), State.filled, State.effBudget, ht, if_true]
  case refused => exact fun s e p n hp ho => weirApply_refused hp ho
  case level =>
    refine fun a ha => runs_of (f := (·.admitWord a.val none)) (fun _ _ => rfl) fun u ⟨hb, ht, hl⟩ => ?_
    rw [admitWord_within hb ht, weirAdmit_level ha hl]
  case bank =>
    refine fun a ha => runs_of (f := (·.admitWord a.val none)) (fun _ _ => rfl) fun u ⟨hb, ht, hl, hk, hs, hthr⟩ => ?_
    rw [admitWord_within hb ht, weirAdmit_bank ha hl hk hs hthr]
  case stalls =>
    refine fun a ha => runs_of (f := (·.admitWord a.val none)) (fun _ _ => rfl) fun u ⟨hb, ht, hl, h⟩ => ?_
    rw [admitWord_within hb ht, weirAdmit_stalls ha hl h]
  case transaction =>
    exact fun a r ha => runs_of (f := (·.admitWord a.val (some r))) (fun _ _ => rfl)
      fun u ⟨hb, ht, hl⟩ => admitWord_transaction ha hb ht hl
  case floor =>
    exact fun m v => runs_of (f := (·.regCmd m pgWEIR R.WEIR_FLOOROVR v)) (fun _ _ => rfl) fun u h => regCmd_floorOverride h

end Sys2Proof.Machine
end

section
/-!
CERTIFICATE. The end of a health period writes the count of twin PRBS errors, which O57 leaves out: its refutation.
-/
namespace Sys2Proof.Machine

/-- What follows every command leaves the registers of the TWIN page. -/
theorem rd_after_twin (e s : State) (f : Fld) (hf : f.off < 4096) : (e.after s).rd pgTWIN f = e.rd pgTWIN f := by
  have hpage : sidePage (pageOf (pgTWIN * 4096 + f.off)) = false := by
    have htwin : pgTWIN < 4095 := by decide
    have hspace : ¬ 2 ^ 24 ≤ pgTWIN * 4096 + f.off := by omega
    rw [pageOf, if_neg hspace]
    exact congrArg sidePage (pageNo_headAddr pgTWIN f.off hf)
  have hword : (e.after s).word (pgTWIN * 4096 + f.off) = e.word (pgTWIN * 4096 + f.off) := by
    rw [← inner_word _ _ hpage, inner_after, inner_word _ _ hpage]
  simp only [State.rd, hword]

/-- A READY device in pair operation whose twin lanes have counted one PRBS error, long after its last health period. -/
def twinPrbsSeen : State :=
  { State.reset with dev := { State.reset.dev with state := .ready },
                     twin := { pairedId := 1, health := { twinPrbs := 1 } }, counter := 0x10000000000#80 }

/-- The end of its health period writes the count to TWIN_HEALTH2 (R595). -/
theorem twinPrbsSeen_healthPeriod : twinPrbsSeen.healthPeriod.rd pgTWIN R.TWIN_HEALTH2_TWINPRBS = 1 := by decide

/-- Refutes O57: with one PRBS error counted on the twin lanes the end of a health period writes TWINPRBS of TWIN_HEALTH2,
which the last clause leaves at 0. -/
theorem not_heartbeats : ¬ Obligations.Heartbeats := by
  unfold Obligations.Heartbeats
  rintro ⟨-, -, -, -, -, -, hperiod⟩
  have hran := hperiod 0#80 twinPrbsSeen (by decide)
  have hexec : exec (.twinHealthPeriod 0#80) twinPrbsSeen = .next (twinPrbsSeen.healthPeriod.after twinPrbsSeen) := rfl
  rw [hexec] at hran
  injection hran with hafter
  have hread := congrArg (fun z : State => z.rd pgTWIN R.TWIN_HEALTH2_TWINPRBS) hafter
  simp only [rd_after_twin _ _ R.TWIN_HEALTH2_TWINPRBS (by decide), twinPrbsSeen_healthPeriod] at hread
  revert hread
  decide

end Sys2Proof.Machine
end
